-- ==== Sys2Proof/Word.lean ====
section
/-!
DEFINITION. The words of the LB440 and the fixed-size table its blocks keep their records in.
-/

namespace Sys2Proof

/-- A byte of a frame, a message or an access (08 R142). -/
abbrev Byte := BitVec 8

/-- A 16-bit field: a request id, a counter, a CRC-16. -/
abbrev Half := BitVec 16

/-- A 32-bit field: a host address, a local address, a mask, a value. -/
abbrev Word := BitVec 32

/-- A sequence number, 0 to 63, wrapping (09 R155). -/
abbrev Seq := BitVec 6

/-- A fixed number of records of one kind, indexed from 0: the windows, tags, slots, ports and
sources of the part. -/
structure Table (α : Type) (n : Nat) where
  rows : List α
  size : rows.length = n
  deriving DecidableEq, Repr

namespace Table

variable {α β : Type} {n : Nat}

/-- The record at index `i`. -/
def get (t : Table α n) (i : Fin n) : α := t.rows[i.val]'(by rw [t.size]; exact i.isLt)

/-- The table with the record at index `i` replaced. -/
def set (t : Table α n) (i : Fin n) (a : α) : Table α n :=
  ⟨t.rows.set i.val a, by rw [List.length_set, t.size]⟩

/-- The table with the record at index `i` changed by `f`. -/
def modify (t : Table α n) (i : Fin n) (f : α → α) : Table α n := t.set i (f (t.get i))

/-- The table with every record changed by `f`. -/
def map (f : α → β) (t : Table α n) : Table β n := ⟨t.rows.map f, by rw [List.length_map, t.size]⟩

/-- A table of `n` equal records. -/
def fill (n : Nat) (a : α) : Table α n := ⟨List.replicate n a, List.length_replicate⟩

/-- The indices of a table of `n` records, lowest first. -/
def indices (n : Nat) : List (Fin n) := List.finRange n

end Table

end Sys2Proof
end

