-- ==== Sys2Proof/Machine/Bytes.lean ====
section
/-!
DEFINITION. Byte order (00, Conventions: most significant byte first) and the two CRCs of the part
(08 R143, 05 R99).
-/

namespace Sys2Proof.Machine

/-- A 16-bit field as its two bytes, most significant first. -/
def be16 (x : Half) : List Byte := [x.extractLsb' 8 8, x.extractLsb' 0 8]

/-- A 32-bit field as its four bytes, most significant first. -/
def be32 (x : Word) : List Byte :=
  [x.extractLsb' 24 8, x.extractLsb' 16 8, x.extractLsb' 8 8, x.extractLsb' 0 8]

/-- The number that bytes spell, most significant byte first. -/
def ofBE (bs : List Byte) : Nat := bs.foldl (fun n b => n * 256 + b.toNat) 0

/-- The 32-bit value of up to four bytes, most significant first, the upper bytes 0 (04 R69). -/
def wordBE (bs : List Byte) : Word := BitVec.ofNat 32 (ofBE bs)

/-- The low `n` bytes of a 32-bit value, most significant first (04 R69, 06 R119). -/
def lowBytes (n : Nat) (x : Word) : List Byte := (be32 x).drop (4 - n)

/-- A yes/no field: 0 for no, 1 for yes (08 R147). -/
def yesNo (b : Bool) : Byte := if b then 1 else 0

/-- A count as a byte. -/
def countByte (n : Nat) : Byte := BitVec.ofNat 8 n

/-- `n` bytes of zero. -/
def zeros (n : Nat) : List Byte := List.replicate n 0

/-- Exactly `n` bytes of an answer: what a target returns to an access of `n` bytes (04 R64;
notes/assumptions/8.md). -/
def exactly (n : Nat) (bs : List Byte) : List Byte := bs.take n ++ zeros (n - bs.length)

/-- A counter that stays at its largest value (07 R130, 09 R173, 05 R105, 06 R113). -/
def satInc {n : Nat} (x : BitVec n) : BitVec n := if x = BitVec.allOnes n then x else x + 1

/-- One bit of the CRC-16 of a frame: shift left, and exclusive-OR 0x1021 when the bit shifted out
was 1 (08 R143). -/
def crc16Bit (r : Half) : Half := if r.msb then (r <<< 1) ^^^ 0x1021#16 else r <<< 1

/-- One byte of the CRC-16: exclusive-ORed into the high eight bits, then eight shifts (08 R143). -/
def crc16Byte (r : Half) (b : Byte) : Half :=
  Nat.repeat crc16Bit 8 (r ^^^ (b.zeroExtend 16 <<< 8))

/-- The CRC-16 of a frame's bytes from LEN to the last body byte, initial value 0xFFFF (08 R143). -/
def crc16 (bs : List Byte) : Half := bs.foldl crc16Byte 0xFFFF#16

/-- One bit of the CRC-32 of a job: shift right, and exclusive-OR 0xEDB88320 when the bit shifted out
was 1 (05 R99). -/
def crc32Bit (r : Word) : Word := if r.getLsbD 0 then (r >>> 1) ^^^ 0xEDB88320#32 else r >>> 1

/-- One byte of the CRC-32: exclusive-ORed into the low eight bits, then eight shifts (05 R99). -/
def crc32Byte (r : Word) (b : Byte) : Word := Nat.repeat crc32Bit 8 (r ^^^ b.zeroExtend 32)

/-- The CRC accumulator after folding bytes in ascending local address order (05 R99). -/
def crc32Fold (acc : Word) (bs : List Byte) : Word := bs.foldl crc32Byte acc

/-- The CRC that JOB-GET and JOB-NOTICE report: the accumulator exclusive-ORed with 0xFFFFFFFF
(05 R99). -/
def crcReported (acc : Word) : Word := acc ^^^ 0xFFFFFFFF#32

end Sys2Proof.Machine
end

