-- ==== Sys2Proof/Config.lean ====
section
/-!
DEFINITION. What the LB440 fixes (00, Capacities) and the free values: what the spec leaves open.
-/

namespace Sys2Proof.Config

/-- Quarters of a microsecond in a microsecond. Time is counted in quarters of a microsecond, the
largest unit in which the byte time of every rate code is whole (09 R156: 1.25 us at rate code 4). -/
def quantaPerUs : Nat := 4

/-- A time of `n` microseconds. -/
def us (n : Nat) : Nat := quantaPerUs * n

/-- A time of `n` milliseconds. -/
def ms (n : Nat) : Nat := us (1000 * n)

/-- A completion limit of `n` units of 100 us (03 R50). -/
def completionUnits (n : Nat) : Nat := us (100 * n)

/-- The fixed completion time of a FENCE, 65535 units of 100 us (02 R31, 03 R50). -/
def fenceUnits : Nat := 65535

/-- The beacon interval while the link is DOWN, 50 ms (09 R169). -/
def beaconInterval : Nat := ms 50

/-- The places of the direct reply list (08 R150). -/
def directPlaces : Nat := 4

/-- The frames of the replay list (09 R166). -/
def replayFrames : Nat := 8

/-- The replay timer expiry that ends the session (09 R168). -/
def replayLimit : Nat := 4

/-- The bytes of a read-ahead line (04 R80). -/
def lineBytes : Nat := 64

/-- FREE VALUE (notes/assumptions/4.md, DESIGN CHOICE). Which of several events that are due at the
same moment is taken first: the spec says that either may come first (03 R54, R56). Applied to the
number of free choices made before. -/
opaque freeChoice : Nat → Nat

/-- FREE VALUE (notes/assumptions/5.md, DESIGN CHOICE). The rank of an interrupt source when one
request judges several sources (06 R121, R125): the spec does not say in which order their
operations join a port's queue. Applied to the number of free choices made before and to the source
index. -/
opaque freeRank : Nat → Nat → Nat

end Sys2Proof.Config
end

