-- ==== Sys2Proof/Syntax.lean ====
section
/-!
DEFINITION. The commands of the LB440: one constructor of `Instr` for each row of
spec/opcode_table.json, and the types of their operands.
-/

namespace Sys2Proof

/-- The header fields of a well-formed frame from the host (08 R142). SEQ and ACK are at most 63 in a
well-formed frame; the part does not read the two credit bytes of a host frame. -/
structure FrameHead where
  seq : Seq
  ack : Seq
  freePosted : Byte := 0
  freeTags : Byte := 0
  deriving DecidableEq, Repr

/-- The kinds of request (08 R144). -/
inductive RequestKind where
  | read | write | post | modify | fence
  | identify | statusGet | configSet | configGet | linkRate | reset
  | windowSet | windowGet
  | portSet | portGet | portHold | portRelease
  | abort
  | jobLoad | jobStart | jobPause | jobResume | jobStop | jobGet
  | irqSet | irqMask | irqDone | irqGet
  | faultGet | faultClear
  deriving DecidableEq, Repr

/-- The answer of a local target to the transaction in progress (04 R64). ACCEPT of a read returns
the bytes read, in ascending local address order. -/
inductive Answer where
  | accept (data : List Byte)
  | error
  | retry
  deriving DecidableEq, Repr

/-- What waits out a hold-off (04 R65): a request list entry or the write half of a locked MODIFY
(both kept in the tag), a posted list entry, a job slot's offered chunk, or the queued interrupt
operation of a source. -/
inductive HoldItem where
  | request (tag : Fin 32)
  | posted (slot : Fin 32)
  | chunk (slot : Fin 4)
  | operation (source : Fin 32)
  deriving DecidableEq, Repr

/-- What carries out a waiting FULL reset (07 R139): the acknowledgement of the frame that carried
the FULL REPLY (here in an ACK frame), or a link down, through replay exhaustion or a host INIT. -/
inductive FullResetEvent where
  | acknowledged (f : FrameHead) (extra : List Byte)
  | exhausted
  | hostInit (f : FrameHead) (extra : List Byte)
  deriving DecidableEq, Repr

/-- The commands, in the order of spec/opcode_table.json. A request is a DATA frame from the host:
its header, its request id and the bytes of its body (08 R144, R146), so that a message of a wrong
length or with a field outside its encoding is a command too. -/
inductive Instr where
  | powerOn
  | resetNAssert
  | resetNRelease
  | freezeActive
  | freezeInactive
  | irqLineRise (source : Fin 32)
  | irqLineFall (source : Fin 32)
  /-- bytes arriving from HRX, which with the receive bytes make a collected frame that fails its CRC -/
  | frameCrcFailure (hrx : List Byte)
  /-- a good frame, its bytes from FTYPE to the last body byte, which is malformed -/
  | malformedFrame (content : List Byte)
  | hostDataFrameNotTaken (f : FrameHead) (kind : Byte) (id : Half) (body : List Byte)
  | hostAckFrame (f : FrameHead) (extra : List Byte)
  /-- the ACK frame that acknowledges the frame of a LINK-RATE REPLY -/
  | rateChange (f : FrameHead) (extra : List Byte)
  | fullResetCarriedOut (event : FullResetEvent)
  | hostNak (f : FrameHead) (extra : List Byte)
  | hostInit (f : FrameHead) (extra : List Byte)
  | replayTimerExpiry
  | beaconTimerExpiry
  | frameTransmitEnd
  | unknownKind (f : FrameHead) (kind : Byte) (id : Half) (body : List Byte)
  | read (f : FrameHead) (id : Half) (body : List Byte)
  | write (f : FrameHead) (id : Half) (body : List Byte)
  | post (f : FrameHead) (id : Half) (body : List Byte)
  | modify (f : FrameHead) (id : Half) (body : List Byte)
  | fence (f : FrameHead) (id : Half) (body : List Byte)
  | identify (f : FrameHead) (id : Half) (body : List Byte)
  | statusGet (f : FrameHead) (id : Half) (body : List Byte)
  | configSet (f : FrameHead) (id : Half) (body : List Byte)
  | configGet (f : FrameHead) (id : Half) (body : List Byte)
  | linkRate (f : FrameHead) (id : Half) (body : List Byte)
  /-- RESET whose scope byte is not FULL -/
  | resetFlush (f : FrameHead) (id : Half) (body : List Byte)
  /-- RESET whose scope byte is FULL -/
  | resetFull (f : FrameHead) (id : Half) (body : List Byte)
  | windowSet (f : FrameHead) (id : Half) (body : List Byte)
  | windowGet (f : FrameHead) (id : Half) (body : List Byte)
  | portSet (f : FrameHead) (id : Half) (body : List Byte)
  | portGet (f : FrameHead) (id : Half) (body : List Byte)
  | portHold (f : FrameHead) (id : Half) (body : List Byte)
  | portRelease (f : FrameHead) (id : Half) (body : List Byte)
  | abort (f : FrameHead) (id : Half) (body : List Byte)
  | jobLoad (f : FrameHead) (id : Half) (body : List Byte)
  | jobStart (f : FrameHead) (id : Half) (body : List Byte)
  | jobPause (f : FrameHead) (id : Half) (body : List Byte)
  | jobResume (f : FrameHead) (id : Half) (body : List Byte)
  | jobStop (f : FrameHead) (id : Half) (body : List Byte)
  | jobGet (f : FrameHead) (id : Half) (body : List Byte)
  | irqSet (f : FrameHead) (id : Half) (body : List Byte)
  | irqMask (f : FrameHead) (id : Half) (body : List Byte)
  | irqDone (f : FrameHead) (id : Half) (body : List Byte)
  | irqGet (f : FrameHead) (id : Half) (body : List Byte)
  | faultGet (f : FrameHead) (id : Half) (body : List Byte)
  | faultClear (f : FrameHead) (id : Half) (body : List Byte)
  | portStart (port : Fin 4)
  | targetAnswer (port : Fin 4) (answer : Answer)
  | responseLimitExpiry (port : Fin 4)
  | holdOffExpiry (item : HoldItem)
  | completionTimerExpiry (tag : Fin 32)
  deriving DecidableEq, Repr

end Sys2Proof
end

