-- ==== Sys2Proof/Machine/State.lean ====
section
/-!
DEFINITION. The state of the LB440, block by block (00, Blocks of the part), as plain data; the
reasons a step could stop; and the state right after power-on.
-/

namespace Sys2Proof.Machine

/-! ## Names the spec writes in capitals -/

/-- The statuses of replies, tags, jobs and the fault record (00, Statuses; 08 R154). -/
inductive Status where
  | ok | malformed | unknownKind | badField | unmapped | isProtected | notPostable | misaligned
  | noTag | duplicateId | busError | noResponse | retryExhausted | timeout | aborted | notFound
  | tooLate | writeFailed | state | overlap | credit
  deriving DecidableEq, Repr

/-- The miss policy (01 R14). -/
inductive MissPolicy where
  | reply | hold
  deriving DecidableEq, Repr

/-- The record mode of the fault unit (07 R128). -/
inductive RecordMode where
  | all | severe
  deriving DecidableEq, Repr

/-- The cause of the last reset (07 R141). -/
inductive ResetCause where
  | power | pin | soft
  deriving DecidableEq, Repr

/-- The nine fault kinds, in the order of their codes (07 R127, 08 R154). -/
inductive FaultKind where
  | postedFailed | postRefused | creditOverrun | guardMiss | jobFailed | irqFetchFailed
  | irqAckFailed | linkDown | accessFailed
  deriving DecidableEq, Repr

/-- The state of a notice (00, Terms): settled, waiting to be sent, or sent and not acknowledged. -/
inductive NoticeState where
  | settled | due | sent
  deriving DecidableEq, Repr

/-! ## Window table (01) -/

/-- A window record (01 R1). The size code of a record that has never been set is 0 (01 R16). -/
structure Window where
  enabled : Bool
  hostBase : Word
  sizeCode : Fin 32
  port : Fin 4
  localBase : Word
  readOnly : Bool
  postable : Bool
  prefetchable : Bool
  isVolatile : Bool
  deriving DecidableEq, Repr

/-- A record after reset: disabled, every field zero (01 R16). -/
def Window.zero : Window := ⟨false, 0, 0, 0, 0, false, false, false, false⟩

/-! ## Admission and ordering (02) -/

/-- A posted record (02 R22), with what else the POST keeps of its decode until it ends: the window index
and all four attributes (01 R7). `place` is the POST's place in arrival order; `flushed` marks a POST that
was on its port when a FLUSH was taken (02 R35). -/
structure Posted where
  window : Fin 16
  port : Fin 4
  hostAddr : Word
  localAddr : Word
  count : Nat
  data : List Byte
  isVolatile : Bool
  prefetchable : Bool
  readOnly : Bool
  postable : Bool
  retries : Nat
  holdOff : Option Nat
  covering : List (Fin 32)
  place : Nat
  flushed : Bool
  deriving DecidableEq, Repr

/-- An entry of a port's request list: a tag (READ, WRITE, MODIFY) or a posted slot (02 R25). -/
inductive Entry where
  | tag (t : Fin 32)
  | post (slot : Fin 32)
  deriving DecidableEq, Repr

/-! ## Tag table (03) -/

/-- Where a tagged request stands (03 R39). -/
inductive TagState where
  | free | queued | active | waiting | ready | discarding
  deriving DecidableEq, Repr

/-- The kind of a tagged request (03 R38). -/
inductive TagKind where
  | read | write | modify | fence
  deriving DecidableEq, Repr

/-- What a tag holds of its decode and access, until the request ends: port, local address, window index
and all four attributes (01 R7); absent for a FENCE (03 R38). -/
structure Access where
  window : Fin 16
  port : Fin 4
  hostAddr : Word
  localAddr : Word
  isVolatile : Bool
  prefetchable : Bool
  readOnly : Bool
  postable : Bool
  count : Nat
  deriving DecidableEq, Repr

/-- A tag entry (03 R38). Times are in quarters of a microsecond. `outstanding` is the FENCE's count
of covered POSTs that have not ended (02 R31); `place` is the request's place in arrival order. -/
structure Tag where
  state : TagState
  id : Half
  kind : TagKind
  access : Option Access
  data : List Byte
  setMask : Word
  clearMask : Word
  invertMask : Word
  oldNew : Option (Word × Word)
  retries : Nat
  timeLeft : Nat
  holdOff : Option Nat
  busPending : Bool
  status : Status
  covered : Nat
  failed : Nat
  outstanding : Nat
  place : Nat
  deriving DecidableEq, Repr

/-- A FREE entry: every field zero (03 R38, R59). -/
def Tag.zero : Tag :=
  ⟨.free, 0, .read, none, [], 0, 0, 0, none, 0, 0, none, false, .ok, 0, 0, 0, 0⟩

/-! ## Local ports (04) -/

/-- A port's hold set (04 R60). -/
structure HoldSet where
  host : Bool
  freeze : Bool
  guard : Bool
  deriving DecidableEq, Repr

/-- A port's settings (04 R84). -/
structure PortSettings where
  responseLimit : Byte
  retryLimit : Byte
  retryDelay : Byte
  completionLimit : Half
  jobShare : Byte
  deriving DecidableEq, Repr

/-- The default settings (04 R84, R88). -/
def PortSettings.default : PortSettings := ⟨16, 3, 8, 100, 4⟩

/-- An interrupt operation asked of a port (04 R72, 06 R114, R119): the vector read of a source, or
its acknowledge write. `place` orders the queue; `flushed` marks an operation that was in progress
when a FLUSH was taken (06 R125; notes/assumptions/6.md, DEDUCED). -/
structure IrqOp where
  source : Fin 32
  isWrite : Bool
  localAddr : Word
  size : Nat
  value : Word
  retries : Nat
  holdOff : Option Nat
  place : Nat
  flushed : Bool
  deriving DecidableEq, Repr

/-- A chunk transaction that a job slot offers a port (04 R73). `started` says that it has started at
least once (05 R97, R107). -/
structure Offer where
  isWrite : Bool
  localAddr : Word
  size : Nat
  data : List Byte
  isVolatile : Bool
  retries : Nat
  holdOff : Option Nat
  started : Bool
  deriving DecidableEq, Repr

/-- The initiator of a local transaction (04 R62), with the item it carries. -/
inductive Initiator where
  | request (t : Fin 32)
  | modifyRead (t : Fin 32)
  | modifyWrite (t : Fin 32)
  | post (slot : Fin 32)
  | chunk (slot : Fin 4) (offer : Offer)
  | operation (op : IrqOp)
  | fill
  deriving DecidableEq, Repr

/-- The transaction in progress (04 R60): what the port presents on the segment (04 R62), and the
response limit, retry limit and retry delay captured at its start (04 R63). -/
structure Txn where
  initiator : Initiator
  isWrite : Bool
  localAddr : Word
  size : Nat
  data : List Byte
  lockQualifier : Bool
  responseLimit : Byte
  retryLimit : Byte
  retryDelay : Byte
  timeLeft : Nat
  deriving DecidableEq, Repr

/-- The lock of a MODIFY (04 R60, R67): its tag, the old value read and the new value to write. -/
structure Lock where
  tag : Fin 32
  oldValue : Word
  newValue : Word
  deriving DecidableEq, Repr

/-- A port (04 R60). Its state follows from `txn`, `lock` and `holds` (04 R61) and is not stored. -/
structure Port where
  holds : HoldSet
  txn : Option Txn
  lock : Option Lock
  settings : PortSettings
  opQueue : List IrqOp
  offers : Table (Option Offer) 4
  lastSlot : Fin 4
  shareCount : Nat
  lineValid : Bool
  lineAddr : Word
  lineData : List Byte
  pendingFill : Option Word
  voidMark : Bool
  notice : NoticeState
  renewal : Bool
  deriving DecidableEq, Repr

/-- A port after reset (04 R88), with the FREEZE pin active or not. A port that comes out HELD has
its PORT-NOTICE DUE. The line's data bytes are the model's choice (notes/assumptions/11.md). -/
def Port.atReset (freeze : Bool) : Port where
  holds := ⟨false, freeze, false⟩
  txn := none
  lock := none
  settings := PortSettings.default
  opQueue := []
  offers := Table.fill 4 none
  lastSlot := 3
  shareCount := 0
  lineValid := false
  lineAddr := 0
  lineData := List.replicate Config.lineBytes 0
  pendingFill := none
  voidMark := false
  notice := if freeze then .due else .settled
  renewal := false

/-! ## Job engine (05) -/

/-- The kind of a job (05 R91). -/
inductive JobKind where
  | copy | fill | check
  deriving DecidableEq, Repr

/-- The state of a job slot (05 R90). -/
inductive JobState where
  | empty | loaded | running | pausing | paused | stopping | stopped | done | failed
  deriving DecidableEq, Repr

/-- A descriptor (05 R91). -/
structure Descriptor where
  kind : JobKind
  source : Word
  destination : Word
  length : Word
  chunkSize : Byte
  pattern : Word
  startOnLoad : Bool
  notify : Bool
  deriving DecidableEq, Repr

/-- The decode of one range of a started job (05 R93), kept until the job ends with its window index and
all four attributes (01 R7). -/
structure RangeDecode where
  window : Fin 16
  port : Fin 4
  localStart : Word
  isVolatile : Bool
  prefetchable : Bool
  readOnly : Bool
  postable : Bool
  deriving DecidableEq, Repr

/-- The run decode: one range decode for each range the job uses (05 R89). -/
structure RunDecode where
  source : Option RangeDecode
  destination : Option RangeDecode
  deriving DecidableEq, Repr

/-- The phase of a chunk (05 R89). -/
inductive ChunkPhase where
  | read | write
  deriving DecidableEq, Repr

/-- The current chunk (05 R89, R96). -/
structure Chunk where
  length : Nat
  source : Word
  destination : Word
  phase : ChunkPhase
  started : Bool
  deriving DecidableEq, Repr

/-- The content of a JOB-NOTICE (05 R104); its slot number is that of the slot that holds it. -/
structure JobContent where
  endState : JobState
  bytesDone : Nat
  crc : Word
  failStatus : Option Status
  failAddr : Option Word
  deriving DecidableEq, Repr

/-- A job slot (05 R89). -/
structure JobSlot where
  state : JobState
  active : Option Descriptor
  staged : Option Descriptor
  run : Option RunDecode
  bytesDone : Nat
  bytesLeft : Nat
  crc : Word
  failStatus : Option Status
  failAddr : Option Word
  chunk : Option Chunk
  buffer : List Byte
  flushMark : Bool
  notice : NoticeState
  latest : Option JobContent
  sent : Option JobContent
  overwritten : Byte
  deriving DecidableEq, Repr

/-- A slot after reset (05 R109). The chunk buffer's bytes are the model's choice
(notes/assumptions/11.md). -/
def JobSlot.zero : JobSlot where
  state := .empty
  active := none
  staged := none
  run := none
  bytesDone := 0
  bytesLeft := 0
  crc := 0xFFFFFFFF#32
  failStatus := none
  failAddr := none
  chunk := none
  buffer := List.replicate 64 0
  flushMark := false
  notice := .settled
  latest := none
  sent := none
  overwritten := 0

/-! ## Interrupt concentrator (06) -/

/-- The trigger of a source (06 R110). -/
inductive Trigger where
  | level | edge
  deriving DecidableEq, Repr

/-- The state of a source (06 R111). -/
inductive SourceState where
  | idle | pending | fetching | due | sent | notified | acking
  deriving DecidableEq, Repr

/-- A configured vector read (06 R110). -/
structure VectorRead where
  localAddr : Word
  size : Nat
  deriving DecidableEq, Repr

/-- A configured acknowledge write (06 R110). -/
structure AckWrite where
  localAddr : Word
  value : Word
  size : Nat
  deriving DecidableEq, Repr

/-- A source record (06 R110). A vector or acknowledge status of `none` is NONE. `noticeSeq` is the
SEQ of the frame whose building made the source SENT (06 R117; notes/assumptions/10.md). `behindFlush`
marks a cycle that a FLUSH let the source start, whose notice follows the REPLY to the FLUSH (06 R125;
notes/assumptions/21.md, DEDUCED). -/
structure Source where
  enabled : Bool
  trigger : Trigger
  priority : Fin 4
  masked : Bool
  vectorRead : Option VectorRead
  ackWrite : Option AckWrite
  state : SourceState
  latch : Bool
  coalesced : Byte
  sentCount : Option Byte
  vecStatus : Option Status
  vecValue : Word
  ackStatus : Option Status
  inFlight : Bool
  noticeSeq : Option Seq
  behindFlush : Bool
  deriving DecidableEq, Repr

/-- A source after reset (06 R126). -/
def Source.zero : Source :=
  ⟨false, .level, 0, false, none, none, .idle, false, 0, none, none, 0, none, false, none, false⟩

/-! ## Fault unit and part control (07) -/

/-- The fields that a reporting block fills in (07 R127). -/
structure FaultDetail where
  status : Status
  port : Option (Fin 4)
  id : Option Half
  slot : Option (Fin 4)
  source : Option (Fin 32)
  localAddr : Option Word
  hostAddr : Option Word
  deriving DecidableEq, Repr

/-- The fault record when it holds a fault (07 R129). -/
structure FaultRecord where
  kind : FaultKind
  detail : FaultDetail
  epoch : Byte
  more : Byte
  deriving DecidableEq, Repr

/-- The fault unit (07 R129 to R131). The summary set and the counters are indexed by the fault kind's
code less one (08 R152). -/
structure FaultUnit where
  record : Option FaultRecord
  summary : Table Bool 9
  counters : Table Half 9
  notice : NoticeState
  renewal : Bool
  deriving DecidableEq, Repr

/-- The fault unit after reset (07 R134). -/
def FaultUnit.zero : FaultUnit := ⟨none, Table.fill 9 false, Table.fill 9 0, .settled, false⟩

/-- Part control and the part-wide settings (07 R137, R139, R141). `coldStart` says that the supply
came up with RESET_N low, so that the reset cause will be POWER (07 R141). -/
structure Settings where
  missPolicy : MissPolicy
  recordMode : RecordMode
  replayTimeout : Byte
  resetCause : ResetCause
  fullWaiting : Bool
  coldStart : Bool
  deriving DecidableEq, Repr

/-- The levels of the part's input pins: FREEZE active, RESET_N low, the interrupt lines high. -/
structure Pins where
  freeze : Bool
  resetLow : Bool
  lines : Table Bool 32
  deriving DecidableEq, Repr

/-! ## Intake and host link (08, 09) -/

/-- What a message of the part is (09 R155): a REPLY, and whether it answers LINK-RATE, a FULL RESET
(09 R159) or a FLUSH (06 R125), or a notice and its holder. -/
inductive Carried where
  | reply
  | rateReply (code : Fin 5)
  | fullReply
  | flushReply
  | faultNotice
  | portNotice (port : Fin 4)
  | jobNotice (slot : Fin 4)
  | irqNotice (source : Fin 32)
  deriving DecidableEq, Repr

/-- A built message: its bytes from the kind byte on, and what it is. -/
structure Message where
  bytes : List Byte
  carries : Carried
  deriving DecidableEq, Repr

/-- A frame of the replay list (09 R155). -/
structure Sent where
  seq : Seq
  message : Message
  resend : Bool
  deriving DecidableEq, Repr

/-- Control owed (09 R155). -/
inductive ControlOwed where
  | none | nak | wait (seq : Seq)
  deriving DecidableEq, Repr

/-- The classes of the outbound arbiter (09 R166). -/
inductive OutClass where
  | direct | ready | notice
  deriving DecidableEq, Repr

/-- The running replay timer (09 R155, R168). -/
structure ReplayTimer where
  timeLeft : Nat
  timeout : Byte
  deriving DecidableEq, Repr

/-- The eight link counters (09 R173). -/
structure LinkCounters where
  crcFailures : Half
  malformedFrames : Half
  outOfSequence : Half
  duplicates : Half
  replaysSent : Half
  strayNaks : Half
  waitsSent : Half
  linkDowns : Half
  deriving DecidableEq, Repr

/-- The link counters after reset (09 R174). -/
def LinkCounters.zero : LinkCounters := ⟨0, 0, 0, 0, 0, 0, 0, 0⟩

/-- The frame on HTX: its bytes, SYNC first, and the time until its last byte has gone (09 R163). -/
structure OnLine where
  bytes : List Byte
  timeLeft : Nat
  deriving DecidableEq, Repr

/-- The host link (09 R155). `beacon` is the time to the next INIT, absent while the beacon timer is
stopped; `rx` are the receive bytes; `tx` is the frame on HTX, absent while the line is idle. -/
structure Link where
  up : Bool
  rate : Fin 5
  epoch : Byte
  nextSend : Seq
  expected : Seq
  ackOwed : Bool
  control : ControlOwed
  readyOwed : Bool
  replay : List Sent
  replayTimer : Option ReplayTimer
  expiryCount : Nat
  lastClass : OutClass
  beacon : Option Nat
  counters : LinkCounters
  rx : List Byte
  tx : Option OnLine
  deriving DecidableEq, Repr

/-- The host link when the part leaves reset (09 R174): the beacon timer runs and its first INIT is
due at once. -/
def Link.atReset : Link where
  up := false
  rate := 1
  epoch := 0
  nextSend := 0
  expected := 0
  ackOwed := false
  control := .none
  readyOwed := false
  replay := []
  replayTimer := none
  expiryCount := 0
  lastClass := .notice
  beacon := some 0
  counters := LinkCounters.zero
  rx := []
  tx := none

/-! ## The state -/

/-- The state of the LB440. `pending` is the queue of waiting commands and `freeDraws` the number of
free choices made; both are the model's own fields (notes/assumptions/2.md, 4.md). -/
structure State where
  pins : Pins
  settings : Settings
  windows : Table Window 16
  pool : Table (Option Posted) 32
  lists : Table (List Entry) 4
  nextPlace : Nat
  tags : Table Tag 32
  ready : List (Fin 32)
  ports : Table Port 4
  jobs : Table JobSlot 4
  sources : Table Source 32
  faults : FaultUnit
  direct : List Message
  link : Link
  freeDraws : Nat
  pending : List Instr
  deriving DecidableEq, Repr

/-- The reasons a step could stop with a fault: none. The spec gives every command an effect in every
state (INVENTORY.md, Faults); the part's own faults are data in `FaultUnit`. -/
inductive Fault where
  deriving DecidableEq, Repr

/-- The reasons a command could be refused. -/
inductive Refusal where
  /-- The command has no meaning in the model yet. Raised by no arm: every command has its meaning.
  Safe: the model stops where the hardware goes on. -/
  | notModelled (mnemonic : String)
  deriving DecidableEq, Repr

/-- The part right after power-on (07 R141, and each block's reset rule: R16, R37, R59, R88, R109,
R126, R134, R151, R174), with the FREEZE pin inactive, RESET_N high and every interrupt line low
(notes/assumptions/13.md). -/
def State.reset : State where
  pins := ⟨false, false, Table.fill 32 false⟩
  settings := ⟨.reply, .all, 20, .power, false, false⟩
  windows := Table.fill 16 Window.zero
  pool := Table.fill 32 none
  lists := Table.fill 4 []
  nextPlace := 0
  tags := Table.fill 32 Tag.zero
  ready := []
  ports := Table.fill 4 (Port.atReset false)
  jobs := Table.fill 4 JobSlot.zero
  sources := Table.fill 32 Source.zero
  faults := FaultUnit.zero
  direct := []
  link := Link.atReset
  freeDraws := 0
  pending := []

end Sys2Proof.Machine
end

