-- ==== Sys2Proof/Machine/Flags.lean ====
section
/-!
DEFINITION. The codes and flag bytes in which named values are carried (08 R152 to R154), and the
values that codes taken by intake name.
-/

namespace Sys2Proof.Machine

/-! ## Codes of named values (08 R154) -/

/-- The code of a status (08 R154). -/
def Status.code : Status → Byte
  | .ok => 0 | .malformed => 1 | .unknownKind => 2 | .badField => 3 | .unmapped => 4
  | .isProtected => 5 | .notPostable => 6 | .misaligned => 7 | .noTag => 8 | .duplicateId => 9
  | .busError => 10 | .noResponse => 11 | .retryExhausted => 12 | .timeout => 13 | .aborted => 14
  | .notFound => 15 | .tooLate => 16 | .writeFailed => 17 | .state => 18 | .overlap => 19
  | .credit => 20

/-- The vector and acknowledge status of a source: a status code, or 255 for NONE (08 R154). -/
def statusOrNone : Option Status → Byte
  | some st => st.code
  | none => 255

/-- The code of a slot state or end state (08 R154). -/
def JobState.code : JobState → Byte
  | .empty => 0 | .loaded => 1 | .running => 2 | .pausing => 3 | .paused => 4 | .stopping => 5
  | .stopped => 6 | .done => 7 | .failed => 8

/-- The code of a source state (08 R154). -/
def SourceState.code : SourceState → Byte
  | .idle => 0 | .pending => 1 | .fetching => 2 | .due => 3 | .sent => 4 | .notified => 5
  | .acking => 6

/-- A fault kind's place in the summary set and the counters: its code less one (08 R152). -/
def FaultKind.index : FaultKind → Fin 9
  | .postedFailed => 0 | .postRefused => 1 | .creditOverrun => 2 | .guardMiss => 3
  | .jobFailed => 4 | .irqFetchFailed => 5 | .irqAckFailed => 6 | .linkDown => 7
  | .accessFailed => 8

/-- The code of a fault kind, 1 to 9 (08 R154). -/
def FaultKind.code (k : FaultKind) : Byte := BitVec.ofNat 8 (k.index.val + 1)

/-- The code of a notice state (08 R154). -/
def NoticeState.code : NoticeState → Byte
  | .settled => 0 | .due => 1 | .sent => 2

/-- The code of a reset cause (08 R154). -/
def ResetCause.code : ResetCause → Byte
  | .power => 0 | .pin => 1 | .soft => 2

/-- The code of a miss policy (08 R154). -/
def MissPolicy.code : MissPolicy → Byte
  | .reply => 0 | .hold => 1

/-- The code of a record mode (08 R154). -/
def RecordMode.code : RecordMode → Byte
  | .all => 0 | .severe => 1

/-- The code of a trigger (08 R154). -/
def Trigger.code : Trigger → Byte
  | .level => 0 | .edge => 1

/-- The code of a job kind (08 R154). -/
def JobKind.code : JobKind → Byte
  | .copy => 0 | .fill => 1 | .check => 2

/-- The code of a chunk phase (08 R154). -/
def ChunkPhase.code : ChunkPhase → Byte
  | .read => 0 | .write => 1

/-! ## Values that a code names, once intake has passed it (08 R147) -/

/-- The miss policy of a code 0 or 1. -/
def missPolicyOf (b : Byte) : MissPolicy := if b = 0 then .reply else .hold

/-- The record mode of a code 0 or 1. -/
def recordModeOf (b : Byte) : RecordMode := if b = 0 then .all else .severe

/-- The trigger of a code 0 or 1. -/
def triggerOf (b : Byte) : Trigger := if b = 0 then .level else .edge

/-- The job kind of a code 0 to 2. -/
def jobKindOf (b : Byte) : JobKind := if b = 0 then .copy else if b = 1 then .fill else .check

/-- The tag kind as a request kind. -/
def TagKind.request : TagKind → RequestKind
  | .read => .read | .write => .write | .modify => .modify | .fence => .fence

/-! ## Flag bytes -/

/-- A byte with the given bits, bit 0 first. -/
def bitsByte (bits : List Bool) : Byte :=
  BitVec.ofNat 8 (bits.foldr (fun b n => (if b then 1 else 0) + 2 * n) 0)

/-- The hold set: bit 0 HOST, bit 1 FREEZE, bit 2 GUARD (08 R154). -/
def HoldSet.byte (h : HoldSet) : Byte := bitsByte [h.host, h.freeze, h.guard]

/-- A hold set is empty. -/
def HoldSet.isEmpty (h : HoldSet) : Bool := !h.host && !h.freeze && !h.guard

/-- The window flags: bit 0 read-only, bit 1 postable, bit 2 prefetchable, bit 3 volatile (08 R154). -/
def Window.flags (w : Window) : Byte :=
  bitsByte [w.readOnly, w.postable, w.prefetchable, w.isVolatile]

/-- The job flags: bit 0 start-on-load, bit 1 notify (08 R154). -/
def Descriptor.flags (d : Descriptor) : Byte := bitsByte [d.startOnLoad, d.notify]

/-- The summary set as a 16-bit value: bit k is set when the kind with code k + 1 is in it (08 R152). -/
def summaryBits (t : Table Bool 9) : Half :=
  BitVec.ofNat 16 (t.rows.foldr (fun b n => (if b then 1 else 0) + 2 * n) 0)

end Sys2Proof.Machine
end

