-- ==== Sys2Proof/Machine/Ops.lean ====
section
/-!
DEFINITION. The named updates of the state, one for each block, and the reading and changing of one
record of a block. Everything else that changes the state goes through these.
-/

namespace Sys2Proof.Machine

/-! ## One block replaced -/

/-- The state with `pins` replaced. -/
def State.setPins (s : State) (x : Pins) : State := { s with pins := x }

/-- The state with `settings` replaced. -/
def State.setSettings (s : State) (x : Settings) : State := { s with settings := x }

/-- The state with `windows` replaced. -/
def State.setWindows (s : State) (x : Table Window 16) : State := { s with windows := x }

/-- The state with `pool` replaced. -/
def State.setPool (s : State) (x : Table (Option Posted) 32) : State := { s with pool := x }

/-- The state with `lists` replaced. -/
def State.setLists (s : State) (x : Table (List Entry) 4) : State := { s with lists := x }

/-- The state with `nextPlace` replaced. -/
def State.setNextPlace (s : State) (x : Nat) : State := { s with nextPlace := x }

/-- The state with `tags` replaced. -/
def State.setTags (s : State) (x : Table Tag 32) : State := { s with tags := x }

/-- The state with `ready` replaced. -/
def State.setReady (s : State) (x : List (Fin 32)) : State := { s with ready := x }

/-- The state with `ports` replaced. -/
def State.setPorts (s : State) (x : Table Port 4) : State := { s with ports := x }

/-- The state with `jobs` replaced. -/
def State.setJobs (s : State) (x : Table JobSlot 4) : State := { s with jobs := x }

/-- The state with `sources` replaced. -/
def State.setSources (s : State) (x : Table Source 32) : State := { s with sources := x }

/-- The state with `faults` replaced. -/
def State.setFaults (s : State) (x : FaultUnit) : State := { s with faults := x }

/-- The state with `direct` replaced. -/
def State.setDirect (s : State) (x : List Message) : State := { s with direct := x }

/-- The state with `link` replaced. -/
def State.setLink (s : State) (x : Link) : State := { s with link := x }

/-- The state with `freeDraws` replaced. -/
def State.setFreeDraws (s : State) (x : Nat) : State := { s with freeDraws := x }

/-- The state with `pending` replaced. -/
def State.setPending (s : State) (x : List Instr) : State := { s with pending := x }

/-! ## One record changed -/

/-- The state with the tag entry `t` changed. -/
def State.modTag (s : State) (t : Fin 32) (f : Tag → Tag) : State := s.setTags (s.tags.modify t f)

/-- The state with the slot `k` of the posted pool replaced. -/
def State.setSlot (s : State) (k : Fin 32) (x : Option Posted) : State := s.setPool (s.pool.set k x)

/-- The state with the request list of port `p` replaced. -/
def State.setList (s : State) (p : Fin 4) (l : List Entry) : State := s.setLists (s.lists.set p l)

/-- The state with port `p` changed, its PORT-NOTICE aside. -/
def State.modPort (s : State) (p : Fin 4) (f : Port → Port) : State :=
  s.setPorts (s.ports.modify p f)

/-- The state with job slot `j` changed. -/
def State.modJob (s : State) (j : Fin 4) (f : JobSlot → JobSlot) : State :=
  s.setJobs (s.jobs.modify j f)

/-- The state with source `i` changed. -/
def State.modSource (s : State) (i : Fin 32) (f : Source → Source) : State :=
  s.setSources (s.sources.modify i f)

/-- The state with the host link changed. -/
def State.modLink (s : State) (f : Link → Link) : State := s.setLink (f s.link)

/-- The state with the link counters changed. -/
def State.modCounters (s : State) (f : LinkCounters → LinkCounters) : State :=
  s.modLink fun l => { l with counters := f l.counters }

/-- The state with the part-wide settings changed. -/
def State.modSettings (s : State) (f : Settings → Settings) : State := s.setSettings (f s.settings)

/-- The next place in arrival order is used up (02 R17; notes/assumptions/12.md, DESIGN CHOICE). -/
def State.bumpPlace (s : State) : State := s.setNextPlace (s.nextPlace + 1)

/-- A REPLY enters the direct reply list, in the place reserved for it (08 R150). -/
def State.addReply (s : State) (m : Message) : State := s.setDirect (s.direct ++ [m])

/-! ## Folding a change over several records -/

/-- `f` applied for each index of a list, in its order. -/
def foldOver {α : Type} (xs : List α) (f : α → State → State) (s : State) : State :=
  xs.foldl (fun s x => f x s) s

/-- Insertion of an index by its key, before the first index whose key is larger. -/
def insertByKey {α : Type} (key : α → Nat) (x : α) : List α → List α
  | [] => [x]
  | y :: ys => if key x < key y then x :: y :: ys else y :: insertByKey key x ys

/-- A list sorted by key, equal keys in their order in the list. -/
def sortByKey {α : Type} (key : α → Nat) (xs : List α) : List α :=
  xs.foldl (fun acc x => insertByKey key x acc) []

/-! ## Counts the part reports -/

/-- The free posted slots (02 R23). -/
def State.freePosted (s : State) : Nat := s.pool.rows.countP Option.isNone

/-- The FREE tag entries (03 R39). -/
def State.freeTags (s : State) : Nat := s.tags.rows.countP fun t => t.state == .free

/-- The posted entries of a port's request list (02 R25). -/
def State.postedEntries (s : State) (p : Fin 4) : Nat :=
  (s.lists.get p).countP fun e => match e with | .post _ => true | .tag _ => false

/-- The non-posted entries of a port's request list (02 R25). -/
def State.nonPostedEntries (s : State) (p : Fin 4) : Nat :=
  (s.lists.get p).countP fun e => match e with | .post _ => false | .tag _ => true

end Sys2Proof.Machine
end

