-- ==== Sys2Proof/Machine/Faults.lean ====
section
/-!
DEFINITION. The fault unit (07): reporting a fault, the FAULT-NOTICE, FAULT-CLEAR, and the byte
blocks in which faults are reported.
-/

namespace Sys2Proof.Machine

/-- A kind that the record mode lets the fault record capture (07 R128). -/
def RecordMode.admits (m : RecordMode) (k : FaultKind) : Bool :=
  match m with
  | .all => true
  | .severe => k != .accessFailed

/-- The FAULT-NOTICE is called for by a capture (07 R131). -/
def FaultUnit.call (u : FaultUnit) : FaultUnit :=
  match u.notice with
  | .settled => { u with notice := .due }
  | .due => u
  | .sent => { u with renewal := true }

/-- The fault unit takes a reported fault (07 R130): counter, summary set, capture or more count. -/
def FaultUnit.take (u : FaultUnit) (mode : RecordMode) (epoch : Byte) (k : FaultKind)
    (d : FaultDetail) : FaultUnit :=
  let u := { u with counters := u.counters.modify k.index satInc
                    summary := u.summary.set k.index true }
  if mode.admits k then
    match u.record with
    | none => FaultUnit.call { u with record := some ⟨k, d, epoch, 0⟩ }
    | some r => { u with record := some { r with more := satInc r.more } }
  else u

/-- A block reports a fault, which the fault unit takes at that moment (07 R130). -/
def report (k : FaultKind) (d : FaultDetail) (s : State) : State :=
  s.setFaults (s.faults.take s.settings.recordMode s.link.epoch k d)

/-- The host acknowledges the frame that carried the FAULT-NOTICE (07 R131). -/
def FaultUnit.acknowledged (u : FaultUnit) : FaultUnit :=
  match u.notice with
  | .sent => if u.renewal then { u with notice := .due, renewal := false }
             else { u with notice := .settled }
  | _ => u

/-- The FAULT-NOTICE at a link down (07 R134). -/
def FaultUnit.linkDown (u : FaultUnit) : FaultUnit := { u with notice := .due, renewal := false }

/-- FAULT-CLEAR, after its REPLY has been built (07 R133). -/
def FaultUnit.clear (u : FaultUnit) (counters : Bool) : FaultUnit where
  record := none
  summary := Table.fill 9 false
  counters := if counters then Table.fill 9 0 else u.counters
  notice := match u.notice with
    | .due => .settled
    | n => n
  renewal := false

/-! ## Byte blocks (08 R152) -/

/-- The field presence byte of a fault record (08 R152). -/
def FaultDetail.presence (d : FaultDetail) : Byte :=
  bitsByte [d.port.isSome, d.id.isSome, d.slot.isSome, d.source.isSome, d.localAddr.isSome,
    d.hostAddr.isSome]

/-- A small index as a byte, 0 when absent. -/
def optByte {n : Nat} (x : Option (Fin n)) : Byte := (x.map fun i => countByte i.val).getD 0

/-- The fault record block, 18 bytes (08 R152); an empty record is 18 zero bytes. -/
def faultBlock : Option FaultRecord → List Byte
  | none => zeros 18
  | some r =>
    [r.kind.code, r.detail.status.code, r.detail.presence, optByte r.detail.port]
      ++ be16 (r.detail.id.getD 0)
      ++ [optByte r.detail.slot, optByte r.detail.source]
      ++ be32 (r.detail.localAddr.getD 0) ++ be32 (r.detail.hostAddr.getD 0)
      ++ [r.epoch, r.more]

/-- The nine kind counters, in kind code order (08 R152). -/
def counterBytes (t : Table Half 9) : List Byte := t.rows.flatMap be16

/-- The fields that FAULT-CLEAR reports, and FAULT-GET first (08 R152). -/
def FaultUnit.clearFields (u : FaultUnit) : List Byte :=
  yesNo u.record.isSome :: faultBlock u.record ++ be16 (summaryBits u.summary)
    ++ counterBytes u.counters

/-- The fields that FAULT-GET reports (07 R132, 08 R152). -/
def FaultUnit.getFields (u : FaultUnit) (mode : RecordMode) : List Byte :=
  u.clearFields ++ [mode.code, u.notice.code]

end Sys2Proof.Machine
end

