-- ==== Sys2Proof/Decode.lean ====
section
/-!
DEFINITION. The frames of the host as bytes, in both directions (08 R142 to R144), and the command a
table word spells: none, since no row of spec/opcode_table.json gives bits.
-/

namespace Sys2Proof

open Sys2Proof.Machine (be16 crc16 ofBE)

/-- No row of the table has bits, so no word spells a command (notes/assumptions/18.md). -/
def decodeTableWord (_nbits _w : Nat) : Option Instr := none

/-! ## Codes -/

/-- The SYNC byte (08 R142). -/
def syncByte : Byte := 0xC3

/-- FTYPE of a DATA frame (08 R142). -/
def ftypeData : Byte := 0x01
/-- FTYPE of an ACK frame (08 R142). -/
def ftypeAck : Byte := 0x02
/-- FTYPE of a NAK frame (08 R142). -/
def ftypeNak : Byte := 0x03
/-- FTYPE of a WAIT frame (08 R142). -/
def ftypeWait : Byte := 0x04
/-- FTYPE of an INIT frame (08 R142). -/
def ftypeInit : Byte := 0x05
/-- FTYPE of a READY frame (08 R142). -/
def ftypeReady : Byte := 0x06

/-- The kind byte of a request (08 R144). -/
def RequestKind.code : RequestKind → Byte
  | .read => 0x10 | .write => 0x11 | .post => 0x12 | .modify => 0x13 | .fence => 0x14
  | .identify => 0x20 | .statusGet => 0x21 | .configSet => 0x22 | .configGet => 0x23
  | .linkRate => 0x24 | .reset => 0x25
  | .windowSet => 0x30 | .windowGet => 0x31
  | .portSet => 0x38 | .portGet => 0x39 | .portHold => 0x3A | .portRelease => 0x3B
  | .abort => 0x3C
  | .jobLoad => 0x40 | .jobStart => 0x41 | .jobPause => 0x42 | .jobResume => 0x43
  | .jobStop => 0x44 | .jobGet => 0x45
  | .irqSet => 0x50 | .irqMask => 0x51 | .irqDone => 0x52 | .irqGet => 0x53
  | .faultGet => 0x58 | .faultClear => 0x59

/-- The request kinds, in the order of their codes. -/
def RequestKind.every : List RequestKind :=
  [.read, .write, .post, .modify, .fence,
   .identify, .statusGet, .configSet, .configGet, .linkRate, .reset,
   .windowSet, .windowGet, .portSet, .portGet, .portHold, .portRelease, .abort,
   .jobLoad, .jobStart, .jobPause, .jobResume, .jobStop, .jobGet,
   .irqSet, .irqMask, .irqDone, .irqGet, .faultGet, .faultClear]

/-- The request kind of a kind byte; none for a byte that is no access or management request kind
(08 R144, R145 check 1). -/
def RequestKind.ofCode (b : Byte) : Option RequestKind := RequestKind.every.find? fun k => k.code == b

/-- The scope byte of a RESET that means FULL (08 R147). -/
def scopeFull : Byte := 1

/-! ## The bytes of a frame -/

/-- The six bits of a sequence number as a byte. -/
def seqByte (q : Seq) : Byte := q.zeroExtend 8

/-- The bytes from FTYPE through the last body byte (08 R142). -/
def frameContent (ftype : Byte) (f : FrameHead) (body : List Byte) : List Byte :=
  [ftype, seqByte f.seq, seqByte f.ack, f.freePosted, f.freeTags] ++ body

/-- The content of a DATA frame with a message of the given kind byte, request id and body
(08 R142, R144). -/
def dataContent (f : FrameHead) (kind : Byte) (id : Half) (body : List Byte) : List Byte :=
  frameContent ftypeData f (kind :: be16 id ++ body)

/-- LEN: the number of bytes from FTYPE through the last body byte (08 R142). -/
def lenByte (content : List Byte) : Byte := BitVec.ofNat 8 content.length

/-- A whole frame: SYNC, LEN, the content, and the CRC-16 of LEN and the content, high byte first
(08 R142, R143). -/
def wireFrame (content : List Byte) : List Byte :=
  syncByte :: lenByte content :: content ++ be16 (crc16 (lenByte content :: content))

/-! ## Reading a frame's content -/

/-- The least LEN of the FTYPEs a host may send; none for the others (08 R142). -/
def leastLen (ftype : Byte) : Option Nat :=
  if ftype = ftypeData then some 8
  else if ftype = ftypeAck ∨ ftype = ftypeNak ∨ ftype = ftypeInit then some 5
  else none

/-- The four malformed cases of a good frame from the host: FTYPE not in the table or WAIT or READY,
LEN below the least LEN, SEQ or ACK above 63 (08 R142). -/
def isMalformed (content : List Byte) : Bool :=
  match content with
  | ftype :: seq :: ack :: _ :: _ :: _ =>
    match leastLen ftype with
    | none => true
    | some n => decide (content.length < n) || decide (63 < seq.toNat) || decide (63 < ack.toNat)
  | _ => true

/-- The row of a DATA frame whose message has a known kind. RESET is two rows, told apart by its
scope byte. -/
def requestInstr (k : RequestKind) (f : FrameHead) (id : Half) (body : List Byte) : Instr :=
  match k with
  | .read => .read f id body | .write => .write f id body | .post => .post f id body
  | .modify => .modify f id body | .fence => .fence f id body
  | .identify => .identify f id body | .statusGet => .statusGet f id body
  | .configSet => .configSet f id body | .configGet => .configGet f id body
  | .linkRate => .linkRate f id body
  | .reset => if body = [scopeFull] then .resetFull f id body else .resetFlush f id body
  | .windowSet => .windowSet f id body | .windowGet => .windowGet f id body
  | .portSet => .portSet f id body | .portGet => .portGet f id body
  | .portHold => .portHold f id body | .portRelease => .portRelease f id body
  | .abort => .abort f id body
  | .jobLoad => .jobLoad f id body | .jobStart => .jobStart f id body
  | .jobPause => .jobPause f id body | .jobResume => .jobResume f id body
  | .jobStop => .jobStop f id body | .jobGet => .jobGet f id body
  | .irqSet => .irqSet f id body | .irqMask => .irqMask f id body
  | .irqDone => .irqDone f id body | .irqGet => .irqGet f id body
  | .faultGet => .faultGet f id body | .faultClear => .faultClear f id body

/-- A good frame from the host, read for form and by its FTYPE (08 R142, R144; 09 R158). -/
inductive HostFrame where
  | malformed
  | data (f : FrameHead) (kind : Byte) (id : Half) (body : List Byte)
  | ack (f : FrameHead) (extra : List Byte)
  | nak (f : FrameHead) (extra : List Byte)
  | init (f : FrameHead) (extra : List Byte)
  deriving DecidableEq, Repr

/-- A good frame from the host, read from its content (08 R142, R144). The bytes of a control frame
beyond its header are not read. -/
def readFrame (content : List Byte) : HostFrame :=
  if isMalformed content then .malformed
  else
    match content with
    | ftype :: seq :: ack :: fp :: ft :: rest =>
      let f : FrameHead := ⟨seq.truncate 6, ack.truncate 6, fp, ft⟩
      if ftype = ftypeAck then .ack f rest
      else if ftype = ftypeNak then .nak f rest
      else if ftype = ftypeInit then .init f rest
      else
        match rest with
        | kind :: id1 :: id0 :: body => .data f kind (id1 ++ id0) body
        | _ => .malformed
    | _ => .malformed

/-- The command that a good frame from the host is, read from its content (08 R144). A well-formed DATA
frame is read as the request it carries, whether or not the link will take it. -/
def decodeHostFrame (content : List Byte) : Instr :=
  match readFrame content with
  | .malformed => .malformedFrame content
  | .ack f extra => .hostAckFrame f extra
  | .nak f extra => .hostNak f extra
  | .init f extra => .hostInit f extra
  | .data f kind id body =>
    match RequestKind.ofCode kind with
    | some k => requestInstr k f id body
    | none => .unknownKind f kind id body

/-- The content of the frame that a command is, for the commands that are one good frame. The rows
HOST_DATA_FRAME_NOT_TAKEN, RATE_CHANGE and FULL_RESET_CARRIED_OUT are what a frame of another row
does in some states: their frames are those of that row. -/
def encodeHostFrame : Instr → Option (List Byte)
  | .malformedFrame content => some content
  | .hostDataFrameNotTaken f kind id body => some (dataContent f kind id body)
  | .hostAckFrame f extra => some (frameContent ftypeAck f extra)
  | .rateChange f extra => some (frameContent ftypeAck f extra)
  | .fullResetCarriedOut (.acknowledged f extra) => some (frameContent ftypeAck f extra)
  | .fullResetCarriedOut (.hostInit f extra) => some (frameContent ftypeInit f extra)
  | .fullResetCarriedOut .exhausted => none
  | .hostNak f extra => some (frameContent ftypeNak f extra)
  | .hostInit f extra => some (frameContent ftypeInit f extra)
  | .unknownKind f kind id body => some (dataContent f kind id body)
  | .read f id body => some (dataContent f RequestKind.read.code id body)
  | .write f id body => some (dataContent f RequestKind.write.code id body)
  | .post f id body => some (dataContent f RequestKind.post.code id body)
  | .modify f id body => some (dataContent f RequestKind.modify.code id body)
  | .fence f id body => some (dataContent f RequestKind.fence.code id body)
  | .identify f id body => some (dataContent f RequestKind.identify.code id body)
  | .statusGet f id body => some (dataContent f RequestKind.statusGet.code id body)
  | .configSet f id body => some (dataContent f RequestKind.configSet.code id body)
  | .configGet f id body => some (dataContent f RequestKind.configGet.code id body)
  | .linkRate f id body => some (dataContent f RequestKind.linkRate.code id body)
  | .resetFlush f id body => some (dataContent f RequestKind.reset.code id body)
  | .resetFull f id body => some (dataContent f RequestKind.reset.code id body)
  | .windowSet f id body => some (dataContent f RequestKind.windowSet.code id body)
  | .windowGet f id body => some (dataContent f RequestKind.windowGet.code id body)
  | .portSet f id body => some (dataContent f RequestKind.portSet.code id body)
  | .portGet f id body => some (dataContent f RequestKind.portGet.code id body)
  | .portHold f id body => some (dataContent f RequestKind.portHold.code id body)
  | .portRelease f id body => some (dataContent f RequestKind.portRelease.code id body)
  | .abort f id body => some (dataContent f RequestKind.abort.code id body)
  | .jobLoad f id body => some (dataContent f RequestKind.jobLoad.code id body)
  | .jobStart f id body => some (dataContent f RequestKind.jobStart.code id body)
  | .jobPause f id body => some (dataContent f RequestKind.jobPause.code id body)
  | .jobResume f id body => some (dataContent f RequestKind.jobResume.code id body)
  | .jobStop f id body => some (dataContent f RequestKind.jobStop.code id body)
  | .jobGet f id body => some (dataContent f RequestKind.jobGet.code id body)
  | .irqSet f id body => some (dataContent f RequestKind.irqSet.code id body)
  | .irqMask f id body => some (dataContent f RequestKind.irqMask.code id body)
  | .irqDone f id body => some (dataContent f RequestKind.irqDone.code id body)
  | .irqGet f id body => some (dataContent f RequestKind.irqGet.code id body)
  | .faultGet f id body => some (dataContent f RequestKind.faultGet.code id body)
  | .faultClear f id body => some (dataContent f RequestKind.faultClear.code id body)
  | .powerOn | .resetNAssert | .resetNRelease | .freezeActive | .freezeInactive
  | .irqLineRise _ | .irqLineFall _ | .frameCrcFailure _
  | .replayTimerExpiry | .beaconTimerExpiry | .frameTransmitEnd
  | .portStart _ | .targetAnswer _ _ | .responseLimitExpiry _ | .holdOffExpiry _
  | .completionTimerExpiry _ => none

/-! ## The receiver (09 R157) -/

/-- Hunting: each byte that is not SYNC is discarded. -/
def hunt (bs : List Byte) : List Byte := bs.dropWhile fun b => b != syncByte

/-- What the receiver finds at the head of its receive bytes. -/
inductive Collected where
  /-- no SYNC, or a frame whose last bytes have not come -/
  | incomplete
  /-- a collected frame whose CRC matches: its content, and the bytes after its last CRC byte -/
  | good (content : List Byte) (rest : List Byte)
  /-- a collected frame whose CRC does not match -/
  | bad
  deriving DecidableEq, Repr

/-- Collecting: LEN bytes after LEN, then two CRC bytes, then the CRC test (09 R157). The receive
bytes begin with the SYNC. -/
def collect (bs : List Byte) : Collected :=
  match bs with
  | _ :: len :: rest =>
    if rest.length < len.toNat + 2 then .incomplete
    else
      let content := rest.take len.toNat
      let crc := (rest.drop len.toNat).take 2
      if crc = be16 (crc16 (len :: content)) then .good content (rest.drop (len.toNat + 2)) else .bad
  | _ => .incomplete

/-- The receive bytes after the receiver has judged the good frame `wire`, given the receive bytes
before: the frame stands at their head, or they are its beginning and the rest now arrives. `none`
when the receive bytes begin with another frame, which must be collected first
(notes/assumptions/7.md). -/
def judged (rx wire : List Byte) : Option (List Byte) :=
  let buf := hunt rx
  if wire.isPrefixOf buf then some (hunt (buf.drop wire.length))
  else if buf.isPrefixOf wire then some []
  else none

end Sys2Proof
end

