-- ==== Sys2Proof/Machine/Operands.lean ====
section
/-!
DEFINITION. The bodies of the requests: their lengths (08 R146), the encodings intake tests (08 R147),
and the fields the owners read.
-/

namespace Sys2Proof.Machine

/-! ## Fields of a body -/

/-- The byte at an offset of a body. -/
def u8 (body : List Byte) (off : Nat) : Byte := body.getD off 0

/-- The 16-bit field at an offset, most significant byte first. -/
def u16 (body : List Byte) (off : Nat) : Half := BitVec.ofNat 16 (ofBE ((body.drop off).take 2))

/-- The 32-bit field at an offset, most significant byte first. -/
def u32 (body : List Byte) (off : Nat) : Word := wordBE ((body.drop off).take 4)

/-! ## The length check (08 R146) -/

/-- The body length a kind requires; for WRITE and POST, 5 plus the value of the count byte. -/
def requiredLength (k : RequestKind) (body : List Byte) : Nat :=
  match k with
  | .read => 5
  | .write | .post => 5 + (u8 body 4).toNat
  | .modify => 17
  | .fence | .identify | .statusGet | .configGet | .faultGet => 0
  | .configSet => 3
  | .linkRate | .reset | .windowGet | .portGet | .portHold | .portRelease => 1
  | .windowSet => 13
  | .portSet => 7
  | .abort => 2
  | .jobLoad => 20
  | .jobStart | .jobPause | .jobResume | .jobStop | .jobGet => 1
  | .irqSet => 20
  | .irqMask => 2
  | .irqDone | .irqGet | .faultClear => 1

/-- Intake's length check (08 R145 check 2). -/
def lengthOk (k : RequestKind) (body : List Byte) : Bool :=
  decide (body.length = requiredLength k body)

/-! ## The encoding check (08 R147) -/

/-- An access size: 1, 2, 4, or 8 to 64 in multiples of 4 (00 Conventions). -/
def isAccessSize (n : Nat) : Bool :=
  decide (n = 1 ∨ n = 2 ∨ n = 4 ∨ (8 ≤ n ∧ n ≤ 64 ∧ n % 4 = 0))

/-- A size of 1, 2 or 4. -/
def isSmallSize (n : Nat) : Bool := decide (n = 1 ∨ n = 2 ∨ n = 4)

/-- A multiple of 4 from `lo` to `hi`. -/
def isMultipleOf4 (lo hi n : Nat) : Bool := decide (lo ≤ n ∧ n ≤ hi ∧ n % 4 = 0)

/-- A yes/no field. -/
def isYesNo (b : Byte) : Bool := decide (b.toNat ≤ 1)

/-- A number up to a largest value. -/
def atMost (hi : Nat) (b : Byte) : Bool := decide (b.toNat ≤ hi)

/-- A number up to a largest value, or 255 for all. -/
def atMostOrAll (hi : Nat) (b : Byte) : Bool := decide (b.toNat ≤ hi ∨ b.toNat = 255)

/-- Intake's encoding check of a body of the right length (08 R147). -/
def fieldsOk (k : RequestKind) (body : List Byte) : Bool :=
  match k with
  | .read | .write | .post => isAccessSize (u8 body 4).toNat
  | .modify => isSmallSize (u8 body 4).toNat
  | .fence | .identify | .statusGet | .configGet | .faultGet | .abort => true
  | .configSet => isYesNo (u8 body 0) && isYesNo (u8 body 1) && decide (1 ≤ (u8 body 2).toNat)
  | .linkRate => atMost 4 (u8 body 0)
  | .reset => atMost 1 (u8 body 0)
  | .windowSet =>
    atMost 15 (u8 body 0) && isYesNo (u8 body 1)
      && decide (12 ≤ (u8 body 6).toNat ∧ (u8 body 6).toNat ≤ 31)
      && atMost 3 (u8 body 7) && atMost 15 (u8 body 12)
  | .windowGet => atMost 15 (u8 body 0)
  | .portSet =>
    atMost 3 (u8 body 0) && decide (1 ≤ (u8 body 1).toNat) && atMost 15 (u8 body 2)
      && decide (1 ≤ (u8 body 3).toNat) && decide (1 ≤ (u16 body 4).toNat)
      && decide (1 ≤ (u8 body 6).toNat ∧ (u8 body 6).toNat ≤ 15)
  | .portGet => atMost 3 (u8 body 0)
  | .portHold | .portRelease => atMostOrAll 3 (u8 body 0)
  | .jobStart | .jobPause | .jobResume | .jobStop | .jobGet => atMost 3 (u8 body 0)
  | .jobLoad =>
    atMost 3 (u8 body 0) && atMost 2 (u8 body 1) && atMost 3 (u8 body 2)
      && decide ((u32 body 3).toNat % 4 = 0) && decide ((u32 body 7).toNat % 4 = 0)
      && isMultipleOf4 4 16777216 (u32 body 11).toNat && isMultipleOf4 4 64 (u8 body 15).toNat
  | .irqSet =>
    atMost 31 (u8 body 0) && isYesNo (u8 body 1) && atMost 1 (u8 body 2) && atMost 3 (u8 body 3)
      && isYesNo (u8 body 4) && (u8 body 4 == 0 || isSmallSize (u8 body 9).toNat)
      && isYesNo (u8 body 10) && (u8 body 10 == 0 || isSmallSize (u8 body 19).toNat)
  | .irqMask => atMostOrAll 31 (u8 body 0) && isYesNo (u8 body 1)
  | .irqDone | .irqGet => atMost 31 (u8 body 0)
  | .faultClear => isYesNo (u8 body 0)

/-! ## The fields the owners read (08 R146) -/

/-- An index below `n + 1` from a byte that intake has found inside its range. -/
def indexOf (n : Nat) (b : Byte) : Fin (n + 1) := Fin.ofNat (n + 1) b.toNat

/-- The record that a WINDOW-SET gives. -/
def windowOf (body : List Byte) : Window where
  enabled := u8 body 1 == 1
  hostBase := u32 body 2
  sizeCode := indexOf 31 (u8 body 6)
  port := indexOf 3 (u8 body 7)
  localBase := u32 body 8
  readOnly := (u8 body 12).getLsbD 0
  postable := (u8 body 12).getLsbD 1
  prefetchable := (u8 body 12).getLsbD 2
  isVolatile := (u8 body 12).getLsbD 3

/-- The settings that a PORT-SET gives. -/
def portSettingsOf (body : List Byte) : PortSettings where
  responseLimit := u8 body 1
  retryLimit := u8 body 2
  retryDelay := u8 body 3
  completionLimit := u16 body 4
  jobShare := u8 body 6

/-- The descriptor that a JOB-LOAD gives. -/
def descriptorOf (body : List Byte) : Descriptor where
  kind := jobKindOf (u8 body 1)
  source := u32 body 3
  destination := u32 body 7
  length := u32 body 11
  chunkSize := u8 body 15
  pattern := u32 body 16
  startOnLoad := (u8 body 2).getLsbD 0
  notify := (u8 body 2).getLsbD 1

/-- The vector read that an IRQ-SET gives; one marked absent is held as zero (06 R110). -/
def vectorReadOf (body : List Byte) : Option VectorRead :=
  if u8 body 4 = 1 then some ⟨u32 body 5, (u8 body 9).toNat⟩ else none

/-- The acknowledge write that an IRQ-SET gives; one marked absent is held as zero (06 R110). -/
def ackWriteOf (body : List Byte) : Option AckWrite :=
  if u8 body 10 = 1 then some ⟨u32 body 11, u32 body 15, (u8 body 19).toNat⟩ else none

/-! ## Replies (08 R152) -/

/-- A REPLY: kind 0x80, the request id, the answered kind byte, the status and the fields. -/
def replyBytes (id : Half) (kind : Byte) (st : Status) (fields : List Byte) : List Byte :=
  0x80 :: be16 id ++ kind :: st.code :: fields

/-- A REPLY whose acknowledgement means nothing further (09 R159). -/
def plainReply (id : Half) (kind : Byte) (st : Status) (fields : List Byte) : Message :=
  ⟨replyBytes id kind st fields, .reply⟩

/-- The field list of a request that intake refuses with BAD-FIELD: echo fields repeat the request's
value, the other fields are 0, the conflict index of WINDOW-SET is 255 (08 R152). -/
def badFieldFields (k : RequestKind) (body : List Byte) : List Byte :=
  match k with
  | .read => [u8 body 4]
  | .write | .post | .configSet => []
  | .modify => zeros 8
  | .fence => zeros 2
  | .identify => zeros 16
  | .statusGet => zeros 40
  | .configGet => zeros 3
  | .linkRate | .reset => [u8 body 0]
  | .windowSet => [u8 body 0, 255]
  | .windowGet => u8 body 0 :: zeros 12
  | .portSet | .portHold | .portRelease => [u8 body 0]
  | .portGet => u8 body 0 :: zeros 20
  | .abort => [u8 body 0, u8 body 1]
  | .jobLoad => [u8 body 0, 0, 0]
  | .jobStart | .jobPause | .jobResume | .jobStop => [u8 body 0, 0]
  | .jobGet => u8 body 0 :: zeros 62
  | .irqSet | .irqDone => [u8 body 0, 0]
  | .irqMask => [u8 body 0]
  | .irqGet => u8 body 0 :: zeros 31
  | .faultGet => zeros 41
  | .faultClear => zeros 39

end Sys2Proof.Machine
end

