-- ==== Sys2Proof/Machine/Windows.lean ====
section
/-!
DEFINITION. The window table (01): decode and translation, the checks of WINDOW-SET, the fill test.
-/

namespace Sys2Proof.Machine

/-! ## Ranges -/

/-- An address with its low `n` bits cleared. -/
def clearLow (a : Word) (n : Nat) : Word := (a >>> n) <<< n

/-- The size in bytes of a window (01 R1). -/
def Window.bytes (w : Window) : Nat := 2 ^ w.sizeCode.val

/-- A host address lies in the record's host range (01 R4). -/
def Window.covers (w : Window) (a : Word) : Bool := clearLow a w.sizeCode.val == w.hostBase

/-- A host address is a hit on the record (01 R4). -/
def Window.hits (w : Window) (a : Word) : Bool := w.enabled && w.covers a

/-- The local address of a host address, modulo 2^32 (01 R5). -/
def Window.translate (w : Window) (a : Word) : Word := w.localBase + (a - w.hostBase)

/-! ## Decode (01 R4) -/

/-- The result of a decode that hits: the window index, the port, the local address and the window's
attributes at that moment. -/
structure Hit where
  window : Fin 16
  port : Fin 4
  localAddr : Word
  readOnly : Bool
  postable : Bool
  prefetchable : Bool
  isVolatile : Bool
  deriving DecidableEq, Repr

/-- The index of the enabled record that a host address hits, if any. -/
def decodeIndex (t : Table Window 16) (a : Word) : Option (Fin 16) :=
  (Table.indices 16).find? fun i => (t.get i).hits a

/-- The decode of a host address (01 R4, R5); none is a miss. -/
def decodeAddr (t : Table Window 16) (a : Word) : Option Hit :=
  (decodeIndex t a).map fun i =>
    let w := t.get i
    ⟨i, w.port, w.translate a, w.readOnly, w.postable, w.prefetchable, w.isVolatile⟩

/-- The 64-byte block that contains an address. -/
def block64 (a : Word) : Word := clearLow a 6

/-- The bytes from an address, `count` of them, lie in one 64-byte block (01 R6). -/
def inOneBlock (a : Word) (count : Nat) : Bool := decide (a.toNat % 64 + count ≤ 64)

/-- The range decode of a job: the range lies wholly in one enabled window (01 R7). -/
def decodeRange (t : Table Window 16) (a : Word) (length : Nat) : Option Hit :=
  match decodeAddr t a with
  | none => none
  | some h =>
    let last := a.toNat + (length - 1)
    if last < 2 ^ 32 ∧ (t.get h.window).covers (BitVec.ofNat 32 last) then some h else none

/-! ## WINDOW-SET (01 R8, R9) -/

/-- Two power-of-two windows, each aligned to its size, overlap: the smaller's host base with the low
bits of the larger's size cleared is the larger's host base (01 R9). -/
def Window.overlaps (w v : Window) : Bool :=
  if v.sizeCode.val ≤ w.sizeCode.val then clearLow v.hostBase w.sizeCode.val == w.hostBase
  else clearLow w.hostBase v.sizeCode.val == v.hostBase

/-- The lowest index of another enabled record that the new record overlaps (01 R8 check 5, R9). -/
def conflictIndex (t : Table Window 16) (i : Fin 16) (w : Window) : Option (Fin 16) :=
  (Table.indices 16).find? fun j => j != i && (t.get j).enabled && w.overlaps (t.get j)

/-- What the window table answers a WINDOW-SET: the status, and for OVERLAP the conflict index
(01 R8). -/
def checkWindow (t : Table Window 16) (i : Fin 16) (w : Window) : Status × Option (Fin 16) :=
  if !w.enabled then (.ok, none)
  else if clearLow w.hostBase w.sizeCode.val != w.hostBase then (.badField, none)
  else if decide (w.localBase.toNat % 4 ≠ 0) then (.badField, none)
  else if w.prefetchable && w.isVolatile then (.badField, none)
  else
    match conflictIndex t i w with
    | some j => (.overlap, some j)
    | none => (.ok, none)

/-! ## The fill test (01 R12) -/

/-- The next line: the 64-byte block after the block that contains a local address (01 R12). -/
def nextLine (localAddr : Word) : Word := block64 localAddr + 64

/-- The window table's answer to the fill test of a READ (01 R12): the record at its window index is
enabled and prefetchable, names its port, translates its host address to its local address, and
holds the next line wholly. -/
def mayFill (t : Table Window 16) (x : Access) : Bool :=
  let w := t.get x.window
  w.enabled && w.prefetchable && w.port == x.port && w.covers x.hostAddr
    && w.translate x.hostAddr == x.localAddr
    && decide ((nextLine x.localAddr - w.localBase).toNat + 64 ≤ w.bytes)

end Sys2Proof.Machine
end

