-- ==== Sys2Proof/Machine/PortOps.lean ====
section
/-!
DEFINITION. The port's own state (04): the state that follows from its fields, hold reasons and the
PORT-NOTICE, the read-ahead line.
-/

namespace Sys2Proof.Machine

/-- The states of a port (04 R61). -/
inductive PortState where
  | idle | active | locked | holding | held
  deriving DecidableEq, Repr

/-- The code of a port state (08 R154). -/
def PortState.code : PortState → Byte
  | .idle => 0 | .active => 1 | .locked => 2 | .holding => 3 | .held => 4

/-- The port is held: its hold set is not empty (04 R60). -/
def Port.isHeldSet (x : Port) : Bool := !x.holds.isEmpty

/-- The port's state, from its transaction, its lock and its hold set (04 R61). -/
def Port.state (x : Port) : PortState :=
  if x.isHeldSet then
    if x.txn.isSome || x.lock.isSome then .holding else .held
  else if x.txn.isSome then .active
  else if x.lock.isSome then .locked
  else .idle

/-! ## PORT-NOTICE (04 R79) -/

/-- An entry to HELD or a departure from it calls for a notice (04 R79). -/
def Port.call (x : Port) : Port :=
  match x.notice with
  | .settled => { x with notice := .due }
  | .due => x
  | .sent => { x with renewal := true }

/-- The host acknowledges the frame that carried the PORT-NOTICE (04 R79). -/
def Port.acknowledged (x : Port) : Port :=
  match x.notice with
  | .sent => if x.renewal then { x with notice := .due, renewal := false }
             else { x with notice := .settled }
  | _ => x

/-- The PORT-NOTICE at a link down (04 R79). -/
def Port.linkDown (x : Port) : Port :=
  match x.notice with
  | .sent => { x with notice := .due, renewal := false }
  | _ => x

/-- A change of a port, with the notice that it calls for when it enters or leaves HELD (04 R61,
R79). Every change of a transaction, a lock or a hold set goes through this. -/
def Port.change (x : Port) (f : Port → Port) : Port :=
  let y := f x
  if (x.state == .held) != (y.state == .held) then y.call else y

/-- Port `p` changed, with the notice that the change calls for. -/
def changePort (p : Fin 4) (f : Port → Port) (s : State) : State :=
  s.modPort p fun x => x.change f

/-- The same change of every port. -/
def changeEveryPort (f : Port → Port) (s : State) : State :=
  s.setPorts (s.ports.map fun x => x.change f)

/-! ## Hold reasons (04 R75 to R77, 01 R15) -/

/-- HOST joins the hold set (04 R75). -/
def Port.addHost (x : Port) : Port := { x with holds := { x.holds with host := true } }

/-- HOST and GUARD leave the hold set (04 R76). -/
def Port.release (x : Port) : Port :=
  { x with holds := { x.holds with host := false, guard := false } }

/-- FREEZE joins or leaves the hold set (04 R77). -/
def Port.setFreeze (v : Bool) (x : Port) : Port := { x with holds := { x.holds with freeze := v } }

/-- GUARD joins the hold set (01 R15). -/
def Port.addGuard (x : Port) : Port := { x with holds := { x.holds with guard := true } }

/-! ## The read-ahead line (04 R80 to R83, 01 R11) -/

/-- The transaction in progress is a read-ahead fill. -/
def Port.filling (x : Port) : Bool :=
  match x.txn with
  | some t => t.initiator == .fill
  | none => false

/-- The fill in progress, if one is, reads this line. -/
def Port.fillingLine (x : Port) (a : Word) : Bool :=
  match x.txn with
  | some t => t.initiator == .fill && t.localAddr == a
  | none => false

/-- The read-ahead state is discarded: the line becomes invalid, a pending fill is dropped, a fill in
progress is voided (01 R11, 04 R86). -/
def Port.discardLine (x : Port) : Port :=
  { x with lineValid := false, pendingFill := none
           voidMark := if x.filling then true else x.voidMark }

/-- The discard test at the end of a write: the line is discarded when the write ended in its 64-byte
block (04 R83). -/
def Port.writeEnded (a : Word) (x : Port) : Port :=
  if x.lineValid && block64 a == x.lineAddr then { x with lineValid := false } else x

/-- A READ's local bytes all lie in the valid line (04 R80). -/
def Port.lineCovers (x : Port) (a : Word) (count : Nat) : Bool :=
  x.lineValid && decide ((a - x.lineAddr).toNat + count ≤ Config.lineBytes)

/-- The bytes of the line from a local address (04 R80). -/
def Port.lineBytes (x : Port) (a : Word) (count : Nat) : List Byte :=
  (x.lineData.drop (a - x.lineAddr).toNat).take count

/-- A fill of the next line becomes pending, unless the line is already valid, or a fill of it is
pending or in progress (04 R81). -/
def Port.requestFill (x : Port) (next : Word) : Port :=
  if x.lineValid && x.lineAddr == next then x
  else if x.pendingFill == some next || x.fillingLine next then x
  else { x with pendingFill := some next }

/-- The fill test after a host READ through a prefetchable window ends OK (04 R81, 01 R12). -/
def fillTest (x : Access) (s : State) : State :=
  if x.prefetchable && mayFill s.windows x then
    s.modPort x.port fun y => y.requestFill (nextLine x.localAddr)
  else s

/-- The end of a read-ahead fill: OK without a void mark makes the line valid, any other end drops
the data; the void mark becomes no (04 R82). -/
def Port.fillEnded (a : Word) (ok : Bool) (data : List Byte) (x : Port) : Port :=
  if ok && !x.voidMark then
    { x with lineValid := true, lineAddr := a, lineData := data, voidMark := false }
  else { x with voidMark := false }

end Sys2Proof.Machine
end

