-- ==== Sys2Proof/Machine/Tags.lean ====
section
/-!
DEFINITION. The tag table (03): allocation, the ready list, dropped results, the REPLY of a tag, and
the FENCE barrier with its counts (02 R29, R31 to R33).
-/

namespace Sys2Proof.Machine

/-! ## States of a tag (03 R39) -/

/-- A live entry: QUEUED, ACTIVE, WAITING or READY (03 R39). -/
def Tag.live (x : Tag) : Bool :=
  match x.state with
  | .queued | .active | .waiting | .ready => true
  | .free | .discarding => false

/-- The index of the live entry with a request id, if any (03 R41, R55). -/
def liveTag (tags : Table Tag 32) (id : Half) : Option (Fin 32) :=
  (Table.indices 32).find? fun t => (tags.get t).live && (tags.get t).id == id

/-- The FREE entry with the lowest index (03 R40). -/
def freeTag (tags : Table Tag 32) : Option (Fin 32) :=
  (Table.indices 32).find? fun t => (tags.get t).state == .free

/-- The port of a tagged request, absent for a FENCE. -/
def Tag.port (x : Tag) : Option (Fin 4) := x.access.map Access.port

/-! ## Becoming READY (03 R43 to R45) -/

/-- The statuses that report ACCESS-FAILED (03 R44). -/
def Status.isAccessFailure : Status → Bool
  | .busError | .noResponse | .retryExhausted | .writeFailed | .timeout => true
  | _ => false

/-- The fields of an ACCESS-FAILED fault (03 R44, 07 R127). -/
def Tag.failureDetail (x : Tag) (st : Status) : FaultDetail where
  status := st
  port := x.access.map Access.port
  id := some x.id
  slot := none
  source := none
  localAddr := x.access.map Access.localAddr
  hostAddr := x.access.map Access.hostAddr

/-- An entry becomes READY with a status: it joins the tail of the ready list, and a failure reports
ACCESS-FAILED (03 R43 to R45, R48). `data` are the bytes a READ read, and are left alone otherwise. -/
def makeReady (t : Fin 32) (st : Status) (busPending : Bool) (data : Option (List Byte))
    (s : State) : State :=
  let x := s.tags.get t
  let y := { x with state := .ready, status := st, busPending := busPending
                    data := data.getD x.data }
  let s := (s.setTags (s.tags.set t y)).setReady (s.ready ++ [t])
  if st.isAccessFailure then report .accessFailed (x.failureDetail st) s else s

/-- An entry becomes FREE: every field zero (03 R38). -/
def freeEntry (t : Fin 32) (s : State) : State := s.setTags (s.tags.set t Tag.zero)

/-- The end of a request whose entry is READY with bus pending, or DISCARDING: a dropped result
(03 R49). -/
def dropResult (t : Fin 32) (s : State) : State :=
  match (s.tags.get t).state with
  | .discarding => freeEntry t s
  | .ready => s.modTag t fun x => { x with busPending := false }
  | _ => s

/-- The port's final outcome reaches a tagged request (03 R43, R49): an ACTIVE entry becomes READY
with it, any other takes it as a dropped result. -/
def finishRequest (t : Fin 32) (st : Status) (data : Option (List Byte)) (s : State) : State :=
  if (s.tags.get t).state == .active then makeReady t st false data s else dropResult t s

/-! ## Request lists and arrival order (02 R25 to R27) -/

/-- The place of an entry in arrival order (02 R17). -/
def placeOf (s : State) : Entry → Nat
  | .tag t => (s.tags.get t).place
  | .post k => ((s.pool.get k).map Posted.place).getD 0

/-- The entry is in hold-off (02 R25). -/
def inHoldOff (s : State) : Entry → Bool
  | .tag t => (s.tags.get t).holdOff.isSome
  | .post k => ((s.pool.get k).bind Posted.holdOff).isSome

/-- An entry returns to its port's list, placed by arrival order (02 R26). -/
def returnEntry (p : Fin 4) (e : Entry) (s : State) : State :=
  s.setList p (insertByKey (placeOf s) e (s.lists.get p))

/-- An entry leaves every request list it stands in (02 R27). -/
def removeEntry (e : Entry) (s : State) : State :=
  s.setLists (s.lists.map fun l => l.filter fun x => x != e)

/-- A QUEUED entry leaves its list and becomes READY, its hold-off gone (03 R42, R51, R55). -/
def readyFromQueue (t : Fin 32) (st : Status) (s : State) : State :=
  makeReady t st false none
    ((removeEntry (.tag t) s).modTag t fun x => { x with holdOff := none })

/-! ## The FENCE barrier (02 R29, R32, R33) -/

/-- A FENCE in WAITING that was admitted before the given place exists (02 R29). -/
def barredAt (tags : Table Tag 32) (place : Nat) : Bool :=
  tags.rows.any fun x => x.state == .waiting && decide (x.place < place)

/-- A FENCE leaves every covering set (02 R33). -/
def uncover (t : Fin 32) (s : State) : State :=
  s.setPool (s.pool.map fun r => r.map fun x =>
    { x with covering := x.covering.filter fun u => u != t })

/-- A FENCE leaves WAITING through expiry, ABORT or FLUSH (02 R33). -/
def readyFromBarrier (t : Fin 32) (st : Status) (s : State) : State :=
  makeReady t st false none (uncover t s)

/-- A covering FENCE in WAITING counts the end of a POST; at outstanding count 0 it becomes READY with
OK (02 R32). -/
def countEnd (isFailure : Bool) (t : Fin 32) (s : State) : State :=
  let x := s.tags.get t
  if x.state == .waiting then
    let y := { x with outstanding := x.outstanding - 1
                      failed := if isFailure then x.failed + 1 else x.failed }
    let s := s.setTags (s.tags.set t y)
    if y.outstanding = 0 then makeReady t .ok false none s else s
  else s

/-- A POST ends (02 R24, R32, R35): its slot is returned, and each FENCE in its covering set counts
the end, the one admitted earliest first. -/
def endPost (k : Fin 32) (x : Posted) (isFailure : Bool) (s : State) : State :=
  foldOver x.covering (countEnd isFailure) (s.setSlot k none)

/-! ## The REPLY of a tag (03 R46, R47) -/

/-- The fields of a tag's REPLY after the status (03 R47, 08 R152). -/
def Tag.replyFields (x : Tag) : List Byte :=
  match x.kind with
  | .read =>
    countByte ((x.access.map Access.count).getD 0) :: (if x.status == .ok then x.data else [])
  | .write => []
  | .modify =>
    be32 ((x.oldNew.map Prod.fst).getD 0) ++ be32 ((x.oldNew.map Prod.snd).getD 0)
  | .fence => [countByte x.covered, countByte x.failed]

/-- The REPLY built from a tag entry (03 R47). -/
def Tag.reply (x : Tag) : Message :=
  plainReply x.id x.kind.request.code x.status x.replyFields

/-- The entry is released as its REPLY's frame is built (03 R46): FREE, or DISCARDING while its
transaction runs. -/
def releaseTag (t : Fin 32) (s : State) : State :=
  if (s.tags.get t).busPending then s.modTag t fun x => { x with state := .discarding }
  else freeEntry t s

end Sys2Proof.Machine
end

