-- ==== Sys2Proof/Machine/Admission.lean ====
section
/-!
DEFINITION. Admission (02): the checks on an access request, its refusal or its place, the guard of
the miss policy (01 R15), and FENCE (02 R31).
-/

namespace Sys2Proof.Machine

/-! ## The checks (02 R18) -/

/-- Check 1 fails: a 1-, 2- or 4-byte access not aligned to its size; a burst that does not start on a
multiple of 4, or whose host bytes, or on a hit local bytes, do not lie in one 64-byte block
(02 R18, 01 R6). -/
def isMisaligned (a : Word) (count : Nat) (hit : Option Hit) : Bool :=
  if count ≤ 4 then decide (a.toNat % count ≠ 0)
  else
    decide (a.toNat % 4 ≠ 0) || !inOneBlock a count ||
      match hit with
      | some h => !inOneBlock h.localAddr count
      | none => false

/-- Checks 1 to 3 (02 R18): the hit of an access that passes them, or the refusal's status. -/
def checkAccess (k : RequestKind) (a : Word) (count : Nat) (hit : Option Hit) : Except Status Hit :=
  if isMisaligned a count hit then .error .misaligned
  else
    match hit with
    | none => .error .unmapped
    | some h =>
      if h.readOnly && k != .read then .error .isProtected
      else if k == .post && !h.postable then .error .notPostable
      else .ok h

/-- Checks 4 and 5a (02 R18): the tag that a non-posted request takes, or the refusal's status. -/
def checkTag (id : Half) (tags : Table Tag 32) : Except Status (Fin 32) :=
  if (liveTag tags id).isSome then .error .duplicateId
  else
    match freeTag tags with
    | some t => .ok t
    | none => .error .noTag

/-- The free posted slot that a POST takes (02 R22). R22 says "a free slot" and does not name it: the model
takes the one with the lowest index (notes/assumptions/19.md, DESIGN CHOICE). -/
def freeSlot (pool : Table (Option Posted) 32) : Option (Fin 32) :=
  (Table.indices 32).find? fun k => (pool.get k).isNone

/-! ## The guard (01 R15) -/

/-- The fields of a GUARD-MISS fault (01 R15, 07 R127). -/
def guardDetail (a : Word) (id : Option Half) : FaultDetail :=
  ⟨.unmapped, none, id, none, none, none, some a⟩

/-- A miss under HOLD triggers the guard: GUARD on every port, then a GUARD-MISS fault (01 R15). Under
REPLY the miss has no further effect (01 R14). -/
def guardMiss (a : Word) (id : Option Half) (s : State) : State :=
  match s.settings.missPolicy with
  | .hold => report .guardMiss (guardDetail a id) (changeEveryPort Port.addGuard s)
  | .reply => s

/-! ## READ, WRITE and MODIFY (02 R19, R21) -/

/-- The tag kind of an access request kind. -/
def tagKindOf : RequestKind → TagKind
  | .write => .write
  | .modify => .modify
  | .fence => .fence
  | _ => .read

/-- The tag entry of an admitted READ, WRITE or MODIFY (02 R21, 03 R38, R40), with its decode (01 R7). -/
def admittedTag (k : RequestKind) (id : Half) (body : List Byte) (h : Hit) (limit : Half)
    (place : Nat) : Tag :=
  { Tag.zero with
    state := .queued
    id := id
    kind := tagKindOf k
    access := some ⟨h.window, h.port, u32 body 0, h.localAddr, h.isVolatile, h.prefetchable,
      h.readOnly, h.postable, (u8 body 4).toNat⟩
    data := if k == .write then body.drop 5 else []
    setMask := if k == .modify then u32 body 5 else 0
    clearMask := if k == .modify then u32 body 9 else 0
    invertMask := if k == .modify then u32 body 13 else 0
    timeLeft := Config.completionUnits limit.toNat
    place := place }

/-- A refused READ, WRITE, MODIFY or FENCE: a REPLY with the refusal's status (02 R19). -/
def refuseTagged (k : RequestKind) (id : Half) (body : List Byte) (st : Status) (s : State) : State :=
  s.addReply (plainReply id k.code st (badFieldFields k body))

/-- A READ, WRITE or MODIFY is taken: a tag, a place in its port's list (02 R21). -/
def admitTagged (k : RequestKind) (id : Half) (body : List Byte) (h : Hit) (t : Fin 32)
    (s : State) : State :=
  let x := admittedTag k id body h (s.ports.get h.port).settings.completionLimit s.nextPlace
  let s := s.setTags (s.tags.set t x)
  (s.setList h.port (s.lists.get h.port ++ [.tag t])).bumpPlace

/-- Admission acts on a READ, WRITE or MODIFY (02 R17 to R21). -/
def ownTagged (k : RequestKind) (id : Half) (body : List Byte) (s : State) : State :=
  let a := u32 body 0
  match checkAccess k a (u8 body 4).toNat (decodeAddr s.windows a) with
  | .error st =>
    refuseTagged k id body st (if st == .unmapped then guardMiss a (some id) s else s)
  | .ok h =>
    match checkTag id s.tags with
    | .error st => refuseTagged k id body st s
    | .ok t => admitTagged k id body h t s

/-! ## POST (02 R20, R22) -/

/-- The fields of a POST-REFUSED or CREDIT-OVERRUN fault: port and local address when the decode hit
(02 R20, 07 R127). -/
def postRefusedDetail (st : Status) (a : Word) (hit : Option Hit) : FaultDetail :=
  ⟨st, hit.map Hit.port, none, none, none, hit.map Hit.localAddr, some a⟩

/-- The posted record of an admitted POST (02 R22), with its decode (01 R7). -/
def postedRecord (body : List Byte) (h : Hit) (place : Nat) : Posted where
  window := h.window
  port := h.port
  hostAddr := u32 body 0
  localAddr := h.localAddr
  count := (u8 body 4).toNat
  data := body.drop 5
  isVolatile := h.isVolatile
  prefetchable := h.prefetchable
  readOnly := h.readOnly
  postable := h.postable
  retries := 0
  holdOff := none
  covering := []
  place := place
  flushed := false

/-- A POST is taken: a slot of the posted pool, a place in its port's list (02 R22). -/
def admitPost (body : List Byte) (h : Hit) (k : Fin 32) (s : State) : State :=
  let s := s.setSlot k (some (postedRecord body h s.nextPlace))
  (s.setList h.port (s.lists.get h.port ++ [.post k])).bumpPlace

/-- Admission acts on a POST (02 R17, R18, R20, R22). -/
def ownPost (body : List Byte) (s : State) : State :=
  let a := u32 body 0
  let hit := decodeAddr s.windows a
  match checkAccess .post a (u8 body 4).toNat hit with
  | .error st =>
    report .postRefused (postRefusedDetail st a hit)
      (if st == .unmapped then guardMiss a none s else s)
  | .ok h =>
    match freeSlot s.pool with
    | some k => admitPost body h k s
    | none => report .creditOverrun (postRefusedDetail .credit a hit) s

/-! ## FENCE (02 R31) -/

/-- The posted slots that are held (02 R31). -/
def heldSlots (pool : Table (Option Posted) 32) : Nat := pool.rows.countP Option.isSome

/-- The tag entry of an admitted FENCE (02 R31, 03 R40). -/
def fenceTag (id : Half) (covered place : Nat) : Tag :=
  { Tag.zero with
    state := .waiting
    id := id
    kind := .fence
    timeLeft := Config.completionUnits Config.fenceUnits
    covered := covered
    outstanding := covered
    place := place }

/-- A FENCE is taken: it covers every POST whose slot is held; covering none it is READY with OK at
once, otherwise it joins the barrier (02 R31). -/
def admitFence (id : Half) (t : Fin 32) (s : State) : State :=
  let n := heldSlots s.pool
  let s := (s.setTags (s.tags.set t (fenceTag id n s.nextPlace))).bumpPlace
  if n = 0 then makeReady t .ok false none s
  else
    s.setPool (s.pool.map fun r => r.map fun x => { x with covering := x.covering ++ [t] })

/-- Admission acts on a FENCE (02 R18, R19, R31). -/
def ownFence (id : Half) (s : State) : State :=
  match checkTag id s.tags with
  | .error st => refuseTagged .fence id [] st s
  | .ok t => admitFence id t s

end Sys2Proof.Machine
end

