-- ==== Sys2Proof/Machine/Concentrator.lean ====
section
/-!
DEFINITION. The interrupt concentrator (06): asking for service, starting a cycle, the ends of vector
reads and acknowledge writes, the requests that configure sources.
-/

namespace Sys2Proof.Machine

/-- The port of a source: source index = port x 8 + line (06 R110). -/
def portOfSource (i : Fin 32) : Fin 4 := ⟨i.val / 8, by omega⟩

/-- The trigger condition: the line high for LEVEL, the edge latch set for EDGE (06 R112, R116). -/
def Source.asks (x : Source) (line : Bool) : Bool :=
  match x.trigger with
  | .level => line
  | .edge => x.latch

/-- The concentrator asks the source's port for an operation, which joins the tail of the port's
queue with retries used 0 (04 R72, 06 R114, R119). -/
def askPort (i : Fin 32) (isWrite : Bool) (addr : Word) (size : Nat) (value : Word) (s : State) :
    State :=
  let op : IrqOp := ⟨i, isWrite, addr, size, value, 0, none, s.nextPlace, false⟩
  ((s.modPort (portOfSource i) fun x => { x with opQueue := x.opQueue ++ [op] }).modSource i
    fun x => { x with inFlight := true }).bumpPlace

/-- An unmasked cycle goes on: FETCHING with a vector read asked of the port, or DUE with vector status
NONE and vector value 0 (06 R112, R121). -/
def fetchOrDue (i : Fin 32) (s : State) : State :=
  match (s.sources.get i).vectorRead with
  | some v =>
    askPort i false v.localAddr v.size 0 (s.modSource i fun x => { x with state := .fetching })
  | none => s.modSource i fun x => { x with state := .due, vecStatus := none, vecValue := 0 }

/-- A source starts a cycle when it is judged: IDLE, enabled, asking for service and with no operation
in flight (06 R112). -/
def Source.startsCycle (x : Source) (line : Bool) : Bool :=
  x.state == .idle && x.enabled && x.asks line && !x.inFlight

/-- A source is judged: it may start a cycle, and its latch is then cleared (06 R112). -/
def judgeSource (i : Fin 32) (s : State) : State :=
  let x := s.sources.get i
  if x.startsCycle (s.pins.lines.get i) then
    let s := s.modSource i fun x => { x with latch := false, behindFlush := false }
    if x.masked then s.modSource i fun x => { x with state := .pending }
    else fetchOrDue i s
  else s

/-- A source is judged once a FLUSH has been taken. The notice of a cycle that a LEVEL source then starts
follows the REPLY to the FLUSH (06 R125; notes/assumptions/21.md, DEDUCED). -/
def judgeAfterFlush (i : Fin 32) (s : State) : State :=
  let x := s.sources.get i
  if x.startsCycle (s.pins.lines.get i) && x.trigger == .level then
    (judgeSource i s).modSource i fun x => { x with behindFlush := true }
  else judgeSource i s

/-- A rising edge on the line of a source: an enabled EDGE source sets its latch, and outside IDLE
counts the edge (06 R112, R113). -/
def Source.edge (x : Source) : Source :=
  if x.enabled && x.trigger == .edge then
    { x with latch := true
             coalesced := if x.state == .idle then x.coalesced else satInc x.coalesced }
  else x

/-! ## Ends of operations (06 R114, R118, R119, R125) -/

/-- The fields of IRQ-FETCH-FAILED and IRQ-ACK-FAILED (06 R118). -/
def IrqOp.failureDetail (op : IrqOp) (st : Status) : FaultDetail where
  status := st
  port := some (portOfSource op.source)
  id := none
  slot := none
  source := some op.source
  localAddr := some op.localAddr
  hostAddr := none

/-- The state a source goes to when its vector read has ended (06 R114). -/
def Source.afterFetch (x : Source) : SourceState :=
  if !x.enabled then .idle else if x.masked then .pending else .due

/-- A vector read's final result reaches the concentrator (06 R114). -/
def vectorReadEnded (op : IrqOp) (st : Status) (data : List Byte) (s : State) : State :=
  let s := s.modSource op.source fun x =>
    { x with inFlight := false, vecStatus := some st
             vecValue := if st == .ok then wordBE data else 0
             state := x.afterFetch }
  let s := if st == .ok then s else report .irqFetchFailed (op.failureDetail st) s
  judgeSource op.source s

/-- An acknowledge write's final result reaches the concentrator (06 R119). -/
def ackWriteEnded (op : IrqOp) (st : Status) (s : State) : State :=
  let s := s.modSource op.source fun x =>
    { x with inFlight := false, ackStatus := some st, state := .idle }
  let s := if st == .ok then s else report .irqAckFailed (op.failureDetail st) s
  judgeSource op.source s

/-- The final result of an interrupt operation. The result of one that a FLUSH reached is dropped, and
its source is judged (06 R125). -/
def operationEnded (op : IrqOp) (st : Status) (data : List Byte) (s : State) : State :=
  if op.flushed then
    judgeAfterFlush op.source (s.modSource op.source fun x => { x with inFlight := false })
  else if op.isWrite then ackWriteEnded op st s
  else vectorReadEnded op st data s

/-! ## Notices (06 R115 to R117, R124) -/

/-- The host acknowledges the frame, of sequence number `q`, of an IRQ-NOTICE: it is that of the
source's current cycle when its building made the source SENT (06 R117, R125). -/
def Source.acknowledged (q : Seq) (x : Source) : Source :=
  if x.state == .sent && x.noticeSeq == some q then
    { x with state := .notified, sentCount := none, noticeSeq := none }
  else x

/-- A SENT source at a link down: DUE again, the count carried by the lost frame added back (06 R124). -/
def Source.linkDown (x : Source) : Source :=
  match x.state with
  | .sent =>
    { x with state := .due
             coalesced := BitVec.ofNat 8 (min 255 ((x.sentCount.getD 0).toNat + x.coalesced.toNat))
             sentCount := none, noticeSeq := none }
  | _ => x

/-- A source at a FLUSH, its operation in flight aside (06 R125). -/
def Source.flush (x : Source) : Source :=
  { x with state := .idle, latch := false, coalesced := 0, sentCount := none, noticeSeq := none
           behindFlush := false }

/-- A DUE source offers its IRQ-NOTICE (06 R115), but for a cycle that a FLUSH let it start while the
REPLY to the FLUSH waits (06 R125). -/
def Source.offersNotice (x : Source) (flushReplyWaits : Bool) : Bool :=
  x.state == .due && !(x.behindFlush && flushReplyWaits)

/-- The sources in the order in which one request judges them: a free order
(notes/assumptions/5.md). -/
def sourceOrder (draw : Nat) : List (Fin 32) :=
  sortByKey (fun i => Config.freeRank draw i.val) (Table.indices 32)

/-! ## Requests (06 R119 to R122) -/

/-- The operations of an IRQ-SET that enables its source are aligned to their sizes (06 R120). -/
def operationsAligned (v : Option VectorRead) (a : Option AckWrite) : Bool :=
  (match v with
   | some v => decide (v.localAddr.toNat % v.size = 0)
   | none => true) &&
  (match a with
   | some a => decide (a.localAddr.toNat % a.size = 0)
   | none => true)

/-- The source's configuration replaced by that of an IRQ-SET; disabling clears the latch and the
count, LEVEL clears the latch; the masked field is kept (06 R120). -/
def Source.configure (x : Source) (body : List Byte) : Source :=
  let on := u8 body 1 == 1
  let trig := triggerOf (u8 body 2)
  { x with enabled := on, trigger := trig, priority := indexOf 3 (u8 body 3)
           vectorRead := vectorReadOf body, ackWrite := ackWriteOf body
           latch := if !on || trig == .level then false else x.latch
           coalesced := if on then x.coalesced else 0 }

/-- The status of an IRQ-SET, by the request's enabled field and the source's state (06 R120). -/
def irqSetStatus (x : Source) (body : List Byte) : Status :=
  if u8 body 1 == 1 then
    match x.state with
    | .idle | .pending =>
      if operationsAligned (vectorReadOf body) (ackWriteOf body) then .ok else .misaligned
    | _ => .state
  else
    match x.state with
    | .idle | .pending | .fetching | .due => .ok
    | _ => .state

/-- The state in which an IRQ-SET that disables leaves a source (06 R120). -/
def Source.disabledState (x : Source) : SourceState :=
  match x.state with
  | .pending | .due => .idle
  | st => st

/-- A taken IRQ-SET (06 R120). -/
def takeIrqSet (i : Fin 32) (body : List Byte) (s : State) : State :=
  if u8 body 1 == 1 then judgeSource i (s.modSource i fun x => x.configure body)
  else s.modSource i fun x => { x.configure body with state := x.disabledState }

/-- IRQ-MASK acts on one source (06 R121). -/
def maskSource (v : Bool) (i : Fin 32) (s : State) : State :=
  let st := (s.sources.get i).state
  let s := s.modSource i fun x => { x with masked := v }
  match st, v with
  | .due, true => s.modSource i fun x => { x with state := .pending }
  | .idle, false => judgeSource i s
  | .pending, false => fetchOrDue i s
  | _, _ => s

/-- IRQ-DONE in NOTIFIED closes the cycle (06 R119). -/
def closeCycle (i : Fin 32) (s : State) : State :=
  match (s.sources.get i).ackWrite with
  | some a =>
    askPort i true a.localAddr a.size a.value (s.modSource i fun x => { x with state := .acking })
  | none => judgeSource i (s.modSource i fun x => { x with state := .idle })

/-- The fields that IRQ-GET reports after the source index (06 R122, 08 R152). -/
def Source.getFields (x : Source) (line : Bool) : List Byte :=
  [yesNo x.enabled, x.trigger.code, countByte x.priority.val]
    ++ (match x.vectorRead with
        | some v => 1 :: be32 v.localAddr ++ [countByte v.size]
        | none => zeros 6)
    ++ (match x.ackWrite with
        | some a => 1 :: be32 a.localAddr ++ be32 a.value ++ [countByte a.size]
        | none => zeros 10)
    ++ [yesNo x.masked, x.state.code, yesNo line, yesNo x.latch, x.coalesced,
        statusOrNone x.vecStatus]
    ++ be32 x.vecValue ++ [statusOrNone x.ackStatus, yesNo x.inFlight]

end Sys2Proof.Machine
end

