-- ==== Sys2Proof/Machine/Jobs.lean ====
section
/-!
DEFINITION. The job engine (05): validation, chunks, ends, chaining, notices, pause and stop.
-/

namespace Sys2Proof.Machine

/-! ## What a kind uses (05 R91) -/

/-- COPY and CHECK use the source range. -/
def JobKind.usesSource : JobKind → Bool
  | .copy | .check => true
  | .fill => false

/-- COPY and FILL use the destination range. -/
def JobKind.usesDestination : JobKind → Bool
  | .copy | .fill => true
  | .check => false

/-- The started states (05 R90). -/
def JobState.isStarted : JobState → Bool
  | .running | .pausing | .paused | .stopping => true
  | .empty | .loaded | .stopped | .done | .failed => false

/-- A chunk is in flight: its first transaction has started (05 R97). -/
def JobSlot.inFlight (x : JobSlot) : Bool :=
  match x.chunk with
  | some c => c.started
  | none => false

/-- The progress reset as a descriptor becomes active (05 R92). -/
def JobSlot.activate (x : JobSlot) (d : Descriptor) : JobSlot :=
  { x with active := some d, bytesDone := 0, bytesLeft := d.length.toNat, crc := 0xFFFFFFFF#32
           failStatus := none, failAddr := none }

/-! ## Validation (05 R93) -/

/-- A failed validation: its status, and the host address of the first byte of the range that failed
(05 R93, R104). -/
structure ValidationFailure where
  status : Status
  hostAddr : Word
  deriving DecidableEq, Repr

/-- The run decode of one range (01 R7, 05 R93). -/
def rangeOf (h : Hit) : RangeDecode :=
  ⟨h.window, h.port, h.localAddr, h.isVolatile, h.prefetchable, h.readOnly, h.postable⟩

/-- Check 1 of a start: the source range (05 R93). -/
def validateSource (t : Table Window 16) (d : Descriptor) :
    Except ValidationFailure (Option RangeDecode) :=
  if d.kind.usesSource then
    match decodeRange t d.source d.length.toNat with
    | some h => .ok (some (rangeOf h))
    | none => .error ⟨.unmapped, d.source⟩
  else .ok none

/-- Checks 2 and 3 of a start: the destination range and its write permission (05 R93). -/
def validateDestination (t : Table Window 16) (d : Descriptor) :
    Except ValidationFailure (Option RangeDecode) :=
  if d.kind.usesDestination then
    match decodeRange t d.destination d.length.toNat with
    | some h =>
      if h.readOnly then .error ⟨.isProtected, d.destination⟩ else .ok (some (rangeOf h))
    | none => .error ⟨.unmapped, d.destination⟩
  else .ok none

/-- The validation of a descriptor against the window table (05 R93). -/
def validate (t : Table Window 16) (d : Descriptor) : Except ValidationFailure RunDecode :=
  match validateSource t d with
  | .error e => .error e
  | .ok src =>
    match validateDestination t d with
    | .error e => .error e
    | .ok dst => .ok ⟨src, dst⟩

/-! ## Chunks (05 R96, R97) -/

/-- The local address of a range's next byte: local start plus bytes done, modulo 2^32 (05 R96). For a
range that the job's kind does not use, the chunk holds the address 0 (05 R89 gives none;
notes/assumptions/20.md, DESIGN CHOICE). -/
def nextAddr (r : Option RangeDecode) (done : Nat) : Word :=
  match r with
  | some r => r.localStart + BitVec.ofNat 32 done
  | none => 0

/-- The bytes from a local address to the end of its 64-byte block (05 R96). -/
def toBlockEnd (a : Word) : Nat := 64 - a.toNat % 64

/-- The length of the next chunk (05 R96). -/
def chunkLength (d : Descriptor) (left : Nat) (src dst : Word) : Nat :=
  let n := min d.chunkSize.toNat left
  let n := if d.kind.usesSource then min n (toBlockEnd src) else n
  if d.kind.usesDestination then min n (toBlockEnd dst) else n

/-- The phase of a chunk's first transaction (05 R97). -/
def firstPhase : JobKind → ChunkPhase
  | .copy | .check => .read
  | .fill => .write

/-- The pattern bytes of a FILL chunk: each byte is the pattern byte at its offset from the destination
start modulo 4 (05 R97). -/
def patternBytes (pattern : Word) (done n : Nat) : List Byte :=
  (List.range n).map fun i => (be32 pattern).getD ((done + i) % 4) 0

/-- A slot offers a transaction to a port (05 R97, 04 R73). -/
def offerChunk (j : Fin 4) (p : Fin 4) (o : Offer) (s : State) : State :=
  s.modPort p fun x => { x with offers := x.offers.set j (some o) }

/-- The slot's offered transaction, if any, is withdrawn from its port (04 R73, 05 R101). -/
def withdrawChunk (j : Fin 4) (s : State) : State :=
  s.setPorts (s.ports.map fun x => { x with offers := x.offers.set j none })

/-- The next chunk of a RUNNING slot is laid out and its first transaction offered (05 R96, R97). -/
def layOut (j : Fin 4) (s : State) : State :=
  let x := s.jobs.get j
  match x.state, x.chunk, x.active, x.run with
  | .running, none, some d, some r =>
    if x.bytesLeft = 0 then s
    else
      let src := nextAddr r.source x.bytesDone
      let dst := nextAddr r.destination x.bytesDone
      let n := chunkLength d x.bytesLeft src dst
      let s := s.modJob j fun x => { x with chunk := some ⟨n, src, dst, firstPhase d.kind, false⟩ }
      match firstPhase d.kind with
      | .read =>
        match r.source with
        | some q => offerChunk j q.port ⟨false, src, n, [], q.isVolatile, 0, none, false⟩ s
        | none => s
      | .write =>
        match r.destination with
        | some q =>
          offerChunk j q.port
            ⟨true, dst, n, patternBytes d.pattern x.bytesDone n, q.isVolatile, 0, none, false⟩ s
        | none => s
  | _, _, _, _ => s

/-- A job that has passed validation runs (05 R93). -/
def runJob (j : Fin 4) (r : RunDecode) (s : State) : State :=
  layOut j (s.modJob j fun x => { x with state := .running, run := some r })

/-! ## Notices (05 R105) -/

/-- The content of a job's end (05 R104). -/
def JobSlot.content (x : JobSlot) (e : JobState) : JobContent :=
  ⟨e, x.bytesDone, crcReported x.crc, x.failStatus, x.failAddr⟩

/-- A job end records notice content (05 R105). -/
def JobSlot.record (x : JobSlot) (c : JobContent) : JobSlot :=
  match x.notice with
  | .settled => { x with latest := some c, notice := .due }
  | .due => { x with latest := some c, overwritten := satInc x.overwritten }
  | .sent =>
    { x with latest := some c
             overwritten := if x.latest.isSome then satInc x.overwritten else x.overwritten }

/-- The host acknowledges the frame that carried the JOB-NOTICE (05 R105). -/
def JobSlot.acknowledged (x : JobSlot) : JobSlot :=
  match x.notice with
  | .sent => { x with sent := none, notice := if x.latest.isSome then .due else .settled }
  | _ => x

/-- The JOB-NOTICE at a link down (05 R105). -/
def JobSlot.linkDown (x : JobSlot) : JobSlot :=
  match x.notice with
  | .sent =>
    if x.latest.isSome then
      { x with notice := .due, sent := none, overwritten := satInc x.overwritten }
    else { x with notice := .due, latest := x.sent, sent := none }
  | _ => x

/-! ## Ends and chaining (05 R104) -/

/-- The fields of a JOB-FAILED fault (05 R100, R104, 07 R127). -/
def jobFailure (j : Fin 4) (st : Status) (port : Option (Fin 4)) (localAddr : Option Word)
    (hostAddr : Word) : FaultDetail where
  status := st
  port := port
  id := none
  slot := some j
  source := none
  localAddr := localAddr
  hostAddr := some hostAddr

/-- Steps 1 and 2 of a job's end, and its state: the run decode dropped, the current chunk clear, the
notice content recorded when the active descriptor's notify flag is set (05 R104). -/
def JobSlot.close (x : JobSlot) (e : JobState) : JobSlot :=
  let y := { x with state := e, run := none, chunk := none }
  match y.active with
  | some d => if d.notify then y.record (y.content e) else y
  | none => y

/-- A chained start that fails validation ends the new job FAILED as it begins (05 R104). -/
def failChained (j : Fin 4) (f : ValidationFailure) (s : State) : State :=
  let s := s.modJob j fun x =>
    JobSlot.close { x with failStatus := some f.status, failAddr := none } .failed
  report .jobFailed (jobFailure j f.status none none f.hostAddr) s

/-- A job ends (05 R104): DONE, STOPPED or FAILED. A staged descriptor takes the job's place, and is
started when the end was DONE and its start-on-load flag is set. -/
def endJob (j : Fin 4) (e : JobState) (s : State) : State :=
  let s := s.modJob j fun x => x.close e
  match (s.jobs.get j).staged with
  | none => s
  | some d =>
    let s := s.modJob j fun x => { x.activate d with staged := none, state := .loaded }
    if e == .done && d.startOnLoad then
      match validate s.windows d with
      | .ok r => runJob j r s
      | .error f => failChained j f s
    else s

/-! ## Chunk ends (05 R98, R100, R103, R107) -/

/-- The slot winds down after a FLUSH: EMPTY, its notice and buffer kept (05 R107). -/
def JobSlot.emptied (x : JobSlot) : JobSlot :=
  { x with state := .empty, active := none, staged := none, run := none, bytesDone := 0
           bytesLeft := 0, crc := 0xFFFFFFFF#32, failStatus := none, failAddr := none, chunk := none
           flushMark := false }

/-- The final outcome of a flush-stopping slot's transaction: the result is dropped, and the slot is
EMPTY, or LOADED with the descriptor staged since (05 R107). -/
def JobSlot.flushEnded (x : JobSlot) : JobSlot :=
  match x.staged with
  | none => x.emptied
  | some d => { x.emptied.activate d with state := .loaded }

/-- The last transaction of the current chunk ended OK: progress, then what the slot's state asks
(05 R98, R103). -/
def chunkDone (j : Fin 4) (n : Nat) (data : List Byte) (s : State) : State :=
  let s := s.modJob j fun x =>
    { x with crc := crc32Fold x.crc data, bytesDone := x.bytesDone + n
             bytesLeft := x.bytesLeft - n, chunk := none }
  let x := s.jobs.get j
  if x.bytesLeft = 0 then endJob j .done s
  else
    match x.state with
    | .pausing => s.modJob j fun x => { x with state := .paused }
    | .stopping => endJob j .stopped s
    | _ => layOut j s

/-- A chunk's transaction failed (05 R100). -/
def chunkFailed (j : Fin 4) (p : Fin 4) (o : Offer) (st : Status) (s : State) : State :=
  let x := s.jobs.get j
  let host := match x.active with
    | some d => (if o.isWrite then d.destination else d.source) + BitVec.ofNat 32 x.bytesDone
    | none => 0
  let s := s.modJob j fun x =>
    { x with failStatus := some st, failAddr := some o.localAddr, chunk := none }
  endJob j .failed (report .jobFailed (jobFailure j st (some p) (some o.localAddr) host) s)

/-- The bytes of a COPY read enter the chunk buffer, in ascending local address order (05 R97), from its
front; behind them the buffer keeps the bytes it held (R97 places no shorter read in it;
notes/assumptions/22.md, DESIGN CHOICE). -/
def fillBuffer (buffer data : List Byte) : List Byte := data ++ buffer.drop data.length

/-- A COPY read ended OK: its bytes enter the chunk buffer and the write is offered with them
(05 R97). -/
def copyReadDone (j : Fin 4) (data : List Byte) (s : State) : State :=
  let x := s.jobs.get j
  match x.chunk, x.run with
  | some c, some r =>
    let s := s.modJob j fun x =>
      { x with buffer := fillBuffer x.buffer data, chunk := some { c with phase := .write } }
    match r.destination with
    | some q => offerChunk j q.port ⟨true, c.destination, c.length, data, q.isVolatile, 0, none, false⟩ s
    | none => s
  | _, _ => s

/-- The slot's job is a COPY. -/
def JobSlot.isCopy (x : JobSlot) : Bool :=
  match x.active with
  | some d => d.kind == .copy
  | none => false

/-- A chunk transaction's final outcome reaches its slot (04 R66, 05 R97, R98, R100, R107). `data`
are the bytes read. -/
def chunkEnded (j : Fin 4) (p : Fin 4) (o : Offer) (st : Status) (data : List Byte) (s : State) :
    State :=
  let x := s.jobs.get j
  if x.flushMark then s.modJob j fun x => x.flushEnded
  else if st == .ok then
    if x.isCopy && !o.isWrite then copyReadDone j data s
    else chunkDone j o.size (if o.isWrite then o.data else data) s
  else chunkFailed j p o st s

/-! ## Requests (05 R94, R95, R101 to R103) -/

/-- JOB-START in LOADED, and a start-on-load: validation, then RUNNING (05 R94, R95). -/
def startJob (j : Fin 4) (s : State) : Status × State :=
  match (s.jobs.get j).active with
  | some d =>
    match validate s.windows d with
    | .ok r => (.ok, runJob j r s)
    | .error f => (f.status, s)
  | none => (.state, s)

/-- JOB-LOAD: the status, whether a descriptor was replaced, and the state after it (05 R94). -/
def loadJob (j : Fin 4) (d : Descriptor) (s : State) : Status × Bool × State :=
  let x := s.jobs.get j
  if x.state.isStarted then
    (.ok, x.staged.isSome, s.modJob j fun x => { x with staged := some d })
  else
    let s' := s.modJob j fun x => { x.activate d with state := .loaded }
    if d.startOnLoad then
      let r := startJob j s'
      (r.1, x.active.isSome, r.2)
    else (.ok, x.active.isSome, s')

/-- JOB-PAUSE (05 R101). -/
def pauseJob (j : Fin 4) (s : State) : Status × State :=
  let x := s.jobs.get j
  match x.state with
  | .running =>
    if x.inFlight then (.ok, s.modJob j fun x => { x with state := .pausing })
    else (.ok, (withdrawChunk j s).modJob j fun x => { x with state := .paused, chunk := none })
  | _ => (.state, s)

/-- JOB-RESUME (05 R102). -/
def resumeJob (j : Fin 4) (s : State) : Status × State :=
  match (s.jobs.get j).state with
  | .paused => (.ok, layOut j (s.modJob j fun x => { x with state := .running }))
  | .pausing => (.ok, s.modJob j fun x => { x with state := .running })
  | _ => (.state, s)

/-- JOB-STOP (05 R103). -/
def stopJob (j : Fin 4) (s : State) : Status × State :=
  let x := s.jobs.get j
  match x.state with
  | .running =>
    if x.inFlight then (.ok, s.modJob j fun x => { x with state := .stopping })
    else
      (.ok, endJob j .stopped ((withdrawChunk j s).modJob j fun x => { x with chunk := none }))
  | .pausing => (.ok, s.modJob j fun x => { x with state := .stopping })
  | .paused => (.ok, endJob j .stopped s)
  | _ => (.state, s)

/-! ## Reporting (05 R106, 08 R152) -/

/-- The 19 bytes of a descriptor; an absent one is 19 zero bytes (08 R152). -/
def descriptorBytes : Option Descriptor → List Byte
  | none => zeros 19
  | some d =>
    [d.kind.code, d.flags] ++ be32 d.source ++ be32 d.destination ++ be32 d.length
      ++ [d.chunkSize] ++ be32 d.pattern

/-- The status code of an optional status, 0 when absent (08 R152). -/
def optStatus (x : Option Status) : Byte := (x.map Status.code).getD 0

/-- The fields that JOB-GET reports after the slot number (05 R106, 08 R152). -/
def JobSlot.getFields (x : JobSlot) : List Byte :=
  [x.state.code, yesNo x.active.isSome] ++ descriptorBytes x.active
    ++ be32 (BitVec.ofNat 32 x.bytesDone) ++ be32 (BitVec.ofNat 32 x.bytesLeft)
    ++ be32 (crcReported x.crc)
    ++ [bitsByte [x.failStatus.isSome, x.failAddr.isSome, x.staged.isSome, x.inFlight, x.flushMark],
        optStatus x.failStatus]
    ++ be32 (x.failAddr.getD 0) ++ descriptorBytes x.staged
    ++ (match x.chunk with
        | some c => if c.started then [c.phase.code, countByte c.length] else zeros 2
        | none => zeros 2)
    ++ [x.notice.code, x.overwritten]

/-- The body of a JOB-NOTICE (05 R105, 08 R153). -/
def jobNoticeBody (j : Fin 4) (c : JobContent) (overwritten : Byte) : List Byte :=
  [countByte j.val, c.endState.code] ++ be32 (BitVec.ofNat 32 c.bytesDone) ++ be32 c.crc
    ++ [bitsByte [c.failStatus.isSome, c.failAddr.isSome], optStatus c.failStatus]
    ++ be32 (c.failAddr.getD 0) ++ [overwritten]

end Sys2Proof.Machine
end

