-- ==== Sys2Proof/Machine/Reset.lean ====
section
/-!
DEFINITION. The resets of the part (07 R138 to R141): the reset values of every block, and what a
FLUSH does in each block (02 R35, 03 R57, 04 R86, 05 R107, 06 R125).
-/

namespace Sys2Proof.Machine

/-! ## Power-on, RESET_N and FULL (07 R139 to R141) -/

/-- Every block at its reset values (R16, R37, R59, R88, R109, R126, R134, R151, R174), with a reset
cause; the ports take FREEZE from the pin. The pins, the model's queue and its count of free choices
are left alone. A frame on HTX is cut off (notes/assumptions/14.md, DEDUCED). -/
def resetBlocks (cause : ResetCause) (s : State) : State :=
  { State.reset with
    pins := s.pins
    settings := { State.reset.settings with resetCause := cause }
    ports := Table.fill 4 (Port.atReset s.pins.freeze)
    freeDraws := s.freeDraws
    pending := s.pending }

/-- The part in reset: every block holds its reset values and no timer runs, so the beacon timer is
stopped; the reset cause is set only on leaving (07 R140, R141). -/
def holdInReset (s : State) : State :=
  (resetBlocks s.settings.resetCause s).modLink fun l => { l with beacon := none }

/-- A FULL reset is carried out: the effect of RESET_N, with reset cause SOFT (07 R139). -/
def fullReset (s : State) : State := resetBlocks .soft s

/-! ## FLUSH: request lists, posted pool and tags (02 R35, 03 R57) -/

/-- A posted slot stands in a request list. -/
def isQueuedPost (s : State) (k : Fin 32) : Bool :=
  s.lists.rows.any fun l => l.contains (Entry.post k)

/-- The posted slots after a FLUSH: a queued POST's slot is returned and its record dropped; a POST on
its port keeps its slot and is marked (02 R35). -/
def flushSlot (s : State) (k : Fin 32) (r : Option Posted) : Option Posted :=
  if isQueuedPost s k then none else r.map fun x => { x with flushed := true }

/-- An entry that a FLUSH makes READY with ABORTED: QUEUED, WAITING or ACTIVE (03 R57). -/
def Tag.isOpen (x : Tag) : Bool :=
  match x.state with
  | .queued | .waiting | .active => true
  | .free | .ready | .discarding => false

/-- The open entries in arrival order (03 R57). -/
def openTags (tags : Table Tag 32) : List (Fin 32) :=
  sortByKey (fun t => (tags.get t).place) ((Table.indices 32).filter fun t => (tags.get t).isOpen)

/-- One open entry answered ABORTED: with bus pending when its transaction runs; a QUEUED entry's
hold-off is gone; a FENCE leaves every covering set (03 R57, 02 R33). -/
def flushTag (t : Fin 32) (s : State) : State :=
  match (s.tags.get t).state with
  | .queued =>
    makeReady t .aborted false none (s.modTag t fun x => { x with holdOff := none })
  | .waiting => readyFromBarrier t .aborted s
  | .active => makeReady t .aborted true none s
  | _ => s

/-- The FLUSH in admission and ordering and in the tag table (02 R35, 03 R57). -/
def flushRequests (s : State) : State :=
  let s := s.setPool ⟨(Table.indices 32).map fun k => flushSlot s k (s.pool.get k),
    by simp [Table.indices]⟩
  foldOver (openTags s.tags) flushTag (s.setLists (Table.fill 4 []))

/-! ## FLUSH: jobs, ports and sources (05 R107, 04 R86, 06 R125) -/

/-- A transaction of the slot has started and not reached a final outcome: on the segment, or among
the offered chunks after a repeated outcome (05 R107). -/
def slotRunning (s : State) (j : Fin 4) : Bool :=
  s.ports.rows.any fun x =>
    (match x.txn with
     | some t => match t.initiator with
       | .chunk k _ => k == j
       | _ => false
     | none => false)
    || (match x.offers.get j with
        | some o => o.started
        | none => false)

/-- A slot at a FLUSH (05 R107). -/
def flushJob (running : Bool) (x : JobSlot) : JobSlot :=
  match x.state with
  | .running | .pausing | .stopping =>
    if running then { x with staged := none, state := .stopping, flushMark := true } else x.emptied
  | .empty | .loaded | .paused | .done | .stopped | .failed => x.emptied

/-- An offered transaction that has never started is withdrawn (05 R107). -/
def flushOffers (t : Table (Option Offer) 4) : Table (Option Offer) 4 :=
  t.map fun o => match o with
    | some c => if c.started then some c else none
    | none => none

/-- The FLUSH in the job engine (05 R107). -/
def flushJobs (s : State) : State :=
  let s' := s.setJobs ⟨(Table.indices 4).map fun j => flushJob (slotRunning s j) (s.jobs.get j),
    by simp [Table.indices]⟩
  s'.setPorts (s'.ports.map fun x => { x with offers := flushOffers x.offers })

/-- An interrupt operation in progress is marked by the FLUSH (06 R125). -/
def Initiator.flushed : Initiator → Initiator
  | .operation op => .operation { op with flushed := true }
  | i => i

/-- A port at a FLUSH (04 R86): HOST and GUARD leave, the line and the fill are discarded, the
interrupt queue is emptied, the share count is 0, and the transaction in progress runs on. -/
def Port.flush (x : Port) : Port :=
  { x.discardLine.release with
    opQueue := [], shareCount := 0
    txn := x.txn.map fun t => { t with initiator := t.initiator.flushed } }

/-- The source's operation is in progress on its port. -/
def operationRunning (s : State) (i : Fin 32) : Bool :=
  match (s.ports.get (portOfSource i)).txn with
  | some t => match t.initiator with
    | .operation op => op.source == i
    | _ => false
  | none => false

/-- The FLUSH in the interrupt concentrator, after the ports have emptied their queues: every source
IDLE, its operation in flight only while that operation is in progress; then each is judged, in a
free order (06 R125; notes/assumptions/5.md). -/
def flushSources (s : State) : State :=
  let s' := s.setSources ⟨(Table.indices 32).map fun i =>
    { (s.sources.get i).flush with inFlight := (s.sources.get i).inFlight && operationRunning s i },
    by simp [Table.indices]⟩
  foldOver (sourceOrder s.freeDraws) judgeAfterFlush (s'.setFreeDraws (s.freeDraws + 1))

/-- The FLUSH in every block (07 R138). -/
def flushPart (s : State) : State :=
  flushSources (changeEveryPort Port.flush (flushJobs (flushRequests s)))

end Sys2Proof.Machine
end

