-- ==== Sys2Proof/Machine/Link.lean ====
section
/-!
DEFINITION. The host link (09): acknowledgements, taking the host's frames in order, replay, sessions,
and the choice and building of the frames the part sends.
-/

namespace Sys2Proof.Machine

/-! ## The replay timer (09 R168) -/

/-- The replay timer started with the replay timeout as it stands (09 R168, 07 R137). -/
def newReplayTimer (s : State) : ReplayTimer :=
  ⟨Config.ms s.settings.replayTimeout.toNat, s.settings.replayTimeout⟩

/-! ## Acknowledgements (09 R159) -/

/-- The position in the replay list of the frame with a sequence number. -/
def replayIndex (l : List Sent) (q : Seq) : Option Nat := l.findIdx? fun e => e.seq == q

/-- The link reports the acknowledgement of one frame to what it carried (09 R159 step 3). -/
def reportAck (e : Sent) (s : State) : State :=
  match e.message.carries with
  | .reply | .fullReply | .flushReply => s
  | .rateReply c => s.modLink fun l => { l with rate := c }
  | .faultNotice => s.setFaults s.faults.acknowledged
  | .portNotice p => s.modPort p Port.acknowledged
  | .jobNotice j => s.modJob j JobSlot.acknowledged
  | .irqNotice i => s.modSource i (Source.acknowledged e.seq)

/-- The frames that left the replay list are reported in sequence order. When the FULL REPLY's frame is
reported, the waiting FULL reset is carried out, and nothing further is taken: the second component
says so (09 R159, 07 R139). -/
def reportAcks : List Sent → State → State × Bool
  | [], s => (s, false)
  | e :: es, s =>
    if e.message.carries == .fullReply && s.settings.fullWaiting then (fullReset s, true)
    else reportAcks es (reportAck e s)

/-- Progress: the frames up to position `n` leave the replay list, the expiry count becomes 0, the
timer stops or starts again (09 R159 steps 1 and 2). -/
def progress (n : Nat) (s : State) : State :=
  s.modLink fun l =>
    { l with replay := l.replay.drop (n + 1), expiryCount := 0
             replayTimer := if (l.replay.drop (n + 1)).isEmpty then none
                            else some (newReplayTimer s) }

/-- The link takes an acknowledgement value (09 R159). The second component says that a FULL reset has
been carried out. -/
def takeAck (a : Seq) (s : State) : State × Bool :=
  match replayIndex s.link.replay a with
  | none => (s, false)
  | some n => reportAcks (s.link.replay.take (n + 1)) (progress n s)

/-! ## Link down and sessions (09 R169 to R171) -/

/-- The fields of a LINK-DOWN fault (07 R127). -/
def linkDownDetail (cause : Status) : FaultDetail := ⟨cause, none, none, none, none, none, none⟩

/-- The tag entries at a link down (03 R58). -/
def Tag.linkDown (x : Tag) : Tag :=
  match x.state with
  | .free | .queued | .waiting => Tag.zero
  | .ready => if x.busPending then { x with state := .discarding } else Tag.zero
  | .active => { x with state := .discarding, busPending := true }
  | .discarding => x

/-- The link down in admission, ordering and the tag table: the non-posted entries and the FENCEs go,
the posted entries stay (02 R36, 03 R58). -/
def linkDownRequests (s : State) : State :=
  (((s.setLists (s.lists.map fun l => l.filter fun e => match e with
      | .post _ => true
      | .tag _ => false)).setPool
    (s.pool.map fun r => r.map fun x => { x with covering := [] })).setTags
    (s.tags.map Tag.linkDown)).setReady []

/-- Every notice holder returns a SENT notice to DUE (04 R79, 05 R105, 06 R124, 07 R134). -/
def linkDownNotices (s : State) : State :=
  (((s.setPorts (s.ports.map Port.linkDown)).setJobs (s.jobs.map JobSlot.linkDown)).setSources
    (s.sources.map Source.linkDown)).setFaults s.faults.linkDown

/-- The link's own fields at a link down (09 R171 steps 2 to 4). -/
def Link.down (l : Link) : Link :=
  { l with
    counters := { l.counters with linkDowns := satInc l.counters.linkDowns }
    replay := [], replayTimer := none, expiryCount := 0
    ackOwed := false, control := .none, readyOwed := false, up := false }

/-- The link goes down with a cause, TIMEOUT or ABORTED (09 R171 steps 1 to 5, a waiting FULL reset
aside). -/
def goDown (cause : Status) (s : State) : State :=
  let s := report .linkDown (linkDownDetail cause) s
  let s := s.modLink Link.down
  linkDownNotices (linkDownRequests (s.setDirect []))

/-- A link down through replay exhaustion: the rate code falls back to 1 and the beacon timer starts;
a waiting FULL reset is carried out (09 R171, 07 R139). -/
def exhaust (s : State) : State :=
  if s.settings.fullWaiting then fullReset (goDown .timeout s)
  else (goDown .timeout s).modLink fun l => { l with rate := 1, beacon := some 0 }

/-- The session opens (09 R169). -/
def Link.openSession (l : Link) : Link :=
  { l with
    epoch := l.epoch + 1, nextSend := 0, expected := 0, ackOwed := false, control := .none
    expiryCount := 0, lastClass := .notice, beacon := none, up := true, readyOwed := true }

/-- A good INIT from the host (09 R169, R170): while UP it first takes the link down; when that carries
out a waiting FULL reset, no session opens. -/
def takeInit (s : State) : State :=
  if s.link.up then
    if s.settings.fullWaiting then fullReset (goDown .aborted s)
    else (goDown .aborted s).modLink Link.openSession
  else s.modLink Link.openSession

/-- The replay timer runs out (09 R168). -/
def expireReplay (s : State) : State :=
  let n := s.link.expiryCount + 1
  if Config.replayLimit ≤ n then exhaust s
  else
    s.modLink fun l =>
      { l with expiryCount := n, replay := l.replay.map fun e => { e with resend := true }
               replayTimer := some (newReplayTimer s) }

/-! ## NAK (09 R162) -/

/-- Every entry from the named frame to the tail is marked resend due (09 R162 step 2). -/
def markFrom (q : Seq) (l : List Sent) : List Sent :=
  match replayIndex l q with
  | none => l
  | some n => l.take n ++ (l.drop n).map fun e => { e with resend := true }

/-- A NAK from the host while UP, naming `q` in its ACK field (09 R162). -/
def takeNak (q : Seq) (s : State) : State :=
  match replayIndex s.link.replay q with
  | none => s.modCounters fun c => { c with strayNaks := satInc c.strayNaks }
  | some _ =>
    let r := takeAck (q - 1) s
    r.1.modLink fun l => { l with replay := markFrom q l.replay }

/-! ## The frames of the host (09 R157 to R161) -/

/-- The receiver judges the good frame of this content, and `act` takes it. In reset nothing is taken
from HRX (07 R140). While the receive bytes begin with another frame the bytes only arrive
(09 R157; notes/assumptions/7.md). -/
def hostFrame (content : List Byte) (act : State → State) (s : State) : State :=
  if s.pins.resetLow then s
  else
    match judged s.link.rx (wireFrame content) with
    | some rest => act (s.modLink fun l => { l with rx := rest })
    | none => s.modLink fun l => { l with rx := hunt l.rx ++ wireFrame content }

/-- A kind byte whose message needs a direct reply place: every one but POST's (08 R144). -/
def needsPlace (kind : Byte) : Bool := kind != RequestKind.post.code

/-- A frame ahead of sequence makes a NAK owed, unless a WAIT is owed (09 R160). -/
def ControlOwed.addNak : ControlOwed → ControlOwed
  | .wait q => .wait q
  | _ => .nak

/-- A DATA frame is placed by its SEQ and, when expected, offered for taking; its own acknowledgement
has been taken (09 R160, R161). `act` is what intake and the owner do with the message. -/
def placeData (q : Seq) (kind : Byte) (act : State → State) (s : State) : State :=
  let d := q - s.link.expected
  if d = 0 then
    if needsPlace kind && decide (Config.directPlaces ≤ s.direct.length) then
      s.modLink fun l => { l with control := .wait q }
    else act (s.modLink fun l => { l with expected := l.expected + 1, ackOwed := true })
  else if d.toNat ≤ 31 then
    (s.modCounters fun c => { c with outOfSequence := satInc c.outOfSequence }).modLink fun l =>
      { l with control := l.control.addNak }
  else
    (s.modCounters fun c => { c with duplicates := satInc c.duplicates }).modLink fun l =>
      { l with ackOwed := true }

/-- A well-formed DATA frame from the host (09 R158 to R161): discarded while DOWN; while UP its
acknowledgement is taken, then it is placed, unless the acknowledgement carried out a FULL reset. -/
def takeData (f : FrameHead) (kind : Byte) (act : State → State) (s : State) : State :=
  if !s.link.up then s
  else
    let r := takeAck f.ack s
    if r.2 then r.1 else placeData f.seq kind act r.1

/-! ## Building frames (09 R163 to R167) -/

/-- The time of one byte at a rate code, in quarters of a microsecond (09 R156). -/
def byteTime (rate : Fin 5) : Nat := 80 / 2 ^ rate.val

/-- The acknowledgement value of the part: the expected number minus 1 (09 R155). -/
def Link.ackValue (l : Link) : Seq := l.expected - 1

/-- A frame goes to the line: its SEQ and ACK fields, the credit snapshot of that moment, its body, its
CRC; it occupies HTX for its byte times at the rate code (09 R163, R164, R167). -/
def putFrame (ftype : Byte) (seq ack : Seq) (body : List Byte) (s : State) : State :=
  let head : FrameHead := ⟨seq, ack, countByte s.freePosted, countByte s.freeTags⟩
  let bytes := wireFrame (frameContent ftype head body)
  s.modLink fun l => { l with tx := some ⟨bytes, bytes.length * byteTime l.rate⟩ }

/-- A frame sent while UP clears acknowledgement owed (09 R164). -/
def sendUp (ftype : Byte) (seq ack : Seq) (body : List Byte) (s : State) : State :=
  (putFrame ftype seq ack body s).modLink fun l => { l with ackOwed := false }

/-- READY: the epoch and the reset cause (09 R164, R169). -/
def sendReady (s : State) : State :=
  (sendUp ftypeReady 0 s.link.ackValue [s.link.epoch, s.settings.resetCause.code] s).modLink
    fun l => { l with readyOwed := false }

/-- NAK: its ACK field names the expected number (09 R164). -/
def sendNak (s : State) : State :=
  (sendUp ftypeNak 0 s.link.expected [] s).modLink fun l => { l with control := .none }

/-- WAIT: its SEQ is the one named when it was made (09 R164). -/
def sendWait (q : Seq) (s : State) : State :=
  ((sendUp ftypeWait q s.link.ackValue [] s).modLink fun l => { l with control := .none }).modCounters
    fun c => { c with waitsSent := satInc c.waitsSent }

/-- An ACK control frame (09 R164). -/
def sendAck (s : State) : State := sendUp ftypeAck 0 s.link.ackValue [] s

/-- INIT: SEQ and ACK 0; the next one is due after the beacon interval (09 R164, R169). -/
def sendInit (s : State) : State :=
  (putFrame ftypeInit 0 0 [] s).modLink fun l => { l with beacon := some Config.beaconInterval }

/-- The oldest replay list entry marked resend due (09 R165). -/
def oldestResend (l : List Sent) : Option Sent := l.find? fun e => e.resend

/-- The entry of a sequence number is no longer marked. -/
def unmark (q : Seq) (l : List Sent) : List Sent :=
  l.map fun e => if e.seq == q then { e with resend := false } else e

/-- A resend: the SEQ and the message it was built with, the other fields as they stand (09 R165). -/
def resendFrame (e : Sent) (s : State) : State :=
  ((sendUp ftypeData e.seq s.link.ackValue e.message.bytes s).modLink fun l =>
    { l with replay := unmark e.seq l.replay }).modCounters
    fun c => { c with replaysSent := satInc c.replaysSent }

/-! ## Notices (08 R153; 04 R79, 05 R105, 06 R116, 07 R131) -/

/-- A notice message: its kind, request id 0, its body (08 R153). -/
def noticeMessage (kind : Byte) (body : List Byte) (c : Carried) : Message :=
  ⟨kind :: be16 0 ++ body, c⟩

/-- A REPLY to a FLUSH waits in the direct reply list (07 R138). -/
def flushReplyWaits (s : State) : Bool := s.direct.any fun m => m.carries == .flushReply

/-- The DUE source with the lowest priority number, and of those the lowest index (06 R115), of those
that offer their notice (06 R125). -/
def dueSource (s : State) : Option (Fin 32) :=
  (Table.indices 4).findSome? fun pr =>
    (Table.indices 32).find? fun i =>
      (s.sources.get i).offersNotice (flushReplyWaits s) && (s.sources.get i).priority == pr

/-- The notice that the notice class offers: the FAULT-NOTICE, then PORT-NOTICEs by port, JOB-NOTICEs
by slot, IRQ-NOTICEs by priority and source (09 R166). -/
def dueNotice (s : State) : Option Carried :=
  if s.faults.notice == .due then some .faultNotice
  else
    match (Table.indices 4).find? fun p => (s.ports.get p).notice == .due with
    | some p => some (.portNotice p)
    | none =>
      match (Table.indices 4).find? fun j => (s.jobs.get j).notice == .due with
      | some j => some (.jobNotice j)
      | none => (dueSource s).map Carried.irqNotice

/-- The FAULT-NOTICE is built (07 R131). -/
def buildFaultNotice (s : State) : Message × State :=
  (noticeMessage 0x92 (faultBlock s.faults.record ++ be16 (summaryBits s.faults.summary)) .faultNotice,
   s.setFaults { s.faults with notice := .sent })

/-- A PORT-NOTICE is built: the port, whether it is HELD, its hold set (04 R79). -/
def buildPortNotice (p : Fin 4) (s : State) : Message × State :=
  let x := s.ports.get p
  (noticeMessage 0x93 [countByte p.val, yesNo (x.state == .held), x.holds.byte] (.portNotice p),
   s.modPort p fun x => { x with notice := .sent })

/-- A JOB-NOTICE is built: the latest content and the overwritten count (05 R105). -/
def buildJobNotice (j : Fin 4) (s : State) : Message × State :=
  let x := s.jobs.get j
  let body := match x.latest with
    | some c => jobNoticeBody j c x.overwritten
    | none => zeros 17
  (noticeMessage 0x91 body (.jobNotice j),
   s.modJob j fun x => { x with sent := x.latest, latest := none, overwritten := 0, notice := .sent })

/-- The body of an IRQ-NOTICE (06 R116, 08 R153). -/
def irqNoticeBody (i : Fin 32) (x : Source) (line : Bool) : List Byte :=
  [countByte i.val, countByte x.priority.val, statusOrNone x.vecStatus] ++ be32 x.vecValue
    ++ [x.coalesced, yesNo (x.asks line)]

/-- An IRQ-NOTICE is built, in the frame that the next send number names (06 R116). -/
def buildIrqNotice (i : Fin 32) (s : State) : Message × State :=
  let x := s.sources.get i
  (noticeMessage 0x90 (irqNoticeBody i x (s.pins.lines.get i)) (.irqNotice i),
   s.modSource i fun x =>
     { x with state := .sent, sentCount := some x.coalesced, coalesced := 0
              noticeSeq := some s.link.nextSend })

/-- The notice of a holder is built. -/
def buildNotice (c : Carried) (s : State) : Message × State :=
  match c with
  | .portNotice p => buildPortNotice p s
  | .jobNotice j => buildJobNotice j s
  | .irqNotice i => buildIrqNotice i s
  | _ => buildFaultNotice s

/-! ## The outbound arbiter (09 R166) -/

/-- A class has something to send (09 R166). -/
def OutClass.offers (s : State) : OutClass → Bool
  | .direct => !s.direct.isEmpty
  | .ready => !s.ready.isEmpty
  | .notice => (dueNotice s).isSome

/-- The classes in rotation, starting after the class last served (09 R166). -/
def OutClass.rotation : OutClass → List OutClass
  | .direct => [.ready, .notice, .direct]
  | .ready => [.notice, .direct, .ready]
  | .notice => [.direct, .ready, .notice]

/-- The class that the outbound arbiter serves, when a new DATA frame may be sent (09 R166). -/
def nextClass (s : State) : Option OutClass :=
  if s.link.replay.length < Config.replayFrames then
    (OutClass.rotation s.link.lastClass).find? fun c => c.offers s
  else none

/-- The message of a class, and the state once its source has let it go (08 R151, 03 R46, 09 R166). -/
def takeMessage (c : OutClass) (s : State) : Option (Message × State) :=
  match c with
  | .direct =>
    match s.direct with
    | [] => none
    | m :: ms => some (m, s.setDirect ms)
  | .ready =>
    match s.ready with
    | [] => none
    | t :: ts => some ((s.tags.get t).reply, releaseTag t (s.setReady ts))
  | .notice => (dueNotice s).map fun n => buildNotice n s

/-- A new DATA frame: it takes the next send number, enters the tail of the replay list, starts the
replay timer of an empty list, and goes to the line (09 R166). -/
def sendData (c : OutClass) (m : Message) (s : State) : State :=
  let q := s.link.nextSend
  let s' := s.modLink fun l =>
    { l with nextSend := l.nextSend + 1, lastClass := c
             replay := l.replay ++ [⟨q, m, false⟩]
             replayTimer := if l.replay.isEmpty then some (newReplayTimer s) else l.replayTimer }
  sendUp ftypeData q s'.link.ackValue m.bytes s'

/-- A new DATA frame from the outbound arbiter, when one may be sent (09 R166). -/
def newData (s : State) : Option State :=
  match nextClass s with
  | none => none
  | some c => (takeMessage c s).map fun r => sendData c r.1 r.2

/-- The link chooses the next frame, the line being free (09 R163). -/
def chooseFrame (s : State) : State :=
  if s.link.up then
    if s.link.readyOwed then sendReady s
    else
      match s.link.control with
      | .wait q => sendWait q s
      | .nak => sendNak s
      | .none =>
        match oldestResend s.link.replay with
        | some e => resendFrame e s
        | none =>
          match newData s with
          | some s' => s'
          | none => if s.link.ackOwed then sendAck s else s
  else if s.link.beacon == some 0 then sendInit s
  else s

/-- Something waits for the line while UP (09 R163). -/
def somethingToSend (s : State) : Bool :=
  s.link.up &&
    (s.link.readyOwed || s.link.control != .none || (oldestResend s.link.replay).isSome
      || (nextClass s).isSome || s.link.ackOwed)

end Sys2Proof.Machine
end

