-- ==== Sys2Proof/Machine/Intake.lean ====
section
/-!
DEFINITION. Intake (08 R145 to R149) and the owners' action on each request that passes it.
-/

namespace Sys2Proof.Machine

/-! ## Intake's checks (08 R145) -/

/-- The status of the intake check that a message of a known kind fails, if it fails one: length, then
field encodings (08 R145 checks 2 and 3). -/
def intakeRefusal (k : RequestKind) (body : List Byte) : Option Status :=
  if !lengthOk k body then some .malformed
  else if !fieldsOk k body then some .badField
  else none

/-- The REPLY with which intake refuses a message that needs a place: after MALFORMED the body ends,
after BAD-FIELD it holds the whole field list (08 R145, R152). -/
def intakeReply (k : RequestKind) (id : Half) (body : List Byte) (st : Status) : Message :=
  plainReply id k.code st (if st == .malformed then [] else badFieldFields k body)

/-- Intake checks a message other than a POST, and hands it to its owner (08 R145, R148). -/
def intake (k : RequestKind) (id : Half) (body : List Byte) (owner : State → State) (s : State) :
    State :=
  match intakeRefusal k body with
  | some st => s.addReply (intakeReply k id body st)
  | none => owner s

/-- The fault of a POST that intake refuses: the host address when the body holds at least four bytes
(08 R149). -/
def postIntakeDetail (body : List Byte) (st : Status) : FaultDetail :=
  ⟨st, none, none, none, none, none, if 4 ≤ body.length then some (u32 body 0) else none⟩

/-- Intake checks a POST: a refusal sends no reply and reports POST-REFUSED (08 R145, R149). -/
def intakePost (body : List Byte) (s : State) : State :=
  match intakeRefusal .post body with
  | some st => report .postRefused (postIntakeDetail body st) s
  | none => ownPost body s

/-- A message whose kind is no request kind is answered UNKNOWN-KIND in its reserved place (08 R145
check 1, R152). -/
def answerUnknown (kind : Byte) (id : Half) (s : State) : State :=
  s.addReply (plainReply id kind .unknownKind [])

/-! ## Part control (07 R135 to R139) -/

/-- The fields of an IDENTIFY REPLY (07 R135, 08 R152). -/
def identifyFields (s : State) : List Byte :=
  be16 0x4C17 ++ be16 0x0440
    ++ [1, 16, 4, 32, 32, countByte Config.directPlaces, countByte Config.replayFrames, 4, 32,
        countByte Config.lineBytes, s.settings.resetCause.code, s.link.epoch]

/-- IDENTIFY (07 R135). -/
def ownIdentify (id : Half) (s : State) : State :=
  s.addReply (plainReply id RequestKind.identify.code .ok (identifyFields s))

/-- A port's part of STATUS-GET: state, hold set, posted and non-posted entries (07 R136). -/
def portStatusBytes (s : State) (p : Fin 4) : List Byte :=
  [(s.ports.get p).state.code, (s.ports.get p).holds.byte, countByte (s.postedEntries p),
   countByte (s.nonPostedEntries p)]

/-- The eight link counters in the order of STATUS-GET (08 R152). -/
def LinkCounters.bytes (c : LinkCounters) : List Byte :=
  be16 c.crcFailures ++ be16 c.malformedFrames ++ be16 c.outOfSequence ++ be16 c.duplicates
    ++ be16 c.replaysSent ++ be16 c.strayNaks ++ be16 c.waitsSent ++ be16 c.linkDowns

/-- The fields of a STATUS-GET REPLY (07 R136, 08 R152). -/
def statusFields (s : State) : List Byte :=
  [countByte s.freePosted, countByte s.freeTags]
    ++ (Table.indices 4).flatMap (portStatusBytes s)
    ++ (Table.indices 4).map (fun j => (s.jobs.get j).state.code)
    ++ s.link.counters.bytes ++ be16 (summaryBits s.faults.summary)

/-- STATUS-GET (07 R136). -/
def ownStatusGet (id : Half) (s : State) : State :=
  s.addReply (plainReply id RequestKind.statusGet.code .ok (statusFields s))

/-- CONFIG-SET sets the three part-wide settings together (07 R137). -/
def ownConfigSet (id : Half) (body : List Byte) (s : State) : State :=
  (s.modSettings fun x =>
    { x with missPolicy := missPolicyOf (u8 body 0), recordMode := recordModeOf (u8 body 1)
             replayTimeout := u8 body 2 }).addReply
    (plainReply id RequestKind.configSet.code .ok [])

/-- CONFIG-GET reports the three part-wide settings (07 R137). -/
def ownConfigGet (id : Half) (s : State) : State :=
  s.addReply (plainReply id RequestKind.configGet.code .ok
    [s.settings.missPolicy.code, s.settings.recordMode.code, s.settings.replayTimeout])

/-- LINK-RATE is answered OK; the rate changes when the REPLY's frame is acknowledged (09 R172). -/
def ownLinkRate (id : Half) (body : List Byte) (s : State) : State :=
  s.addReply ⟨replyBytes id RequestKind.linkRate.code .ok [u8 body 0],
    .rateReply (indexOf 4 (u8 body 0))⟩

/-- RESET with scope FLUSH: every block acts, then the REPLY is queued (07 R138). -/
def ownFlush (id : Half) (s : State) : State :=
  (flushPart s).addReply ⟨replyBytes id RequestKind.reset.code .ok [0], .flushReply⟩

/-- RESET with scope FULL: the REPLY is queued and a FULL reset marked as waiting (07 R139). -/
def ownFull (id : Half) (s : State) : State :=
  (s.addReply ⟨replyBytes id RequestKind.reset.code .ok [scopeFull], .fullReply⟩).modSettings
    fun x => { x with fullWaiting := true }

/-- RESET acts by its scope (07 R138, R139). -/
def ownReset (id : Half) (body : List Byte) (s : State) : State :=
  if u8 body 0 = scopeFull then ownFull id s else ownFlush id s

/-! ## Window table (01 R8 to R13) -/

/-- The read-ahead state of the ports that a taken WINDOW-SET names, in its old and new record, is
discarded (01 R10, R11). -/
def discardLines (p q : Fin 4) (s : State) : State :=
  (s.modPort p Port.discardLine).modPort q Port.discardLine

/-- A WINDOW-SET is taken: the record replaced whole, the read-ahead state discarded (01 R10). -/
def takeWindow (i : Fin 16) (w : Window) (s : State) : State :=
  discardLines (s.windows.get i).port w.port (s.setWindows (s.windows.set i w))

/-- WINDOW-SET (01 R8 to R11). -/
def ownWindowSet (id : Half) (body : List Byte) (s : State) : State :=
  let i := indexOf 15 (u8 body 0)
  let w := windowOf body
  let r := checkWindow s.windows i w
  let s := if r.1 == .ok then takeWindow i w s else s
  s.addReply (plainReply id RequestKind.windowSet.code r.1
    [u8 body 0, (r.2.map fun j => countByte j.val).getD 255])

/-- The fields that WINDOW-GET reports after the index (01 R13, 08 R152). -/
def Window.getFields (w : Window) : List Byte :=
  yesNo w.enabled :: be32 w.hostBase ++ [countByte w.sizeCode.val, countByte w.port.val]
    ++ be32 w.localBase ++ [w.flags]

/-- WINDOW-GET (01 R13). -/
def ownWindowGet (id : Half) (body : List Byte) (s : State) : State :=
  s.addReply (plainReply id RequestKind.windowGet.code .ok
    (u8 body 0 :: (s.windows.get (indexOf 15 (u8 body 0))).getFields))

/-! ## Ports (04 R75, R76, R84, R85) -/

/-- The ports that a request names: one, or all four for 255 (04 R75, R76). -/
def onNamedPorts (b : Byte) (f : Port → Port) (s : State) : State :=
  if b = 255 then changeEveryPort f s else changePort (indexOf 3 b) f s

/-- PORT-SET (04 R84). -/
def ownPortSet (id : Half) (body : List Byte) (s : State) : State :=
  (s.modPort (indexOf 3 (u8 body 0)) fun x => { x with settings := portSettingsOf body }).addReply
    (plainReply id RequestKind.portSet.code .ok [u8 body 0])

/-- The fields that PORT-GET reports after the port (04 R85, 08 R152). -/
def portGetFields (s : State) (p : Fin 4) : List Byte :=
  let x := s.ports.get p
  [x.settings.responseLimit, x.settings.retryLimit, x.settings.retryDelay]
    ++ be16 x.settings.completionLimit
    ++ [x.settings.jobShare, x.state.code, x.holds.byte, countByte (s.postedEntries p),
        countByte (s.nonPostedEntries p), yesNo x.lineValid]
    ++ be32 x.lineAddr ++ yesNo x.pendingFill.isSome :: be32 (x.pendingFill.getD 0)

/-- PORT-GET (04 R85). -/
def ownPortGet (id : Half) (body : List Byte) (s : State) : State :=
  s.addReply (plainReply id RequestKind.portGet.code .ok
    (u8 body 0 :: portGetFields s (indexOf 3 (u8 body 0))))

/-- PORT-HOLD (04 R75). -/
def ownPortHold (id : Half) (body : List Byte) (s : State) : State :=
  (onNamedPorts (u8 body 0) Port.addHost s).addReply
    (plainReply id RequestKind.portHold.code .ok [u8 body 0])

/-- PORT-RELEASE (04 R76). -/
def ownPortRelease (id : Half) (body : List Byte) (s : State) : State :=
  (onNamedPorts (u8 body 0) Port.release s).addReply
    (plainReply id RequestKind.portRelease.code .ok [u8 body 0])

/-! ## ABORT (03 R55) -/

/-- ABORT acts on the live entry with the target id: the status of its REPLY, and the state (03 R55). -/
def abortTarget (target : Half) (s : State) : Status × State :=
  match liveTag s.tags target with
  | none => (.notFound, s)
  | some t =>
    match (s.tags.get t).state with
    | .queued => (.ok, readyFromQueue t .aborted s)
    | .waiting => (.ok, readyFromBarrier t .aborted s)
    | .active => (.ok, makeReady t .aborted true none s)
    | _ => (.tooLate, s)

/-- ABORT (03 R55). -/
def ownAbort (id : Half) (body : List Byte) (s : State) : State :=
  let r := abortTarget (u16 body 0) s
  r.2.addReply (plainReply id RequestKind.abort.code r.1 (be16 (u16 body 0)))

/-! ## Jobs (05) -/

/-- The REPLY of JOB-START, JOB-PAUSE, JOB-RESUME and JOB-STOP: the slot, and its state after the
request (05 R95, R101 to R103). -/
def replyJob (k : RequestKind) (id : Half) (body : List Byte) (r : Status × State) : State :=
  r.2.addReply (plainReply id k.code r.1
    [u8 body 0, (r.2.jobs.get (indexOf 3 (u8 body 0))).state.code])

/-- JOB-LOAD (05 R94). -/
def ownJobLoad (id : Half) (body : List Byte) (s : State) : State :=
  let j := indexOf 3 (u8 body 0)
  let r := loadJob j (descriptorOf body) s
  r.2.2.addReply (plainReply id RequestKind.jobLoad.code r.1
    [u8 body 0, yesNo r.2.1, (r.2.2.jobs.get j).state.code])

/-- JOB-START: in LOADED the job is validated and started; in every other state it is refused
(05 R95). -/
def ownJobStart (id : Half) (body : List Byte) (s : State) : State :=
  let j := indexOf 3 (u8 body 0)
  replyJob .jobStart id body
    (if (s.jobs.get j).state == .loaded then startJob j s else (.state, s))

/-- JOB-PAUSE (05 R101). -/
def ownJobPause (id : Half) (body : List Byte) (s : State) : State :=
  replyJob .jobPause id body (pauseJob (indexOf 3 (u8 body 0)) s)

/-- JOB-RESUME (05 R102). -/
def ownJobResume (id : Half) (body : List Byte) (s : State) : State :=
  replyJob .jobResume id body (resumeJob (indexOf 3 (u8 body 0)) s)

/-- JOB-STOP (05 R103). -/
def ownJobStop (id : Half) (body : List Byte) (s : State) : State :=
  replyJob .jobStop id body (stopJob (indexOf 3 (u8 body 0)) s)

/-- JOB-GET (05 R106). -/
def ownJobGet (id : Half) (body : List Byte) (s : State) : State :=
  s.addReply (plainReply id RequestKind.jobGet.code .ok
    (u8 body 0 :: (s.jobs.get (indexOf 3 (u8 body 0))).getFields))

/-! ## Interrupt sources (06 R119 to R122) -/

/-- The REPLY of IRQ-SET and IRQ-DONE: the source, and its state after the request (06 R119, R120). -/
def replySource (k : RequestKind) (id : Half) (body : List Byte) (r : Status × State) : State :=
  r.2.addReply (plainReply id k.code r.1
    [u8 body 0, (r.2.sources.get (indexOf 31 (u8 body 0))).state.code])

/-- IRQ-SET (06 R120). -/
def ownIrqSet (id : Half) (body : List Byte) (s : State) : State :=
  let i := indexOf 31 (u8 body 0)
  let st := irqSetStatus (s.sources.get i) body
  replySource .irqSet id body (st, if st == .ok then takeIrqSet i body s else s)

/-- IRQ-MASK, of one source or of all thirty-two, in a free order (06 R121; notes/assumptions/5.md). -/
def ownIrqMask (id : Half) (body : List Byte) (s : State) : State :=
  let v := u8 body 1 == 1
  let s' :=
    if u8 body 0 = 255 then
      foldOver (sourceOrder s.freeDraws) (maskSource v) (s.setFreeDraws (s.freeDraws + 1))
    else maskSource v (indexOf 31 (u8 body 0)) s
  s'.addReply (plainReply id RequestKind.irqMask.code .ok [u8 body 0])

/-- IRQ-DONE: closes a NOTIFIED source's cycle; in every other state it is refused (06 R119). -/
def ownIrqDone (id : Half) (body : List Byte) (s : State) : State :=
  let i := indexOf 31 (u8 body 0)
  replySource .irqDone id body
    (if (s.sources.get i).state == .notified then (.ok, closeCycle i s) else (.state, s))

/-- IRQ-GET (06 R122). -/
def ownIrqGet (id : Half) (body : List Byte) (s : State) : State :=
  let i := indexOf 31 (u8 body 0)
  s.addReply (plainReply id RequestKind.irqGet.code .ok
    (u8 body 0 :: (s.sources.get i).getFields (s.pins.lines.get i)))

/-! ## Fault unit (07 R132, R133) -/

/-- FAULT-GET (07 R132). -/
def ownFaultGet (id : Half) (s : State) : State :=
  s.addReply (plainReply id RequestKind.faultGet.code .ok (s.faults.getFields s.settings.recordMode))

/-- FAULT-CLEAR: the REPLY is built first, then the clear (07 R133). -/
def ownFaultClear (id : Half) (body : List Byte) (s : State) : State :=
  (s.addReply (plainReply id RequestKind.faultClear.code .ok s.faults.clearFields)).setFaults
    (s.faults.clear (u8 body 0 == 1))

/-! ## A taken message (08 R145, R148) -/

/-- The owner's action on a message that has passed intake's checks (08 R148). A POST goes its own way
(`intakePost`). -/
def owner (k : RequestKind) (id : Half) (body : List Byte) (s : State) : State :=
  match k with
  | .read | .write | .modify => ownTagged k id body s
  | .post => ownPost body s
  | .fence => ownFence id s
  | .identify => ownIdentify id s
  | .statusGet => ownStatusGet id s
  | .configSet => ownConfigSet id body s
  | .configGet => ownConfigGet id s
  | .linkRate => ownLinkRate id body s
  | .reset => ownReset id body s
  | .windowSet => ownWindowSet id body s
  | .windowGet => ownWindowGet id body s
  | .portSet => ownPortSet id body s
  | .portGet => ownPortGet id body s
  | .portHold => ownPortHold id body s
  | .portRelease => ownPortRelease id body s
  | .abort => ownAbort id body s
  | .jobLoad => ownJobLoad id body s
  | .jobStart => ownJobStart id body s
  | .jobPause => ownJobPause id body s
  | .jobResume => ownJobResume id body s
  | .jobStop => ownJobStop id body s
  | .jobGet => ownJobGet id body s
  | .irqSet => ownIrqSet id body s
  | .irqMask => ownIrqMask id body s
  | .irqDone => ownIrqDone id body s
  | .irqGet => ownIrqGet id body s
  | .faultGet => ownFaultGet id s
  | .faultClear => ownFaultClear id body s

/-- What a taken message does, whatever its kind byte (08 R145). -/
def takenMessage (kind : Byte) (id : Half) (body : List Byte) (s : State) : State :=
  match RequestKind.ofCode kind with
  | none => answerUnknown kind id s
  | some .post => intakePost body s
  | some k => intake k id body (owner k id body) s

/-- A DATA frame from the host of any kind byte (09 R158 to R161, 08 R145). -/
def dataFrame (f : FrameHead) (kind : Byte) (id : Half) (body : List Byte)
    (act : State → State) (s : State) : State :=
  hostFrame (dataContent f kind id body) (takeData f kind act) s

end Sys2Proof.Machine
end

