-- ==== Sys2Proof/Machine/AccessRequests.lean ====
section
/-!
DEFINITION. The meanings of the access requests (02) and of a message of an unknown kind (08 R145).
Each is a DATA frame from the host: its acknowledgement is taken, the frame is placed by its SEQ, and
an expected frame with room for its reply is taken and its message handed to intake (09 R158 to R161).
-/

namespace Sys2Proof.Machine

/-- UNKNOWN_KIND (08 R145 check 1, R152): answered with UNKNOWN-KIND in its reserved place. A kind byte
that is a request kind does what that request does (notes/assumptions/7.md). -/
def execUnknownKind (f : FrameHead) (kind : Byte) (id : Half) (body : List Byte) (s : State) :
    Host.Outcome State Fault Refusal :=
  .next (dataFrame f kind id body (takenMessage kind id body) s)

/-- READ (02 R17 to R21): refused with a REPLY, or admitted with a tag and a place in its port's list. -/
def execRead (f : FrameHead) (id : Half) (body : List Byte) (s : State) :
    Host.Outcome State Fault Refusal :=
  .next (dataFrame f RequestKind.read.code id body
    (intake .read id body (ownTagged .read id body)) s)

/-- WRITE (02 R17 to R21): refused with a REPLY, or admitted with a tag and a place in its port's list. -/
def execWrite (f : FrameHead) (id : Half) (body : List Byte) (s : State) :
    Host.Outcome State Fault Refusal :=
  .next (dataFrame f RequestKind.write.code id body
    (intake .write id body (ownTagged .write id body)) s)

/-- POST (02 R20, R22): admitted with a posted slot and a place in its port's list, or refused with a fault. -/
def execPost (f : FrameHead) (id : Half) (body : List Byte) (s : State) :
    Host.Outcome State Fault Refusal :=
  .next (dataFrame f RequestKind.post.code id body
    (intakePost body) s)

/-- MODIFY (02 R17 to R21): refused with a REPLY, or admitted with a tag and a place in its port's list. -/
def execModify (f : FrameHead) (id : Half) (body : List Byte) (s : State) :
    Host.Outcome State Fault Refusal :=
  .next (dataFrame f RequestKind.modify.code id body
    (intake .modify id body (ownTagged .modify id body)) s)

/-- FENCE (02 R31): refused with a REPLY, or admitted with a tag, READY at once or in WAITING. -/
def execFence (f : FrameHead) (id : Half) (body : List Byte) (s : State) :
    Host.Outcome State Fault Refusal :=
  .next (dataFrame f RequestKind.fence.code id body
    (intake .fence id body (ownFence id)) s)

end Sys2Proof.Machine
end

