-- ==== Sys2Proof/Machine/LinkEvents.lean ====
section
/-!
DEFINITION. The meanings of the host's frames that carry no request, of the link's timers and of the
choice of the next frame (09).
-/

namespace Sys2Proof.Machine

/-! ## Received frames (09 R157, R158) -/

/-- The receive bytes after further bytes have arrived: a collected frame that fails its CRC is
discarded by its SYNC alone, and the CRC failures counter rises (09 R157). Bytes that make no
collected frame, or a good one, only arrive. -/
def receiveBad (hrx : List Byte) (s : State) : State :=
  let buf := hunt (s.link.rx ++ hrx)
  match collect buf with
  | .bad =>
    (s.modCounters fun c => { c with crcFailures := satInc c.crcFailures }).modLink fun l =>
      { l with rx := hunt (buf.drop 1) }
  | _ => s.modLink fun l => { l with rx := buf }

/-- An ACK frame while UP has its acknowledgement taken; while DOWN it is discarded (09 R158, R159). -/
def takeAckFrame (f : FrameHead) (s : State) : State :=
  if s.link.up then (takeAck f.ack s).1 else s

/-- A NAK frame while UP; while DOWN it is discarded (09 R158, R162). -/
def takeNakFrame (f : FrameHead) (s : State) : State := if s.link.up then takeNak f.ack s else s

/-- A malformed frame is discarded, its ACK field not taken, and counted (09 R158). -/
def countMalformed (s : State) : State :=
  s.modCounters fun c => { c with malformedFrames := satInc c.malformedFrames }

/-- A good frame from the host, judged for form and by its FTYPE (09 R158). -/
def goodFrame (content : List Byte) (s : State) : State :=
  match readFrame content with
  | .malformed => countMalformed s
  | .ack f _ => takeAckFrame f s
  | .nak f _ => takeNakFrame f s
  | .init _ _ => takeInit s
  | .data f kind id body => takeData f kind (takenMessage kind id body) s

/-- FRAME_CRC_FAILURE (09 R157). In reset nothing is taken from HRX (07 R140). -/
def execFrameCrcFailure (hrx : List Byte) (s : State) : Host.Outcome State Fault Refusal :=
  .next (if s.pins.resetLow then s else receiveBad hrx s)

/-- MALFORMED_FRAME (09 R158, 08 R142). Bytes that spell a well-formed frame do what that frame does
(notes/assumptions/7.md). -/
def execMalformedFrame (content : List Byte) (s : State) : Host.Outcome State Fault Refusal :=
  .next (hostFrame content (goodFrame content) s)

/-- HOST_DATA_FRAME_NOT_TAKEN (09 R158 to R161): discarded while DOWN, ahead of sequence, a duplicate,
or without a free direct reply place. A frame that the link takes does what its message does
(notes/assumptions/7.md). -/
def execHostDataFrameNotTaken (f : FrameHead) (kind : Byte) (id : Half) (body : List Byte)
    (s : State) : Host.Outcome State Fault Refusal :=
  .next (dataFrame f kind id body (takenMessage kind id body) s)

/-- HOST_ACK_FRAME (09 R158, R159). -/
def execHostAckFrame (f : FrameHead) (extra : List Byte) (s : State) :
    Host.Outcome State Fault Refusal :=
  .next (hostFrame (frameContent ftypeAck f extra) (takeAckFrame f) s)

/-- RATE_CHANGE: the ACK frame that acknowledges the frame of a LINK-RATE REPLY; the rate code becomes
the code that REPLY named (09 R159 step 3, R172). -/
def execRateChange (f : FrameHead) (extra : List Byte) (s : State) :
    Host.Outcome State Fault Refusal :=
  .next (hostFrame (frameContent ftypeAck f extra) (takeAckFrame f) s)

/-- HOST_NAK (09 R158, R162). -/
def execHostNak (f : FrameHead) (extra : List Byte) (s : State) : Host.Outcome State Fault Refusal :=
  .next (hostFrame (frameContent ftypeNak f extra) (takeNakFrame f) s)

/-- HOST_INIT (09 R169, R170). -/
def execHostInit (f : FrameHead) (extra : List Byte) (s : State) : Host.Outcome State Fault Refusal :=
  .next (hostFrame (frameContent ftypeInit f extra) takeInit s)

/-! ## Timers and the line (09 R163, R168, R169) -/

/-- The replay timer, if it runs, runs out (09 R168). In reset no timer runs (07 R140). -/
def replayTimerOut (s : State) : State :=
  if s.pins.resetLow || s.link.replayTimer.isNone then s else expireReplay s

/-- REPLAY_TIMER_EXPIRY (09 R168). -/
def execReplayTimerExpiry (s : State) : Host.Outcome State Fault Refusal := .next (replayTimerOut s)

/-- BEACON_TIMER_EXPIRY (09 R169): while DOWN an INIT is sent, as soon as the line is free
(notes/assumptions/16.md, DEDUCED). -/
def execBeaconTimerExpiry (s : State) : Host.Outcome State Fault Refusal :=
  .next (if s.pins.resetLow || s.link.up || s.link.beacon.isNone then s
    else if s.link.tx.isNone then sendInit s
    else s.modLink fun l => { l with beacon := some 0 })

/-- FRAME_TRANSMIT_END (09 R163): the line is free, and the link chooses the next frame. In reset the
line rests idle (07 R140). One choice is one step (notes/assumptions/1.md, DESIGN CHOICE). -/
def execFrameTransmitEnd (s : State) : Host.Outcome State Fault Refusal :=
  .next (if s.pins.resetLow then s else chooseFrame (s.modLink fun l => { l with tx := none }))

/-! ## The FULL reset carried out (07 R139) -/

/-- FULL_RESET_CARRIED_OUT: the acknowledgement of the FULL REPLY's frame, or the link down, that
carries out the waiting FULL reset (07 R139, 09 R159, R168, R170). -/
def execFullResetCarriedOut (event : FullResetEvent) (s : State) :
    Host.Outcome State Fault Refusal :=
  .next (match event with
    | .acknowledged f extra => hostFrame (frameContent ftypeAck f extra) (takeAckFrame f) s
    | .exhausted => replayTimerOut s
    | .hostInit f extra => hostFrame (frameContent ftypeInit f extra) takeInit s)

end Sys2Proof.Machine
end

