-- ==== Sys2Proof/Machine/ManagementRequests.lean ====
section
/-!
DEFINITION. The meanings of the management requests. Each is a DATA frame from the host: its
acknowledgement is taken, the frame is placed by its SEQ, and an expected frame with room for its reply
is taken and its message handed to intake and its owner (09 R158 to R161, 08 R145, R148).
-/

namespace Sys2Proof.Machine

/-- IDENTIFY (07 R135): the part's identity, capacities, reset cause and epoch. -/
def execIdentify (f : FrameHead) (id : Half) (body : List Byte) (s : State) :
    Host.Outcome State Fault Refusal :=
  .next (dataFrame f RequestKind.identify.code id body
    (intake .identify id body (ownIdentify id)) s)

/-- STATUS_GET (07 R136): the counts, states, link counters and summary set. -/
def execStatusGet (f : FrameHead) (id : Half) (body : List Byte) (s : State) :
    Host.Outcome State Fault Refusal :=
  .next (dataFrame f RequestKind.statusGet.code id body
    (intake .statusGet id body (ownStatusGet id)) s)

/-- CONFIG_SET (07 R137): the three part-wide settings set together. -/
def execConfigSet (f : FrameHead) (id : Half) (body : List Byte) (s : State) :
    Host.Outcome State Fault Refusal :=
  .next (dataFrame f RequestKind.configSet.code id body
    (intake .configSet id body (ownConfigSet id body)) s)

/-- CONFIG_GET (07 R137): the three part-wide settings reported. -/
def execConfigGet (f : FrameHead) (id : Half) (body : List Byte) (s : State) :
    Host.Outcome State Fault Refusal :=
  .next (dataFrame f RequestKind.configGet.code id body
    (intake .configGet id body (ownConfigGet id)) s)

/-- LINK_RATE (09 R172): answered OK; the rate changes when the REPLY's frame is acknowledged. -/
def execLinkRate (f : FrameHead) (id : Half) (body : List Byte) (s : State) :
    Host.Outcome State Fault Refusal :=
  .next (dataFrame f RequestKind.linkRate.code id body
    (intake .linkRate id body (ownLinkRate id body)) s)

/-- RESET_FLUSH (07 R138): RESET, whose scope FLUSH clears the transaction state of every block. -/
def execResetFlush (f : FrameHead) (id : Half) (body : List Byte) (s : State) :
    Host.Outcome State Fault Refusal :=
  .next (dataFrame f RequestKind.reset.code id body
    (intake .reset id body (ownReset id body)) s)

/-- RESET_FULL (07 R139): RESET, whose scope FULL is marked as waiting. -/
def execResetFull (f : FrameHead) (id : Half) (body : List Byte) (s : State) :
    Host.Outcome State Fault Refusal :=
  .next (dataFrame f RequestKind.reset.code id body
    (intake .reset id body (ownReset id body)) s)

/-- WINDOW_SET (01 R8 to R11): a record replaced whole or the request refused whole. -/
def execWindowSet (f : FrameHead) (id : Half) (body : List Byte) (s : State) :
    Host.Outcome State Fault Refusal :=
  .next (dataFrame f RequestKind.windowSet.code id body
    (intake .windowSet id body (ownWindowSet id body)) s)

/-- WINDOW_GET (01 R13): a window record reported. -/
def execWindowGet (f : FrameHead) (id : Half) (body : List Byte) (s : State) :
    Host.Outcome State Fault Refusal :=
  .next (dataFrame f RequestKind.windowGet.code id body
    (intake .windowGet id body (ownWindowGet id body)) s)

/-- PORT_SET (04 R84): a port's five settings set together. -/
def execPortSet (f : FrameHead) (id : Half) (body : List Byte) (s : State) :
    Host.Outcome State Fault Refusal :=
  .next (dataFrame f RequestKind.portSet.code id body
    (intake .portSet id body (ownPortSet id body)) s)

/-- PORT_GET (04 R85): a port's settings, state, hold set, list counts, line and fill reported. -/
def execPortGet (f : FrameHead) (id : Half) (body : List Byte) (s : State) :
    Host.Outcome State Fault Refusal :=
  .next (dataFrame f RequestKind.portGet.code id body
    (intake .portGet id body (ownPortGet id body)) s)

/-- PORT_HOLD (04 R75): HOST joins the hold set of the ports named. -/
def execPortHold (f : FrameHead) (id : Half) (body : List Byte) (s : State) :
    Host.Outcome State Fault Refusal :=
  .next (dataFrame f RequestKind.portHold.code id body
    (intake .portHold id body (ownPortHold id body)) s)

/-- PORT_RELEASE (04 R76): HOST and GUARD leave the hold set of the ports named. -/
def execPortRelease (f : FrameHead) (id : Half) (body : List Byte) (s : State) :
    Host.Outcome State Fault Refusal :=
  .next (dataFrame f RequestKind.portRelease.code id body
    (intake .portRelease id body (ownPortRelease id body)) s)

/-- ABORT (03 R55): the live tag with the target id becomes READY with ABORTED. -/
def execAbort (f : FrameHead) (id : Half) (body : List Byte) (s : State) :
    Host.Outcome State Fault Refusal :=
  .next (dataFrame f RequestKind.abort.code id body
    (intake .abort id body (ownAbort id body)) s)

/-- JOB_LOAD (05 R94): a descriptor becomes active, and may start, or is staged. -/
def execJobLoad (f : FrameHead) (id : Half) (body : List Byte) (s : State) :
    Host.Outcome State Fault Refusal :=
  .next (dataFrame f RequestKind.jobLoad.code id body
    (intake .jobLoad id body (ownJobLoad id body)) s)

/-- JOB_START (05 R95): a LOADED job is validated and runs. -/
def execJobStart (f : FrameHead) (id : Half) (body : List Byte) (s : State) :
    Host.Outcome State Fault Refusal :=
  .next (dataFrame f RequestKind.jobStart.code id body
    (intake .jobStart id body (ownJobStart id body)) s)

/-- JOB_PAUSE (05 R101): a RUNNING job becomes PAUSED or PAUSING. -/
def execJobPause (f : FrameHead) (id : Half) (body : List Byte) (s : State) :
    Host.Outcome State Fault Refusal :=
  .next (dataFrame f RequestKind.jobPause.code id body
    (intake .jobPause id body (ownJobPause id body)) s)

/-- JOB_RESUME (05 R102): a PAUSED or PAUSING job becomes RUNNING. -/
def execJobResume (f : FrameHead) (id : Half) (body : List Byte) (s : State) :
    Host.Outcome State Fault Refusal :=
  .next (dataFrame f RequestKind.jobResume.code id body
    (intake .jobResume id body (ownJobResume id body)) s)

/-- JOB_STOP (05 R103): a job ends STOPPED or becomes STOPPING. -/
def execJobStop (f : FrameHead) (id : Half) (body : List Byte) (s : State) :
    Host.Outcome State Fault Refusal :=
  .next (dataFrame f RequestKind.jobStop.code id body
    (intake .jobStop id body (ownJobStop id body)) s)

/-- JOB_GET (05 R106): a slot reported. -/
def execJobGet (f : FrameHead) (id : Half) (body : List Byte) (s : State) :
    Host.Outcome State Fault Refusal :=
  .next (dataFrame f RequestKind.jobGet.code id body
    (intake .jobGet id body (ownJobGet id body)) s)

/-- IRQ_SET (06 R120): a source's configuration replaced when its state allows. -/
def execIrqSet (f : FrameHead) (id : Half) (body : List Byte) (s : State) :
    Host.Outcome State Fault Refusal :=
  .next (dataFrame f RequestKind.irqSet.code id body
    (intake .irqSet id body (ownIrqSet id body)) s)

/-- IRQ_MASK (06 R121): the masked field of one source or of all set. -/
def execIrqMask (f : FrameHead) (id : Half) (body : List Byte) (s : State) :
    Host.Outcome State Fault Refusal :=
  .next (dataFrame f RequestKind.irqMask.code id body
    (intake .irqMask id body (ownIrqMask id body)) s)

/-- IRQ_DONE (06 R119): a NOTIFIED source's cycle closed. -/
def execIrqDone (f : FrameHead) (id : Half) (body : List Byte) (s : State) :
    Host.Outcome State Fault Refusal :=
  .next (dataFrame f RequestKind.irqDone.code id body
    (intake .irqDone id body (ownIrqDone id body)) s)

/-- IRQ_GET (06 R122): a source reported. -/
def execIrqGet (f : FrameHead) (id : Half) (body : List Byte) (s : State) :
    Host.Outcome State Fault Refusal :=
  .next (dataFrame f RequestKind.irqGet.code id body
    (intake .irqGet id body (ownIrqGet id body)) s)

/-- FAULT_GET (07 R132): the fault unit reported. -/
def execFaultGet (f : FrameHead) (id : Half) (body : List Byte) (s : State) :
    Host.Outcome State Fault Refusal :=
  .next (dataFrame f RequestKind.faultGet.code id body
    (intake .faultGet id body (ownFaultGet id)) s)

/-- FAULT_CLEAR (07 R133): the fault unit reported, then cleared. -/
def execFaultClear (f : FrameHead) (id : Half) (body : List Byte) (s : State) :
    Host.Outcome State Fault Refusal :=
  .next (dataFrame f RequestKind.faultClear.code id body
    (intake .faultClear id body (ownFaultClear id body)) s)

end Sys2Proof.Machine
end

