-- ==== Sys2Proof/Machine/Transactions.lean ====
section
/-!
DEFINITION. The host candidate (02 R28, R29), the port arbiter (04 R70 to R74), and the start and end
of a local transaction (04 R62 to R69).
-/

namespace Sys2Proof.Machine

/-! ## The host candidate (02 R28, R29) -/

/-- An entry names a posted slot. -/
def Entry.isPost : Entry → Bool
  | .post _ => true
  | .tag _ => false

/-- The provisional choice from a port's request list (02 R28). -/
def provisional (s : State) (l : List Entry) : Option Entry :=
  match l with
  | [] => none
  | head :: _ =>
    if !inHoldOff s head then some head
    else
      match head with
      | .post _ => none
      | .tag _ =>
        match l.find? Entry.isPost with
        | some e => if inHoldOff s e then none else some e
        | none => none

/-- The host candidate of a port: the provisional choice, unless a FENCE in WAITING that was admitted
before it bars it (02 R28, R29). -/
def candidate (p : Fin 4) (s : State) : Option Entry :=
  match provisional s (s.lists.get p) with
  | some e => if barredAt s.tags (placeOf s e) then none else some e
  | none => none

/-! ## The arbiter's choice (04 R70 to R74) -/

/-- What the arbiter starts. -/
inductive Choice where
  | lockContinuation (lock : Lock)
  | operation (op : IrqOp)
  | host (entry : Entry)
  | chunk (slot : Fin 4) (offer : Offer)
  | fill (line : Word)
  deriving DecidableEq, Repr

/-- The oldest interrupt operation that is not in hold-off (04 R72). -/
def Port.oldestOperation (x : Port) : Option IrqOp := x.opQueue.find? fun op => op.holdOff.isNone

/-- The slots in rotation, starting with the slot after the last slot served (04 R73). -/
def slotRotation (last : Fin 4) : List (Fin 4) := [last + 1, last + 2, last + 3, last]

/-- The first waiting chunk in the slot rotation (04 R73). -/
def Port.waitingChunk (x : Port) : Option (Fin 4 × Offer) :=
  (slotRotation x.lastSlot).findSome? fun j =>
    match x.offers.get j with
    | some o => if o.holdOff.isNone then some (j, o) else none
    | none => none

/-- The share rule lets the host candidate go before a waiting chunk (04 R74). -/
def Port.hostShare (x : Port) : Bool := decide (x.shareCount < x.settings.jobShare.toNat)

/-- What an IDLE port starts (04 R71, R74). -/
def idleChoice (x : Port) (cand : Option Entry) : Option Choice :=
  match x.oldestOperation with
  | some op => some (.operation op)
  | none =>
    match cand, x.waitingChunk with
    | some e, none => some (.host e)
    | none, some (j, o) => some (.chunk j o)
    | some e, some (j, o) => if x.hostShare then some (.host e) else some (.chunk j o)
    | none, none => x.pendingFill.map Choice.fill

/-- What the arbiter of port `p` starts now, if anything (04 R70). A held port starts only the lock
continuation, once its hold-off has run out. -/
def arbiterChoice (p : Fin 4) (s : State) : Option Choice :=
  let x := s.ports.get p
  if x.txn.isSome then none
  else
    match x.lock with
    | some l => if (s.tags.get l.tag).holdOff.isNone then some (.lockContinuation l) else none
    | none => if x.isHeldSet then none else idleChoice x (candidate p s)

/-! ## Starting (04 R62, R63) -/

/-- A transaction with the port's limits captured at its start (04 R62, R63). -/
def Port.newTxn (x : Port) (i : Initiator) (isWrite : Bool) (addr : Word) (size : Nat)
    (data : List Byte) (lockQualifier : Bool) : Txn where
  initiator := i
  isWrite := isWrite
  localAddr := addr
  size := size
  data := data
  lockQualifier := lockQualifier
  responseLimit := x.settings.responseLimit
  retryLimit := x.settings.retryLimit
  retryDelay := x.settings.retryDelay
  timeLeft := Config.us x.settings.responseLimit.toNat

/-- The port presents a transaction on its segment (04 R62). -/
def startTxn (p : Fin 4) (i : Initiator) (isWrite : Bool) (addr : Word) (size : Nat)
    (data : List Byte) (lockQualifier : Bool) (s : State) : State :=
  changePort p
    (fun x => { x with txn := some (x.newTxn i isWrite addr size data lockQualifier) }) s

/-- The share count after a host start or a chunk start (04 R74). -/
def Port.countShare (isHost : Bool) (x : Port) : Port :=
  { x with shareCount :=
      if isHost && x.waitingChunk.isSome then min 15 (x.shareCount + 1) else 0 }

/-- A host READ hits the read-ahead line of its port (04 R80). -/
def lineHit (x : Tag) (a : Access) (y : Port) : Bool :=
  x.kind == .read && a.prefetchable && y.lineCovers a.localAddr a.count

/-- A READ answered from the read-ahead line: READY OK with the line's bytes, no transaction, and the
fill test; the share count is left alone (04 R80, R81, 03 R42). -/
def answerFromLine (p : Fin 4) (t : Fin 32) (a : Access) (s : State) : State :=
  let data := (s.ports.get p).lineBytes a.localAddr a.count
  fillTest a (makeReady t .ok false (some data) (removeEntry (.tag t) s))

/-- The transaction of a tagged request: a READ, a WRITE, or the read half of a MODIFY (04 R62, R67). -/
def startTagged (p : Fin 4) (t : Fin 32) (x : Tag) (a : Access) (s : State) : State :=
  let s := (removeEntry (.tag t) s).modTag t fun x => { x with state := .active, holdOff := none }
  let s := s.modPort p (Port.countShare true)
  match x.kind with
  | .write => startTxn p (.request t) true a.localAddr a.count x.data false s
  | .modify => startTxn p (.modifyRead t) false a.localAddr a.count [] true s
  | _ => startTxn p (.request t) false a.localAddr a.count [] false s

/-- The host candidate starts (02 R30, 03 R42, 04 R71, R74). -/
def startHost (p : Fin 4) (e : Entry) (s : State) : State :=
  match e with
  | .tag t =>
    let x := s.tags.get t
    match x.access with
    | some a =>
      if lineHit x a (s.ports.get p) then answerFromLine p t a s else startTagged p t x a s
    | none => s
  | .post k =>
    match s.pool.get k with
    | some x =>
      let s := (removeEntry (.post k) s).setSlot k (some { x with holdOff := none })
      let s := s.modPort p (Port.countShare true)
      startTxn p (.post k) true x.localAddr x.count x.data false s
    | none => s

/-- A chunk transaction starts: it leaves the offered chunks, its slot is the last slot served, and its
slot's chunk is in flight (04 R73, R74, 05 R97). -/
def startChunk (p : Fin 4) (j : Fin 4) (o : Offer) (s : State) : State :=
  let o := { o with started := true }
  let s := s.modPort p fun x =>
    Port.countShare false { x with offers := x.offers.set j none, lastSlot := j }
  let s := s.modJob j fun x => { x with chunk := x.chunk.map fun c => { c with started := true } }
  startTxn p (.chunk j o) o.isWrite o.localAddr o.size o.data false s

/-- An interrupt operation starts: it leaves the queue (04 R72). -/
def startOperation (p : Fin 4) (op : IrqOp) (s : State) : State :=
  let s := s.modPort p fun x => { x with opQueue := x.opQueue.filter fun o => o != op }
  startTxn p (.operation op) op.isWrite op.localAddr op.size
    (if op.isWrite then lowBytes op.size op.value else []) false s

/-- The write half of the locking MODIFY starts (04 R68, R69). -/
def startWriteHalf (p : Fin 4) (l : Lock) (s : State) : State :=
  match (s.tags.get l.tag).access with
  | some a =>
    startTxn p (.modifyWrite l.tag) true a.localAddr a.count (lowBytes a.count l.newValue) true s
  | none => s

/-- The pending fill starts as a 64-byte read at its line address, and is then absent (04 R82). -/
def startFill (p : Fin 4) (a : Word) (s : State) : State :=
  startTxn p .fill false a Config.lineBytes [] false
    (s.modPort p fun x => { x with pendingFill := none })

/-- What the arbiter chose starts (04 R71). -/
def startChoice (p : Fin 4) (c : Choice) (s : State) : State :=
  match c with
  | .lockContinuation l => startWriteHalf p l s
  | .operation op => startOperation p op s
  | .host e => startHost p e s
  | .chunk j o => startChunk p j o s
  | .fill a => startFill p a s

/-! ## Outcomes (04 R64, R65) -/

/-- The outcome of a transaction (04 R64). -/
inductive BusOutcome where
  | ok | busError | retry | silent
  deriving DecidableEq, Repr

/-- The status with which an outcome that is not repeated ends (04 R64, R65). -/
def BusOutcome.final : BusOutcome → Status
  | .ok => .ok
  | .busError => .busError
  | .retry => .retryExhausted
  | .silent => .noResponse

/-- The port repeats the outcome: a RETRY, or silence in a window that is not volatile, while retries
used are below the captured retry limit (04 R65). -/
def BusOutcome.repeats (o : BusOutcome) (isVolatile : Bool) (retries : Nat) (x : Txn) : Bool :=
  decide (retries < x.retryLimit.toNat) &&
    match o with
    | .retry => true
    | .silent => !isVolatile
    | .ok | .busError => false

/-- The hold-off that follows a repeated outcome: the captured retry delay (04 R65). -/
def Txn.holdOff (x : Txn) : Nat := Config.us x.retryDelay.toNat

/-! ## Ending (04 R66 to R68) -/

/-- The port's transaction is over and its lock is as given (04 R61, R66). -/
def closeTxn (p : Fin 4) (lock : Option Lock) (s : State) : State :=
  changePort p (fun x => { x with txn := none, lock := lock }) s

/-- A repeatable outcome of an ACTIVE tag: back to QUEUED in hold-off, at its place in the list
(02 R26, 03 R42). -/
def requeueTag (p : Fin 4) (t : Fin 32) (x : Txn) (s : State) : State :=
  returnEntry p (.tag t) (s.modTag t fun y =>
    { y with state := .queued, retries := y.retries + 1, holdOff := some x.holdOff })

/-- The outcome of a tagged request is repeated: it is still ACTIVE and the port repeats it (02 R26,
04 R65). -/
def tagRepeats (t : Fin 32) (x : Txn) (o : BusOutcome) (s : State) : Bool :=
  let y := s.tags.get t
  y.state == .active && o.repeats ((y.access.map Access.isVolatile).getD false) y.retries x

/-- The end of a READ or WRITE (03 R43, R49, 04 R66, R81). -/
def endRequest (p : Fin 4) (t : Fin 32) (x : Txn) (o : BusOutcome) (data : List Byte) (s : State) :
    State :=
  let y := s.tags.get t
  let s' := closeTxn p none s
  if tagRepeats t x o s then requeueTag p t x s'
  else
    let isOkRead := o == .ok && y.kind == .read
    let s' := finishRequest t o.final (if isOkRead then some data else none) s'
    match y.access with
    | some a => if isOkRead && y.state == .active then fillTest a s' else s'
    | none => s'

/-- The bits of the low `n` bytes of a value. -/
def lowMask (n : Nat) : Word := BitVec.ofNat 32 (2 ^ (8 * n) - 1)

/-- The new value of a MODIFY: clear, then set, then invert; only the low count bytes take part
(03 R43, 04 R69). -/
def modifyValue (count : Nat) (old clearMask setMask invertMask : Word) : Word :=
  (((old &&& ~~~clearMask) ||| setMask) ^^^ invertMask) &&& lowMask count

/-- A MODIFY's read half ended OK: the lock is taken, the old and new values set in an ACTIVE tag,
retries used 0 (04 R67, 03 R43, R48). -/
def takeLock (p : Fin 4) (t : Fin 32) (data : List Byte) (s : State) : State :=
  let y := s.tags.get t
  let old := wordBE data
  let new := modifyValue ((y.access.map Access.count).getD 0) old y.clearMask y.setMask y.invertMask
  let s := closeTxn p (some ⟨t, old, new⟩) s
  s.modTag t fun y =>
    { y with retries := 0, oldNew := if y.state == .active then some (old, new) else y.oldNew }

/-- The end of a MODIFY's read half (04 R67). -/
def endModifyRead (p : Fin 4) (t : Fin 32) (x : Txn) (o : BusOutcome) (data : List Byte)
    (s : State) : State :=
  if o == .ok then takeLock p t data s
  else if tagRepeats t x o s then requeueTag p t x (closeTxn p none s)
  else finishRequest t o.final none (closeTxn p none s)

/-- The status of a MODIFY whose write half has ended (03 R43, 04 R68). -/
def writeHalfStatus (o : BusOutcome) : Status := if o == .ok then .ok else .writeFailed

/-- The end of a MODIFY's write half: a repeated outcome keeps the lock in hold-off, any other ends
the lock (04 R68). The hold-off is counted in the tag's own field in every state of the tag: R38 gives the
field to QUEUED and ACTIVE alone, and R48 and R68 give no place to the hold-off of a write half whose tag
is READY with bus pending or DISCARDING (notes/assumptions/23.md, DESIGN CHOICE). -/
def endModifyWrite (p : Fin 4) (t : Fin 32) (x : Txn) (o : BusOutcome) (s : State) : State :=
  let y := s.tags.get t
  if o.repeats ((y.access.map Access.isVolatile).getD false) y.retries x then
    (closeTxn p (s.ports.get p).lock s).modTag t fun y =>
      { y with retries := y.retries + 1, holdOff := some x.holdOff }
  else finishRequest t (writeHalfStatus o) none (closeTxn p none s)

/-- The fields of a POSTED-FAILED fault (02 R24, 07 R127). -/
def Posted.failureDetail (x : Posted) (st : Status) : FaultDetail where
  status := st
  port := some x.port
  id := none
  slot := none
  source := none
  localAddr := some x.localAddr
  hostAddr := some x.hostAddr

/-- The end of a POST's transaction (02 R24, R26, R35). -/
def endPosted (p : Fin 4) (k : Fin 32) (x : Txn) (o : BusOutcome) (s : State) : State :=
  let s' := closeTxn p none s
  match s.pool.get k with
  | none => s'
  | some y =>
    if y.flushed then endPost k y (o != .ok) s'
    else if o.repeats y.isVolatile y.retries x then
      returnEntry p (.post k) (s'.setSlot k
        (some { y with retries := y.retries + 1, holdOff := some x.holdOff }))
    else
      let s' := endPost k y (o != .ok) s'
      if o == .ok then s' else report .postedFailed (y.failureDetail o.final) s'

/-- The end of a chunk transaction (04 R73, R66). -/
def endChunk (p : Fin 4) (j : Fin 4) (c : Offer) (x : Txn) (o : BusOutcome) (data : List Byte)
    (s : State) : State :=
  let s := closeTxn p none s
  if o.repeats c.isVolatile c.retries x then
    offerChunk j p { c with retries := c.retries + 1, holdOff := some x.holdOff } s
  else chunkEnded j p c o.final data s

/-- The end of an interrupt operation's transaction; only RETRY is repeated, at the operation's former
place in the queue (04 R65, R72). -/
def endOperation (p : Fin 4) (op : IrqOp) (x : Txn) (o : BusOutcome) (data : List Byte)
    (s : State) : State :=
  let s := closeTxn p none s
  if o.repeats true op.retries x then
    let waiting := { op with retries := op.retries + 1, holdOff := some x.holdOff }
    s.modPort p fun y => { y with opQueue := insertByKey IrqOp.place waiting y.opQueue }
  else operationEnded op o.final data s

/-- The end of a read-ahead fill (04 R82). -/
def endFill (p : Fin 4) (x : Txn) (o : BusOutcome) (data : List Byte) (s : State) : State :=
  (closeTxn p none s).modPort p fun y => y.fillEnded x.localAddr (o == .ok) data

/-- The port takes the outcome of its transaction and hands it to the initiator; a write of any
initiator applies the discard test (04 R64 to R66, R83). `data` are the bytes read. -/
def endTxn (p : Fin 4) (x : Txn) (o : BusOutcome) (data : List Byte) (s : State) : State :=
  let s := match x.initiator with
    | .request t => endRequest p t x o data s
    | .modifyRead t => endModifyRead p t x o data s
    | .modifyWrite t => endModifyWrite p t x o s
    | .post k => endPosted p k x o s
    | .chunk j c => endChunk p j c x o data s
    | .operation op => endOperation p op x o data s
    | .fill => endFill p x o data s
  if x.isWrite then s.modPort p (Port.writeEnded x.localAddr) else s

end Sys2Proof.Machine
end

