-- ==== Sys2Proof/Machine/PortEvents.lean ====
section
/-!
DEFINITION. The meanings of the events at a port and of the timers of its work: a start, the answer of
a target, the ends of a response limit, of a hold-off and of a completion time (04, 03 R50 to R54).
-/

namespace Sys2Proof.Machine

/-- PORT_START: the port's arbiter starts one eligible item, if the port may start something (04 R70,
R71). In reset no port starts anything (07 R140). One start is one step (notes/assumptions/1.md, DESIGN
CHOICE). -/
def execPortStart (p : Fin 4) (s : State) : Host.Outcome State Fault Refusal :=
  .next (if s.pins.resetLow then s
    else
      match arbiterChoice p s with
      | some c => startChoice p c s
      | none => s)

/-- The outcome of a target's answer (04 R64). -/
def Answer.outcome : Answer → BusOutcome
  | .accept _ => .ok
  | .error => .busError
  | .retry => .retry

/-- The bytes read: those of ACCEPT to a read (04 R64; notes/assumptions/8.md). -/
def Answer.bytes (x : Txn) : Answer → List Byte
  | .accept data => if x.isWrite then [] else exactly x.size data
  | .error | .retry => []

/-- TARGET_ANSWER: the target answers the transaction in progress (04 R64). An answer with no
transaction in progress belongs to no transaction and is not taken (notes/assumptions/15.md, DESIGN
CHOICE). -/
def execTargetAnswer (p : Fin 4) (a : Answer) (s : State) : Host.Outcome State Fault Refusal :=
  .next (if s.pins.resetLow then s
    else
      match (s.ports.get p).txn with
      | some x => endTxn p x (Answer.outcome a) (Answer.bytes x a) s
      | none => s)

/-- RESPONSE_LIMIT_EXPIRY: the captured response limit runs out with no answer, and the transaction
ends SILENT (04 R64). As a command it says that the limit has run out, whatever time is left
(notes/assumptions/3.md, DESIGN CHOICE). -/
def execResponseLimitExpiry (p : Fin 4) (s : State) : Host.Outcome State Fault Refusal :=
  .next (if s.pins.resetLow then s
    else
      match (s.ports.get p).txn with
      | some x => endTxn p x .silent [] s
      | none => s)

/-- The hold-off of an item is over (04 R65, 02 R26). -/
def endHoldOff (item : HoldItem) (s : State) : State :=
  match item with
  | .request t => s.modTag t fun x => { x with holdOff := none }
  | .posted k => s.setSlot k ((s.pool.get k).map fun x => { x with holdOff := none })
  | .chunk j =>
    s.setPorts (s.ports.map fun x =>
      { x with offers := x.offers.modify j fun o => o.map fun c => { c with holdOff := none } })
  | .operation i =>
    s.modPort (portOfSource i) fun x =>
      { x with opQueue := x.opQueue.map fun op =>
          if op.source == i then { op with holdOff := none } else op }

/-- HOLD_OFF_EXPIRY: the item becomes eligible again in its place (04 R65). A hold-off runs out whether
or not the port is held (04 R78). -/
def execHoldOffExpiry (item : HoldItem) (s : State) : Host.Outcome State Fault Refusal :=
  .next (if s.pins.resetLow then s else endHoldOff item s)

/-- A QUEUED entry's completion timer is paused: its port has a hold reason (03 R50). -/
def timerPaused (x : Tag) (s : State) : Bool :=
  match x.access with
  | some a => (s.ports.get a.port).isHeldSet
  | none => false

/-- A tag's completion time reaches 0 (03 R50 to R53). The timer of a QUEUED entry on a held port is
paused, and at READY and in DISCARDING no timer runs: nothing expires then. -/
def expireTag (t : Fin 32) (s : State) : State :=
  let x := s.tags.get t
  let s' := s.modTag t fun x => { x with timeLeft := 0 }
  match x.state with
  | .queued => if timerPaused x s then s else readyFromQueue t .timeout s'
  | .waiting => readyFromBarrier t .timeout s'
  | .active => makeReady t .timeout true none s'
  | .free | .ready | .discarding => s

/-- COMPLETION_TIMER_EXPIRY (03 R50 to R53). -/
def execCompletionTimerExpiry (t : Fin 32) (s : State) : Host.Outcome State Fault Refusal :=
  .next (if s.pins.resetLow then s else expireTag t s)

end Sys2Proof.Machine
end

