-- ==== Sys2Proof/Machine/ResetEvents.lean ====
section
/-!
DEFINITION. The meanings of the resets, of the FREEZE pin and of the interrupt lines (07 R139 to R141,
04 R77, 06 R112, R113).
-/

namespace Sys2Proof.Machine

/-! ## Power-on and RESET_N (07 R140, R141) -/

/-- The supply comes up (07 R141): the part leaves reset with cause POWER, or stays in reset while
RESET_N is low, the cause still to be POWER. -/
def powerUp (s : State) : State :=
  if s.pins.resetLow then (holdInReset s).modSettings fun x => { x with coldStart := true }
  else resetBlocks .power s

/-- The level of RESET_N. -/
def setResetLow (v : Bool) (s : State) : State := s.setPins { s.pins with resetLow := v }

/-- POWER_ON. -/
def execPowerOn (s : State) : Host.Outcome State Fault Refusal := .next (powerUp s)

/-- RESET_N_ASSERT: the pin goes low and the part enters reset; a waiting FULL reset is superseded
(07 R140). A pin that is low already does not go low
(notes/assumptions/15.md, DESIGN CHOICE). -/
def execResetNAssert (s : State) : Host.Outcome State Fault Refusal :=
  .next (if s.pins.resetLow then s else holdInReset (setResetLow true s))

/-- RESET_N_RELEASE: the pin goes high and the part leaves reset with cause PIN, or POWER after a supply
that came up with the pin low (07 R140, R141). A pin that is high already does not go high. -/
def execResetNRelease (s : State) : Host.Outcome State Fault Refusal :=
  .next (if s.pins.resetLow then
      resetBlocks (if s.settings.coldStart then .power else .pin) (setResetLow false s)
    else s)

/-! ## FREEZE (04 R77) -/

/-- The FREEZE pin changes: FREEZE joins or leaves each port's hold set. In reset only the pin changes;
the ports take it on leaving reset (07 R140). -/
def setFreezePin (v : Bool) (s : State) : State :=
  let s := s.setPins { s.pins with freeze := v }
  if s.pins.resetLow then s else changeEveryPort (Port.setFreeze v) s

/-- FREEZE_ACTIVE. -/
def execFreezeActive (s : State) : Host.Outcome State Fault Refusal := .next (setFreezePin true s)

/-- FREEZE_INACTIVE. -/
def execFreezeInactive (s : State) : Host.Outcome State Fault Refusal := .next (setFreezePin false s)

/-! ## Interrupt lines (06 R112, R113) -/

/-- The level of an interrupt line. -/
def setLine (i : Fin 32) (v : Bool) (s : State) : State :=
  s.setPins { s.pins with lines := s.pins.lines.set i v }

/-- IRQ_LINE_RISE: a rising edge reaches an enabled EDGE source, and the source is judged (06 R112,
R113). In reset no line is sampled (07 R140). A line that is high already does not rise
(notes/assumptions/15.md, DESIGN CHOICE). -/
def execIrqLineRise (i : Fin 32) (s : State) : Host.Outcome State Fault Refusal :=
  .next (if s.pins.lines.get i then s
    else
      let s := setLine i true s
      if s.pins.resetLow then s else judgeSource i (s.modSource i Source.edge))

/-- IRQ_LINE_FALL: only the line's level changes; a cycle already begun goes on (06 R112). -/
def execIrqLineFall (i : Fin 32) (s : State) : Host.Outcome State Fault Refusal :=
  .next (setLine i false s)

end Sys2Proof.Machine
end

