-- ==== Sys2Proof/Machine/Dispatch.lean ====
section
/-! DEFINITION. The meaning of each command: one direct call for each constructor of `Instr`. -/

namespace Sys2Proof.Machine

def exec (i : Instr) (s : State) : Host.Outcome State Fault Refusal :=
  match i with
  | .powerOn => Sys2Proof.Machine.execPowerOn s
  | .resetNAssert => Sys2Proof.Machine.execResetNAssert s
  | .resetNRelease => Sys2Proof.Machine.execResetNRelease s
  | .freezeActive => Sys2Proof.Machine.execFreezeActive s
  | .freezeInactive => Sys2Proof.Machine.execFreezeInactive s
  | .irqLineRise source => Sys2Proof.Machine.execIrqLineRise source s
  | .irqLineFall source => Sys2Proof.Machine.execIrqLineFall source s
  | .frameCrcFailure hrx => Sys2Proof.Machine.execFrameCrcFailure hrx s
  | .malformedFrame content => Sys2Proof.Machine.execMalformedFrame content s
  | .hostDataFrameNotTaken f kind id body => Sys2Proof.Machine.execHostDataFrameNotTaken f kind id body s
  | .hostAckFrame f extra => Sys2Proof.Machine.execHostAckFrame f extra s
  | .rateChange f extra => Sys2Proof.Machine.execRateChange f extra s
  | .fullResetCarriedOut event => Sys2Proof.Machine.execFullResetCarriedOut event s
  | .hostNak f extra => Sys2Proof.Machine.execHostNak f extra s
  | .hostInit f extra => Sys2Proof.Machine.execHostInit f extra s
  | .replayTimerExpiry => Sys2Proof.Machine.execReplayTimerExpiry s
  | .beaconTimerExpiry => Sys2Proof.Machine.execBeaconTimerExpiry s
  | .frameTransmitEnd => Sys2Proof.Machine.execFrameTransmitEnd s
  | .unknownKind f kind id body => Sys2Proof.Machine.execUnknownKind f kind id body s
  | .read f id body => Sys2Proof.Machine.execRead f id body s
  | .write f id body => Sys2Proof.Machine.execWrite f id body s
  | .post f id body => Sys2Proof.Machine.execPost f id body s
  | .modify f id body => Sys2Proof.Machine.execModify f id body s
  | .fence f id body => Sys2Proof.Machine.execFence f id body s
  | .identify f id body => Sys2Proof.Machine.execIdentify f id body s
  | .statusGet f id body => Sys2Proof.Machine.execStatusGet f id body s
  | .configSet f id body => Sys2Proof.Machine.execConfigSet f id body s
  | .configGet f id body => Sys2Proof.Machine.execConfigGet f id body s
  | .linkRate f id body => Sys2Proof.Machine.execLinkRate f id body s
  | .resetFlush f id body => Sys2Proof.Machine.execResetFlush f id body s
  | .resetFull f id body => Sys2Proof.Machine.execResetFull f id body s
  | .windowSet f id body => Sys2Proof.Machine.execWindowSet f id body s
  | .windowGet f id body => Sys2Proof.Machine.execWindowGet f id body s
  | .portSet f id body => Sys2Proof.Machine.execPortSet f id body s
  | .portGet f id body => Sys2Proof.Machine.execPortGet f id body s
  | .portHold f id body => Sys2Proof.Machine.execPortHold f id body s
  | .portRelease f id body => Sys2Proof.Machine.execPortRelease f id body s
  | .abort f id body => Sys2Proof.Machine.execAbort f id body s
  | .jobLoad f id body => Sys2Proof.Machine.execJobLoad f id body s
  | .jobStart f id body => Sys2Proof.Machine.execJobStart f id body s
  | .jobPause f id body => Sys2Proof.Machine.execJobPause f id body s
  | .jobResume f id body => Sys2Proof.Machine.execJobResume f id body s
  | .jobStop f id body => Sys2Proof.Machine.execJobStop f id body s
  | .jobGet f id body => Sys2Proof.Machine.execJobGet f id body s
  | .irqSet f id body => Sys2Proof.Machine.execIrqSet f id body s
  | .irqMask f id body => Sys2Proof.Machine.execIrqMask f id body s
  | .irqDone f id body => Sys2Proof.Machine.execIrqDone f id body s
  | .irqGet f id body => Sys2Proof.Machine.execIrqGet f id body s
  | .faultGet f id body => Sys2Proof.Machine.execFaultGet f id body s
  | .faultClear f id body => Sys2Proof.Machine.execFaultClear f id body s
  | .portStart port => Sys2Proof.Machine.execPortStart port s
  | .targetAnswer port answer => Sys2Proof.Machine.execTargetAnswer port answer s
  | .responseLimitExpiry port => Sys2Proof.Machine.execResponseLimitExpiry port s
  | .holdOffExpiry item => Sys2Proof.Machine.execHoldOffExpiry item s
  | .completionTimerExpiry tag => Sys2Proof.Machine.execCompletionTimerExpiry tag s

end Sys2Proof.Machine
end

