-- ==== Sys2Proof/Machine/Time.lean ====
section
/-!
DEFINITION. What the block does with no command waiting (notes/assumptions/2.md): the events that its
own arbiters and timers bring about, and the passing of a quarter of a microsecond.
-/

namespace Sys2Proof.Machine

/-! ## Events that are due -/

/-- A timer that has run out. -/
def isOut (x : Option Nat) : Bool := x == some 0

/-- A tag's completion timer counts: QUEUED with no hold reason on its port, ACTIVE or WAITING
(03 R50). -/
def tagCounts (s : State) (x : Tag) : Bool :=
  match x.state with
  | .queued => !timerPaused x s
  | .active | .waiting => true
  | .free | .ready | .discarding => false

/-- The line: the end of the frame on HTX, or the choice of a frame for an idle line (09 R163); while
DOWN the INIT that the beacon timer calls for (09 R169). -/
def dueLine (s : State) : List Instr :=
  match s.link.tx with
  | some x => if x.timeLeft = 0 then [.frameTransmitEnd] else []
  | none =>
    if somethingToSend s then [.frameTransmitEnd]
    else if !s.link.up && isOut s.link.beacon then [.beaconTimerExpiry]
    else []

/-- The receiver: a frame that stands whole at the head of the receive bytes is judged (09 R157). Bytes
that a failed frame swallowed are found again so (notes/assumptions/7.md). -/
def dueReceive (s : State) : List Instr :=
  match collect (hunt s.link.rx) with
  | .good content _ => [decodeHostFrame content]
  | .bad => [.frameCrcFailure []]
  | .incomplete => []

/-- The replay timer (09 R168). -/
def dueReplay (s : State) : List Instr :=
  if isOut (s.link.replayTimer.map ReplayTimer.timeLeft) then [.replayTimerExpiry] else []

/-- The ports: a start that the arbiter can make (04 R70), or a response limit that has run out
(04 R64). -/
def duePort (s : State) (p : Fin 4) : List Instr :=
  (if (arbiterChoice p s).isSome then [.portStart p] else [])
    ++ (if isOut ((s.ports.get p).txn.map Txn.timeLeft) then [.responseLimitExpiry p] else [])

/-- The tags: a completion timer or a hold-off that has run out (03 R50, 04 R65). -/
def dueTag (s : State) (t : Fin 32) : List Instr :=
  let x := s.tags.get t
  (if tagCounts s x && x.timeLeft == 0 then [.completionTimerExpiry t] else [])
    ++ (if isOut x.holdOff then [.holdOffExpiry (.request t)] else [])

/-- The posted slots: a hold-off that has run out (04 R65). -/
def dueSlot (s : State) (k : Fin 32) : List Instr :=
  if isOut ((s.pool.get k).bind Posted.holdOff) then [.holdOffExpiry (.posted k)] else []

/-- The offered chunks: a hold-off that has run out (04 R65). -/
def dueChunk (s : State) (j : Fin 4) : List Instr :=
  if (Table.indices 4).any fun p => isOut (((s.ports.get p).offers.get j).bind Offer.holdOff)
  then [.holdOffExpiry (.chunk j)] else []

/-- The queued interrupt operations: a hold-off that has run out (04 R65). -/
def dueOperation (s : State) (i : Fin 32) : List Instr :=
  if (s.ports.get (portOfSource i)).opQueue.any fun op => op.source == i && isOut op.holdOff
  then [.holdOffExpiry (.operation i)] else []

/-- The events that are due now. In reset there is none (07 R140). -/
def dueEvents (s : State) : List Instr :=
  if s.pins.resetLow then []
  else
    dueReceive s ++ dueLine s ++ dueReplay s ++ (Table.indices 4).flatMap (duePort s)
      ++ (Table.indices 32).flatMap (dueTag s) ++ (Table.indices 32).flatMap (dueSlot s)
      ++ (Table.indices 4).flatMap (dueChunk s) ++ (Table.indices 32).flatMap (dueOperation s)

/-! ## A quarter of a microsecond -/

/-- A timer counts down; a stopped one stays stopped. -/
def countDown (x : Option Nat) : Option Nat := x.map fun n => n - 1

/-- The timers of a tag. -/
def tickTag (s : State) (x : Tag) : Tag :=
  { x with timeLeft := if tagCounts s x then x.timeLeft - 1 else x.timeLeft
           holdOff := countDown x.holdOff }

/-- The timers of a port: the response limit and the hold-offs of its chunks and operations. A hold-off
counts whether or not the port is held (04 R78). -/
def Port.tick (x : Port) : Port :=
  { x with
    txn := x.txn.map fun t => { t with timeLeft := t.timeLeft - 1 }
    offers := x.offers.map fun o => o.map fun c => { c with holdOff := countDown c.holdOff }
    opQueue := x.opQueue.map fun op => { op with holdOff := countDown op.holdOff } }

/-- The timers of the link and the time of the frame on HTX. -/
def Link.tick (l : Link) : Link :=
  { l with
    replayTimer := l.replayTimer.map fun t => { t with timeLeft := t.timeLeft - 1 }
    beacon := countDown l.beacon
    tx := l.tx.map fun x => { x with timeLeft := x.timeLeft - 1 } }

/-- A quarter of a microsecond passes: every running timer counts. In reset no timer runs (07 R140). -/
def tick (s : State) : State :=
  if s.pins.resetLow then s
  else
    (((s.setTags (s.tags.map (tickTag s))).setPool
      (s.pool.map fun r => r.map fun x => { x with holdOff := countDown x.holdOff })).setPorts
      (s.ports.map Port.tick)).modLink Link.tick

/-! ## The idle step -/

/-- With no command waiting: the only event due happens; of several, the one that a free choice names
(notes/assumptions/4.md); with none due, time passes. -/
def idleStep (s : State) : Host.Outcome State Fault Refusal :=
  match dueEvents s with
  | [] => .next (tick s)
  | [e] => exec e s
  | e :: es =>
    exec ((e :: es).getD (Config.freeChoice s.freeDraws % (e :: es).length) e)
      (s.setFreeDraws (s.freeDraws + 1))

/-- One step: the command at the front of the queue acts on the state with the queue's rest, and on an
empty queue the block acts for itself. -/
def takeCommand (s : State) : Host.Outcome State Fault Refusal :=
  match s.pending with
  | [] => idleStep s
  | c :: rest => exec c (s.setPending rest)

/-- A command put at the front of the queue. -/
def State.withCommand (s : State) (c : Instr) : State := s.setPending (c :: s.pending)

/-- The command that a word spells, if it spells one, put at the front of the queue. -/
def State.withWord (s : State) (nbits w : Nat) : State :=
  match decodeTableWord nbits w with
  | some c => s.withCommand c
  | none => s

end Sys2Proof.Machine
end

