-- ==== Sys2Proof/Machine/Step.lean ====
section
/-!
DEFINITION. The step of the block, and the command of a word put where the step takes it. Both only
call Machine/Time.lean.
-/

namespace Sys2Proof.Machine

/-- One step of the LB440 (notes/assumptions/2.md). -/
def step (s : State) : Host.Outcome State Fault Refusal := takeCommand s

/-- The state with the command of a table word at the front of its queue, where `step` takes it. -/
def State.withFetchWord (s : State) (nbits w : Nat) : State := s.withWord nbits w

end Sys2Proof.Machine
end

