-- ==== Sys2Proof/WellFormed.lean ====
section
/-!
DEFINITION. Which terms of `Instr` are commands the outside can send: a frame is at most 255 bytes
from FTYPE to its last body byte, and a row's operands are the row's own.
-/

namespace Sys2Proof

/-- A DATA frame whose message has this body fits the LEN byte: 5 header bytes, 3 bytes of message
head (08 R142, R144). -/
def bodyFits (body : List Byte) : Bool := decide (body.length ≤ 247)

/-- A control frame with these further bytes fits the LEN byte (08 R142). -/
def extraFits (extra : List Byte) : Bool := decide (extra.length ≤ 250)

/-- The well-formedness of a command. -/
def Instr.wellFormed : Instr → Bool
  | .powerOn | .resetNAssert | .resetNRelease | .freezeActive | .freezeInactive => true
  | .irqLineRise _ | .irqLineFall _ => true
  | .frameCrcFailure _ => true
  | .malformedFrame content => decide (content.length ≤ 255) && isMalformed content
  | .hostDataFrameNotTaken _ _ _ body => bodyFits body
  | .hostAckFrame _ extra | .rateChange _ extra | .hostNak _ extra | .hostInit _ extra =>
    extraFits extra
  | .fullResetCarriedOut (.acknowledged _ extra) => extraFits extra
  | .fullResetCarriedOut (.hostInit _ extra) => extraFits extra
  | .fullResetCarriedOut .exhausted => true
  | .replayTimerExpiry | .beaconTimerExpiry | .frameTransmitEnd => true
  | .unknownKind _ kind _ body => bodyFits body && (RequestKind.ofCode kind).isNone
  | .resetFlush _ _ body => bodyFits body && decide (body ≠ [scopeFull])
  | .resetFull _ _ body => decide (body = [scopeFull])
  | .read _ _ body | .write _ _ body | .post _ _ body | .modify _ _ body | .fence _ _ body
  | .identify _ _ body | .statusGet _ _ body | .configSet _ _ body | .configGet _ _ body
  | .linkRate _ _ body | .windowSet _ _ body | .windowGet _ _ body
  | .portSet _ _ body | .portGet _ _ body | .portHold _ _ body | .portRelease _ _ body
  | .abort _ _ body | .jobLoad _ _ body | .jobStart _ _ body | .jobPause _ _ body
  | .jobResume _ _ body | .jobStop _ _ body | .jobGet _ _ body | .irqSet _ _ body
  | .irqMask _ _ body | .irqDone _ _ body | .irqGet _ _ body | .faultGet _ _ body
  | .faultClear _ _ body => bodyFits body
  | .portStart _ | .responseLimitExpiry _ | .holdOffExpiry _ | .completionTimerExpiry _ => true
  | .targetAnswer _ (.accept data) => decide (data.length ≤ 64)
  | .targetAnswer _ .error | .targetAnswer _ .retry => true

end Sys2Proof
end

