-- ==== Sys2Proof/Safety.lean ====
section
/-!
DEFINITION. What claims about the LB440 are stated with: the situations in which a frame of the host is
taken and what its taking alone changes, the values that a reset leaves, and the laws of the part that
every step keeps.
-/

namespace Sys2Proof.Safety

open Sys2Proof.Machine

/-! ## Taking a frame of the host (09 R157 to R161) -/

/-- The part is out of reset, a session is open and the receiver hunts with no byte waiting: a frame
that the host now sends is judged as a whole (09 R157, R158). -/
def Listening (s : State) : Prop :=
  s.pins.resetLow = false ∧ s.link.up = true ∧ s.link.rx = []

/-- The acknowledgement value of a frame names no frame of the replay list, so it acknowledges nothing
(09 R159). -/
def AcksNothing (f : FrameHead) (s : State) : Prop := ∀ e ∈ s.link.replay, e.seq ≠ f.ack

/-- A frame that the part is listening for, with the expected number, acknowledging nothing
(09 R160). -/
def Expected (f : FrameHead) (s : State) : Prop :=
  Listening s ∧ f.seq = s.link.expected ∧ AcksNothing f s

/-- The direct reply list has a free place (08 R150, 09 R161). -/
def Room (s : State) : Prop := s.direct.length < 4

/-- What taking a frame changes by itself: the expected number rises by one, modulo 64, and an
acknowledgement is owed (09 R161). -/
def took (s : State) : State :=
  { s with link := { s.link with expected := s.link.expected + 1, ackOwed := true } }

/-- The bytes of a REPLY: kind 0x80, the request id most significant byte first, the answered kind, the
status code, the fields (08 R152). -/
def replyMessage (id : Half) (kind status : Byte) (fields : List Byte) : Message :=
  ⟨[0x80, id.extractLsb' 8 8, id.extractLsb' 0 8, kind, status] ++ fields, .reply⟩

/-- The state with a REPLY at the tail of the direct reply list (08 R150). -/
def answer (s : State) (id : Half) (kind status : Byte) (fields : List Byte) : State :=
  { s with direct := s.direct ++ [replyMessage id kind status fields] }

/-- A command that is a DATA frame of the host with this header and message: a request, a message of an
unknown kind, or the row HOST_DATA_FRAME_NOT_TAKEN (08 R144, 09 R158). -/
def DataCommand (c : Instr) (f : FrameHead) (kind : Byte) (id : Half) (body : List Byte) : Prop :=
  c = .hostDataFrameNotTaken f kind id body
    ∨ (∃ k : RequestKind, kind = k.code ∧ c = requestInstr k f id body)
    ∨ (RequestKind.ofCode kind = none ∧ c = .unknownKind f kind id body)

/-- A command by which the supply or an input pin acts on the part. -/
def isPinCommand : Instr → Bool
  | .powerOn | .resetNAssert | .resetNRelease | .freezeActive | .freezeInactive
  | .irqLineRise _ | .irqLineFall _ => true
  | _ => false

/-! ## Faults (07 R130) -/

/-- The fault unit of `s` once it has taken a reported fault. -/
def faulted (s : State) (k : FaultKind) (d : FaultDetail) : FaultUnit :=
  s.faults.take s.settings.recordMode s.link.epoch k d

/-! ## Acknowledged frames (09 R159 step 3) -/

/-- The acknowledgement of one frame reported to what it carried: a notice in SENT is settled or renewed
by its holder's rule (04 R79, 05 R105, 06 R117, 07 R131), the REPLY to a LINK-RATE changes the rate
(09 R172), any other REPLY means nothing further (09 R159 step 3). -/
def reported (s : State) (e : Sent) : State :=
  let settles := fun renewal : Bool => if renewal = true then NoticeState.due else .settled
  match e.message.carries with
  | .reply | .fullReply | .flushReply => s
  | .rateReply r => { s with link := { s.link with rate := r } }
  | .faultNotice =>
    if s.faults.notice = .sent then
      { s with faults := { s.faults with notice := settles s.faults.renewal, renewal := false } }
    else s
  | .portNotice p =>
    let x := s.ports.get p
    if x.notice = .sent then
      { s with ports := s.ports.set p { x with notice := settles x.renewal, renewal := false } }
    else s
  | .jobNotice j =>
    let x := s.jobs.get j
    if x.notice = .sent then
      { s with jobs := s.jobs.set j { x with notice := settles x.latest.isSome, sent := none } }
    else s
  | .irqNotice i =>
    let x := s.sources.get i
    if x.state = .sent ∧ x.noticeSeq = some e.seq then
      { s with
        sources := s.sources.set i { x with state := .notified, sentCount := none, noticeSeq := none } }
    else s

/-! ## Outcomes of a transaction (04 R64, R65) -/

/-- A command by which the transaction in progress on port `p` ends: the target's answer, or the response
limit. -/
def EndsTxn (p : Fin 4) (c : Instr) : Prop :=
  c = .responseLimitExpiry p ∨ ∃ r, c = .targetAnswer p r

/-- The target performed the access (04 R64). -/
def endsOk : Instr → Bool
  | .targetAnswer _ (.accept _) => true
  | _ => false

/-- The status of an outcome that is not OK and is not repeated (04 R64, R65). -/
def failure : Instr → Status
  | .targetAnswer _ .error => .busError
  | .targetAnswer _ .retry => .retryExhausted
  | _ => .noResponse

/-- The port repeats the outcome: a RETRY, or silence where the item is not volatile, while the item's
retries used are below the captured limit (04 R65). -/
def Repeated (c : Instr) (q : Txn) (isVolatile : Bool) (retries : Nat) : Prop :=
  retries < q.retryLimit.toNat
    ∧ ((∃ p, c = .targetAnswer p .retry) ∨ ((∃ p, c = .responseLimitExpiry p) ∧ isVolatile = false))

/-! ## Frames of the part (08 R142, 09 R163, R164, R167) -/

/-- A frame of the part as it goes to the line: its header with the credit snapshot of that moment, its
body, and LEN + 4 byte times of 80 quarters of a microsecond at rate code 0, half of that at each
further code. -/
def onLine (s : State) (ftype : Byte) (seq ack : Seq) (body : List Byte) : Option OnLine :=
  some ⟨wireFrame ([ftype, seq.zeroExtend 8, ack.zeroExtend 8,
      BitVec.ofNat 8 (s.pool.rows.countP Option.isNone),
      BitVec.ofNat 8 (s.tags.rows.countP fun x => x.state == .free)] ++ body),
    (body.length + 9) * (80 / 2 ^ s.link.rate.val)⟩

/-- A new DATA frame of a class is sent: the next send number, the tail of the replay list, the replay
timer of an empty list, the line (09 R166). -/
def sentData (s : State) (c : OutClass) (m : Message) : State :=
  { s with link :=
    { s.link with
      nextSend := s.link.nextSend + 1
      lastClass := c
      replay := s.link.replay ++ [⟨s.link.nextSend, m, false⟩]
      replayTimer := if s.link.replay = [] then
          some ⟨4000 * s.settings.replayTimeout.toNat, s.settings.replayTimeout⟩
        else s.link.replayTimer
      ackOwed := false
      tx := onLine s 1 s.link.nextSend (s.link.expected - 1) m.bytes } }

/-- The link is UP with nothing to send that goes before a new DATA frame (09 R163). -/
def LineForData (s : State) : Prop :=
  s.pins.resetLow = false ∧ s.link.up = true ∧ s.link.readyOwed = false ∧ s.link.control = .none
    ∧ (∀ e ∈ s.link.replay, e.resend = false)

/-- Source `i` is DUE and offers its IRQ-NOTICE (06 R115): that of a cycle which a FLUSH let a LEVEL
source start follows the REPLY to the FLUSH (06 R125, log entry 21). -/
def IrqOffered (s : State) (i : Fin 32) : Prop :=
  (s.sources.get i).state = .due
    ∧ ((s.sources.get i).behindFlush = true → ∀ m ∈ s.direct, m.carries ≠ .flushReply)

/-- The notice class has nothing to send (09 R166). -/
def NoNoticeDue (s : State) : Prop :=
  s.faults.notice ≠ .due ∧ (∀ p, (s.ports.get p).notice ≠ .due) ∧ (∀ j, (s.jobs.get j).notice ≠ .due)
    ∧ (∀ i, ¬IrqOffered s i)

/-- A flag of a flag byte: its weight when set (08 R152, R154). -/
def weight (b : Bool) (n : Nat) : Nat := if b = true then n else 0

/-- The REPLY of a READY entry (03 R47, 08 R152): READ with its count, and with its data only when the
status is OK, WRITE with no field, MODIFY with the old and the new value, 0 when absent, FENCE with the
covered and the failed count. -/
def readyReply (x : Tag) : Message :=
  match x.kind with
  | .read => replyMessage x.id 0x10 x.status.code
      (BitVec.ofNat 8 (match x.access with
        | some a => a.count
        | none => 0) :: (if x.status = .ok then x.data else []))
  | .write => replyMessage x.id 0x11 x.status.code []
  | .modify => replyMessage x.id 0x13 x.status.code (match x.oldNew with
      | some v => be32 v.1 ++ be32 v.2
      | none => List.replicate 8 0)
  | .fence => replyMessage x.id 0x14 x.status.code [BitVec.ofNat 8 x.covered, BitVec.ofNat 8 x.failed]

/-- The code of a fault kind (08 R154). -/
def faultKindCode : FaultKind → Byte
  | .postedFailed => 1 | .postRefused => 2 | .creditOverrun => 3 | .guardMiss => 4 | .jobFailed => 5
  | .irqFetchFailed => 6 | .irqAckFailed => 7 | .linkDown => 8 | .accessFailed => 9

/-- An index as a byte, 0 when absent (08 R152). -/
def indexOr0 {n : Nat} : Option (Fin n) → Byte
  | some i => BitVec.ofNat 8 i.val
  | none => 0

/-- The fault record block, 18 bytes: kind, status, field presence, port, request id, job slot, source,
local address, host address, epoch, more count; an absent field is 0, an empty record 18 bytes of 0
(08 R152). -/
def recordBytes : Option FaultRecord → List Byte
  | none => List.replicate 18 0
  | some ⟨k, d, epoch, more⟩ =>
    [faultKindCode k, d.status.code,
      BitVec.ofNat 8 (weight d.port.isSome 1 + weight d.id.isSome 2 + weight d.slot.isSome 4
        + weight d.source.isSome 8 + weight d.localAddr.isSome 16 + weight d.hostAddr.isSome 32),
      indexOr0 d.port]
    ++ be16 (d.id.getD 0) ++ [indexOr0 d.slot, indexOr0 d.source]
    ++ be32 (d.localAddr.getD 0) ++ be32 (d.hostAddr.getD 0) ++ [epoch, more]

/-- The summary set as a 16-bit value: bit k is set when the kind with code k + 1 is in it (08 R152). -/
def summaryWord (t : Table Bool 9) : Half :=
  BitVec.ofNat 16 ((Table.indices 9).map fun k => weight (t.get k) (2 ^ k.val)).sum

/-- The body of a JOB-NOTICE, 17 bytes: slot, end state, bytes done, CRC, failure presence, failure
status, failure local address, overwritten count; an absent value is 0 (08 R153). -/
def jobEndBytes (j : Fin 4) (c : JobContent) (overwritten : Byte) : List Byte :=
  [BitVec.ofNat 8 j.val, c.endState.code] ++ be32 (BitVec.ofNat 32 c.bytesDone) ++ be32 c.crc
    ++ [BitVec.ofNat 8 (weight c.failStatus.isSome 1 + weight c.failAddr.isSome 2),
      match c.failStatus with
      | some st => st.code
      | none => 0]
    ++ be32 (c.failAddr.getD 0) ++ [overwritten]

/-! ## Events that are due (03 R50, 04 R64, R65, R70, 09 R157, R163, R168, R169) -/

/-- A tag's completion timer counts: in ACTIVE and WAITING, and in QUEUED while its port has no hold
reason (03 R50). -/
def Counts (s : State) (x : Tag) : Prop :=
  x.state = .active ∨ x.state = .waiting
    ∨ (x.state = .queued ∧
        ∀ a, x.access = some a → (s.ports.get a.port).holds = ⟨false, false, false⟩)

/-- The arbiter of port `p` has an item that it may start (04 R70): the lock continuation, once its
hold-off is over, or, on an IDLE port, an interrupt operation or an offered chunk not in hold-off, the
host candidate, the pending fill. -/
def MayStart (s : State) (p : Fin 4) : Prop :=
  let x := s.ports.get p
  x.txn = none ∧
    ((∃ l, x.lock = some l ∧ (s.tags.get l.tag).holdOff = none)
      ∨ (x.lock = none ∧ x.holds = ⟨false, false, false⟩ ∧
        ((∃ op ∈ x.opQueue, op.holdOff = none) ∨ candidate p s ≠ none
          ∨ (∃ j o, x.offers.get j = some o ∧ o.holdOff = none) ∨ x.pendingFill ≠ none)))

/-- While UP, something waits for the line (09 R163, R166). -/
def WaitsForLine (s : State) : Prop :=
  s.link.up = true ∧
    (s.link.readyOwed = true ∨ s.link.control ≠ .none ∨ (∃ e ∈ s.link.replay, e.resend = true)
      ∨ (s.link.replay.length < 8 ∧ (s.direct ≠ [] ∨ s.ready ≠ [] ∨ ¬NoNoticeDue s))
      ∨ s.link.ackOwed = true)

/-- An event is due now, the part being out of reset: a start that a port may make; a frame that ends on
HTX, or a free line with something to send; a timer that runs and stands at 0; a frame that stands whole
in the receive bytes, judged by its CRC. Nothing else is due. -/
def Due (s : State) : Instr → Prop
  | .portStart p => MayStart s p
  | .frameTransmitEnd =>
    (∃ x, s.link.tx = some x ∧ x.timeLeft = 0) ∨ (s.link.tx = none ∧ WaitsForLine s)
  | .beaconTimerExpiry => s.link.up = false ∧ s.link.beacon = some 0 ∧ s.link.tx = none
  | .replayTimerExpiry => ∃ r, s.link.replayTimer = some r ∧ r.timeLeft = 0
  | .responseLimitExpiry p => ∃ q, (s.ports.get p).txn = some q ∧ q.timeLeft = 0
  | .completionTimerExpiry k => Counts s (s.tags.get k) ∧ (s.tags.get k).timeLeft = 0
  | .holdOffExpiry (.request k) => (s.tags.get k).holdOff = some 0
  | .holdOffExpiry (.posted k) => ∃ x, s.pool.get k = some x ∧ x.holdOff = some 0
  | .holdOffExpiry (.chunk j) => ∃ p o, (s.ports.get p).offers.get j = some o ∧ o.holdOff = some 0
  | .holdOffExpiry (.operation i) =>
    ∃ op ∈ (s.ports.get ⟨i.val / 8, by omega⟩).opQueue, op.source = i ∧ op.holdOff = some 0
  | .frameCrcFailure hrx => hrx = [] ∧ ∃ (len : Byte) (content crc after : List Byte),
      hunt s.link.rx = 0xC3 :: len :: content ++ crc ++ after ∧ content.length = len.toNat
        ∧ crc.length = 2 ∧ crc ≠ be16 (crc16 (len :: content))
  | e => ∃ content after : List Byte, content.length ≤ 255
      ∧ hunt s.link.rx = wireFrame content ++ after ∧ e = decodeHostFrame content

/-! ## Admission (02 R18) -/

/-- Check 1 of admission fails: a 1-, 2- or 4-byte access is not aligned to its size; a burst does not
start on a multiple of 4, or its host bytes, or on a hit its local bytes, do not lie in one 64-byte
block (02 R18, 01 R6). -/
def Misplaced (a : Word) (n : Nat) (hit : Option Hit) : Prop :=
  if n ≤ 4 then a.toNat % n ≠ 0
  else a.toNat % 4 ≠ 0 ∨ 64 < a.toNat % 64 + n
    ∨ ∃ h, hit = some h ∧ 64 < h.localAddr.toNat % 64 + n

/-- A live entry holds the request id (02 R18 check 4). -/
def IdInUse (s : State) (id : Half) : Prop :=
  ∃ t, ((s.tags.get t).state = .queued ∨ (s.tags.get t).state = .active
    ∨ (s.tags.get t).state = .waiting ∨ (s.tags.get t).state = .ready) ∧ (s.tags.get t).id = id

/-- The FREE entry with the lowest index (03 R40). -/
def LowestFree (s : State) (t : Fin 32) : Prop :=
  (s.tags.get t).state = .free ∧ ∀ u, u < t → (s.tags.get u).state ≠ .free

/-! ## The host candidate (02 R28, R29) -/

/-- An entry of a request list waits out a hold-off (02 R25). -/
def HeldOff (s : State) : Entry → Prop
  | .tag k => (s.tags.get k).holdOff.isSome = true
  | .post k => ∃ x, s.pool.get k = some x ∧ x.holdOff.isSome = true

/-- No FENCE in WAITING was admitted before the entry (02 R29). -/
def Unbarred (s : State) (e : Entry) : Prop :=
  ∀ t, (s.tags.get t).state = .waiting → placeOf s e ≤ (s.tags.get t).place

/-- The entry is the provisional choice of port `p`: it is its candidate, unless it is barred, and the
port then has none (02 R28). -/
def Provisional (s : State) (p : Fin 4) (e : Entry) : Prop :=
  (Unbarred s e → candidate p s = some e) ∧ (¬Unbarred s e → candidate p s = none)

/-! ## Ports (04 R61, R79) -/

/-- A port changed from `x` to `y`, with the PORT-NOTICE called for when it enters or leaves HELD. -/
def noticed (x y : Port) : Port :=
  if x.state = .held ↔ y.state = .held then y
  else
    match y.notice with
    | .settled => { y with notice := .due }
    | .due => y
    | .sent => { y with renewal := true }

/-- A port whose hold set becomes `h`. -/
def withHolds (x : Port) (h : HoldSet) : Port := noticed x { x with holds := h }

/-- A port whose transaction has ended, with the lock that remains. -/
def ended (x : Port) (lock : Option Lock) : Port := noticed x { x with txn := none, lock := lock }

/-- A port that presents a transaction, with its limits captured (04 R62, R63). -/
def presents (x : Port) (i : Initiator) (isWrite : Bool) (a : Word) (size : Nat) (data : List Byte)
    (lockQualifier : Bool) : Port :=
  { x with txn := some ⟨i, isWrite, a, size, data, lockQualifier, x.settings.responseLimit,
      x.settings.retryLimit, x.settings.retryDelay, 4 * x.settings.responseLimit.toNat⟩ }

/-- The read-ahead state of a port is discarded (01 R11). -/
def lineDropped (x : Port) : Port :=
  { x with lineValid := false, pendingFill := none
           voidMark := if x.txn.map Txn.initiator = some .fill then true else x.voidMark }

/-- The discard test at the end of a write at a local address (04 R83). -/
def writeSeen (x : Port) (a : Word) : Port :=
  if x.lineValid = true ∧ a.toNat / 64 * 64 = x.lineAddr.toNat then { x with lineValid := false } else x

/-! ## Interrupt sources (06 R112) -/

/-- A source asks for service: its line high for LEVEL, its edge latch set for EDGE. -/
abbrev Asks (s : State) (i : Fin 32) : Prop :=
  ((s.sources.get i).trigger = .level ∧ s.pins.lines.get i = true)
    ∨ ((s.sources.get i).trigger = .edge ∧ (s.sources.get i).latch = true)

/-- The concentrator asks port i / 8 for a vector read or an acknowledge write of source `i`, which
joins the tail of the port's queue, and goes on with the source record `x` (04 R72, 06 R114, R119). -/
def asked (s : State) (i : Fin 32) (x : Source) (isWrite : Bool) (a : Word) (size : Nat)
    (value : Word) : State :=
  let p : Fin 4 := ⟨i.val / 8, by omega⟩
  { s with
    sources := s.sources.set i { x with inFlight := true }
    ports := s.ports.set p { s.ports.get p with
      opQueue := (s.ports.get p).opQueue ++ [⟨i, isWrite, a, size, value, 0, none, s.nextPlace, false⟩] }
    nextPlace := s.nextPlace + 1 }

/-- An unmasked cycle of source `i`, whose record is `x`, goes on to FETCHING or DUE (06 R112, R121). -/
def cycleGoesOn (s : State) (i : Fin 32) (x : Source) : State :=
  match x.vectorRead with
  | some v => asked s i { x with state := .fetching } false v.localAddr v.size 0
  | none => { s with sources := s.sources.set i { x with state := .due, vecStatus := none, vecValue := 0 } }

/-- Source `i` starts a cycle: its latch is cleared, and it goes to PENDING, FETCHING or DUE (06 R112). -/
def cycleStarted (s : State) (i : Fin 32) : State :=
  let x := { s.sources.get i with latch := false, behindFlush := false }
  if x.masked = true then { s with sources := s.sources.set i { x with state := .pending } }
  else cycleGoesOn s i x

/-- Source `i` starts a cycle as it is judged once a FLUSH has been taken: the cycle of a LEVEL source is
marked, for its notice follows the REPLY to the FLUSH (06 R125, log entry 21). -/
def cycleAfterFlush (s : State) (i : Fin 32) : State :=
  let t := cycleStarted s i
  if (s.sources.get i).trigger = .level then
    { t with sources := t.sources.set i { t.sources.get i with behindFlush := true } }
  else t

/-- Source `i` starts a cycle when it is judged (06 R112). -/
def Ripe (s : State) (i : Fin 32) : Prop :=
  (s.sources.get i).state = .idle ∧ (s.sources.get i).enabled = true ∧ Asks s i
    ∧ (s.sources.get i).inFlight = false

/-! ## A link down (09 R171) -/

/-- What a link down with a cause does to every block but the host link (02 R36, 03 R58, 04 R79, R87,
05 R105, R108, 06 R124, 07 R134, 08 R151). -/
structure WentDown (cause : Status) (s t : State) : Prop where
  faults : t.faults =
    { faulted s .linkDown ⟨cause, none, none, none, none, none, none⟩ with
      notice := .due, renewal := false }
  direct : t.direct = []
  lists : ∀ p, t.lists.get p = (s.lists.get p).filter Entry.isPost
  pool : ∀ k, t.pool.get k = (s.pool.get k).map fun x => { x with covering := [] }
  ready : t.ready = []
  tags : ∀ k, t.tags.get k =
    match (s.tags.get k).state, (s.tags.get k).busPending with
    | .active, _ => { s.tags.get k with state := .discarding, busPending := true }
    | .ready, true => { s.tags.get k with state := .discarding }
    | .discarding, _ => s.tags.get k
    | _, _ => Tag.zero
  ports : ∀ p, t.ports.get p =
    if (s.ports.get p).notice = .sent then
      { s.ports.get p with notice := .due, renewal := false }
    else s.ports.get p
  jobs : ∀ j, t.jobs.get j =
    if (s.jobs.get j).notice = .sent then
      if (s.jobs.get j).latest.isSome then
        { s.jobs.get j with
          notice := .due, sent := none, overwritten := satInc (s.jobs.get j).overwritten }
      else { s.jobs.get j with notice := .due, latest := (s.jobs.get j).sent, sent := none }
    else s.jobs.get j
  sources : ∀ i, t.sources.get i =
    if (s.sources.get i).state = .sent then
      { s.sources.get i with
        state := .due
        coalesced := BitVec.ofNat 8 (min 255 (((s.sources.get i).sentCount.getD 0).toNat
          + (s.sources.get i).coalesced.toNat))
        sentCount := none, noticeSeq := none }
    else s.sources.get i
  kept : t.pins = s.pins ∧ t.settings = s.settings ∧ t.windows = s.windows
    ∧ t.nextPlace = s.nextPlace ∧ t.freeDraws = s.freeDraws ∧ t.pending = s.pending

/-- The host link after a link down, its new state aside (09 R171 steps 2 to 4). -/
def downLink (l : Link) : Link :=
  { l with
    counters := { l.counters with linkDowns := satInc l.counters.linkDowns }
    replay := [], replayTimer := none, expiryCount := 0, ackOwed := false, control := .none
    readyOwed := false, up := false }

/-- The host link when a session opens (09 R169). -/
def openedLink (l : Link) : Link :=
  { l with
    epoch := l.epoch + 1, nextSend := 0, expected := 0, ackOwed := false, control := .none
    expiryCount := 0, lastClass := .notice, beacon := none, up := true, readyOwed := true }

/-! ## The values that a reset leaves -/

/-- A port right after a reset (04 R88). -/
def PortReset (freeze : Bool) (x : Port) : Prop :=
  x.settings = ⟨16, 3, 8, 100, 4⟩ ∧ x.holds = ⟨false, freeze, false⟩ ∧ x.txn = none ∧ x.lock = none
    ∧ x.state = (if freeze then .held else .idle) ∧ x.opQueue = [] ∧ (∀ j, x.offers.get j = none)
    ∧ x.lastSlot = 3 ∧ x.shareCount = 0 ∧ x.lineValid = false ∧ x.lineAddr = 0
    ∧ x.pendingFill = none ∧ x.voidMark = false ∧ x.notice = (if freeze then .due else .settled)
    ∧ x.renewal = false

/-- A job slot right after a reset (05 R109). -/
def SlotReset (x : JobSlot) : Prop :=
  x.state = .empty ∧ x.active = none ∧ x.staged = none ∧ x.run = none ∧ x.chunk = none
    ∧ x.bytesDone = 0 ∧ x.bytesLeft = 0 ∧ x.crc = 0xFFFFFFFF#32 ∧ x.failStatus = none
    ∧ x.failAddr = none ∧ x.flushMark = false ∧ x.notice = .settled ∧ x.latest = none
    ∧ x.sent = none ∧ x.overwritten = 0

/-- A source right after a reset (06 R126). -/
def SourceReset (x : Source) : Prop :=
  x.state = .idle ∧ x.enabled = false ∧ x.trigger = .level ∧ x.priority = 0 ∧ x.masked = false
    ∧ x.vectorRead = none ∧ x.ackWrite = none ∧ x.latch = false ∧ x.coalesced = 0
    ∧ x.sentCount = none ∧ x.vecStatus = none ∧ x.vecValue = 0 ∧ x.ackStatus = none
    ∧ x.inFlight = false ∧ x.noticeSeq = none ∧ x.behindFlush = false

/-- The fault unit right after a reset (07 R134). -/
def FaultUnitReset (u : FaultUnit) : Prop :=
  u.record = none ∧ (∀ k, u.summary.get k = false) ∧ (∀ k, u.counters.get k = 0)
    ∧ u.notice = .settled ∧ u.renewal = false

/-- The host link right after a reset (09 R174). -/
def LinkReset (l : Link) : Prop :=
  l.up = false ∧ l.beacon = some 0 ∧ l.rate = 1 ∧ l.epoch = 0 ∧ l.nextSend = 0 ∧ l.expected = 0
    ∧ l.ackOwed = false ∧ l.readyOwed = false ∧ l.control = .none ∧ l.replay = []
    ∧ l.replayTimer = none ∧ l.expiryCount = 0 ∧ l.lastClass = .notice
    ∧ l.counters = ⟨0, 0, 0, 0, 0, 0, 0, 0⟩ ∧ l.rx = []

/-- The whole part right after it has left a reset with the given cause, the FREEZE pin as it stands
(01 R16, 02 R37, 03 R59, 04 R88, 05 R109, 06 R126, 07 R134, R137, R141, 08 R151, 09 R174). -/
structure AtReset (cause : ResetCause) (t : State) : Prop where
  windows : ∀ i, t.windows.get i = ⟨false, 0, 0, 0, 0, false, false, false, false⟩
  pool : ∀ k, t.pool.get k = none
  lists : ∀ p, t.lists.get p = []
  tags : ∀ k, t.tags.get k = Tag.zero
  ready : t.ready = []
  ports : ∀ p, PortReset t.pins.freeze (t.ports.get p)
  jobs : ∀ j, SlotReset (t.jobs.get j)
  sources : ∀ i, SourceReset (t.sources.get i)
  faults : FaultUnitReset t.faults
  direct : t.direct = []
  link : LinkReset t.link
  settings : t.settings.missPolicy = .reply ∧ t.settings.recordMode = .all
    ∧ t.settings.replayTimeout = 20 ∧ t.settings.resetCause = cause
    ∧ t.settings.fullWaiting = false ∧ t.settings.coldStart = false

/-- The part held in reset by RESET_N: every block at its reset values, no timer running, the line idle
(07 R140); `cold` says that the supply came up with the pin low, so that the cause will be POWER
(07 R141). -/
def HeldInReset (cold : Bool) (t : State) : Prop :=
  AtReset t.settings.resetCause { t with
      link := { t.link with beacon := some 0 }, settings := { t.settings with coldStart := false } }
    ∧ t.settings.coldStart = cold ∧ t.link.beacon = none ∧ t.link.tx = none

/-! ## The laws of the part -/

/-- A host address lies in the host range of a record: from the host base to the host base plus 2^n
minus 1 (01 R1). -/
def InRange (w : Window) (a : Word) : Prop :=
  w.hostBase.toNat ≤ a.toNat ∧ a.toNat < w.hostBase.toNat + 2 ^ w.sizeCode.val

/-- Every enabled record is consistent (01 R1, R3, R8), and no two enabled windows overlap in host
address space (01 R9). -/
structure WindowLaw (t : Table Window 16) : Prop where
  size : ∀ i, (t.get i).enabled = true → 12 ≤ (t.get i).sizeCode.val
  aligned : ∀ i, (t.get i).enabled = true →
    (t.get i).hostBase.toNat % 2 ^ (t.get i).sizeCode.val = 0 ∧ (t.get i).localBase.toNat % 4 = 0
  attributes : ∀ i, (t.get i).enabled = true →
    ¬((t.get i).prefetchable = true ∧ (t.get i).isVolatile = true)
  disjoint : ∀ i j, i ≠ j → (t.get i).enabled = true → (t.get j).enabled = true →
    ∀ a, ¬(InRange (t.get i) a ∧ InRange (t.get j) a)

/-- How often an entry stands in the request lists. -/
def listUses (s : State) (e : Entry) : Nat :=
  ((Table.indices 4).map fun p => (s.lists.get p).count e).sum

/-- The ready list holds exactly the READY entries, each once (03 R45); the request lists hold exactly
the QUEUED ones, each once (03 R39, 02 R25); no two live entries hold the same request id (03 R41). -/
structure TagLaw (s : State) : Prop where
  ready_nodup : s.ready.Nodup
  ready_iff : ∀ t, t ∈ s.ready ↔ (s.tags.get t).state = .ready
  queued_iff : ∀ t, (s.tags.get t).state = .queued ↔ ∃ p, Entry.tag t ∈ s.lists.get p
  queued_once : ∀ t, listUses s (.tag t) ≤ 1
  ids : ∀ t u, (s.tags.get t).live = true → (s.tags.get u).live = true →
    (s.tags.get t).id = (s.tags.get u).id → t = u

/-- How often posted slot `k` stands in a request list or is on a port. -/
def postUses (s : State) (k : Fin 32) : Nat :=
  ((Table.indices 4).map fun p =>
    (s.lists.get p).count (Entry.post k)
      + (if (s.ports.get p).txn.map Txn.initiator = some (.post k) then 1 else 0)).sum

/-- A posted slot is held exactly while its POST is queued once or on one port (02 R23). -/
def PostLaw (s : State) : Prop :=
  ∀ k, postUses s k = if (s.pool.get k).isSome then 1 else 0

/-- Arrival order (02 R17, R25): the entries of a request list stand in it in the order of their places,
which rise strictly; the places of the entries in use and of the held slots are all different, and lie
below the next one. (Places are the model's: log entry 12.) -/
structure OrderLaw (s : State) : Prop where
  lists : ∀ p, (s.lists.get p).Pairwise fun a b => placeOf s a < placeOf s b
  tag_lt : ∀ t, (s.tags.get t).state ≠ .free → (s.tags.get t).place < s.nextPlace
  post_lt : ∀ k x, s.pool.get k = some x → x.place < s.nextPlace
  tags : ∀ t u, (s.tags.get t).state ≠ .free → (s.tags.get u).state ≠ .free →
    (s.tags.get t).place = (s.tags.get u).place → t = u
  posts : ∀ k l x y, s.pool.get k = some x → s.pool.get l = some y → x.place = y.place → k = l
  apart : ∀ t k x, (s.tags.get t).state ≠ .free → s.pool.get k = some x →
    (s.tags.get t).place ≠ x.place

/-- How many held posts a FENCE still covers. -/
def coveredBy (s : State) (t : Fin 32) : Nat :=
  s.pool.rows.countP fun r => match r with
    | some x => x.covering.contains t
    | none => false

/-- The counts of the FENCEs (02 R31, R32): a held POST is covered by FENCEs in WAITING alone, each once,
the one admitted earliest first; a FENCE in WAITING has as many outstanding ends as held POSTs that it
covers, at least one, and its failed and outstanding ends are no more than it covered. -/
structure FenceLaw (s : State) : Prop where
  waiting : ∀ k x, s.pool.get k = some x → ∀ t ∈ x.covering, (s.tags.get t).state = .waiting
  ordered : ∀ k x, s.pool.get k = some x →
    x.covering.Pairwise fun t u => (s.tags.get t).place < (s.tags.get u).place
  outstanding : ∀ t, (s.tags.get t).state = .waiting →
    (s.tags.get t).outstanding = coveredBy s t ∧ 0 < (s.tags.get t).outstanding
  failed : ∀ t, (s.tags.get t).state = .waiting →
    (s.tags.get t).failed + (s.tags.get t).outstanding ≤ (s.tags.get t).covered

/-- The interrupt operation of source `i` that a port's transaction in progress carries, if it is one. -/
def runningOperation (i : Fin 32) (x : Port) : Option IrqOp :=
  match x.txn with
  | some t => match t.initiator with
    | .operation op => if op.source = i then some op else none
    | _ => none
  | none => none

/-- The interrupt operations of source `i` that the ports hold: queued or in progress (04 R72). -/
def operationsOf (s : State) (i : Fin 32) : List IrqOp :=
  (Table.indices 4).flatMap fun p =>
    (s.ports.get p).opQueue.filter (fun op => op.source = i)
      ++ (runningOperation i (s.ports.get p)).toList

/-- The law of the interrupt sources (06 R111, R117, 04 R72): a source has at most one operation at the
ports, on its own port, and operation in flight says whether it has one; FETCHING has a vector read and
ACKING an acknowledge write that no FLUSH has reached, IDLE at most one that a FLUSH has reached, the
other states none; a source outside IDLE is enabled, but for FETCHING; the latch of a LEVEL source is
clear (06 R112); SENT alone holds a sent count (06 R116). -/
structure SourceLaw (s : State) : Prop where
  one : ∀ i, (operationsOf s i).length = if (s.sources.get i).inFlight = true then 1 else 0
  home : ∀ i p, i.val / 8 ≠ p.val →
    (∀ op ∈ (s.ports.get p).opQueue, op.source ≠ i) ∧ runningOperation i (s.ports.get p) = none
  kind : ∀ i op, op ∈ operationsOf s i →
    ((s.sources.get i).state = .fetching ∧ op.isWrite = false ∧ op.flushed = false)
      ∨ ((s.sources.get i).state = .acking ∧ op.isWrite = true ∧ op.flushed = false)
      ∨ ((s.sources.get i).state = .idle ∧ op.flushed = true)
  asking : ∀ i, ((s.sources.get i).state = .fetching ∨ (s.sources.get i).state = .acking) →
    (s.sources.get i).inFlight = true
  enabled : ∀ i, (s.sources.get i).state ≠ .idle → (s.sources.get i).state ≠ .fetching →
    (s.sources.get i).enabled = true
  latch : ∀ i, (s.sources.get i).trigger = .level → (s.sources.get i).latch = false
  sent : ∀ i, (s.sources.get i).sentCount.isSome = true ↔ (s.sources.get i).state = .sent

/-- The host link's own law: at most four direct replies (08 R150); at most eight frames in the replay
list, with consecutive sequence numbers up to the one before the next send number (09 R166); the
replay timer runs exactly while the list is not empty and has not run out four times (09 R168); while
DOWN nothing of a session remains and the beacon timer runs (09 R169, R171); in reset the link is
DOWN and the line idle (07 R140). -/
structure LinkLaw (s : State) : Prop where
  direct_le : s.direct.length ≤ 4
  replay_le : s.link.replay.length ≤ 8
  consecutive : ∀ n (h : n < s.link.replay.length),
    s.link.replay[n].seq + BitVec.ofNat 6 (s.link.replay.length - n) = s.link.nextSend
  timer_iff : s.link.replayTimer.isSome = true ↔ s.link.replay ≠ []
  expiry_le : s.link.expiryCount ≤ 3
  down : s.link.up = false → s.link.replay = [] ∧ s.direct = [] ∧ s.link.ackOwed = false
    ∧ s.link.control = .none ∧ s.link.readyOwed = false
  beacon : s.pins.resetLow = false → (s.link.beacon.isSome = true ↔ s.link.up = false)
  inReset : s.pins.resetLow = true → s.link.up = false ∧ s.link.tx = none

/-- The chunk transaction of slot `j` that a port's transaction in progress carries, if it is one. -/
def runningChunk (j : Fin 4) (x : Port) : Option Offer :=
  match x.txn with
  | some t => match t.initiator with
    | .chunk k o => if k = j then some o else none
    | _ => none
  | none => none

/-- The chunk transactions of slot `j` that the ports hold: offered or in progress (04 R73). -/
def outstanding (s : State) (j : Fin 4) : List Offer :=
  (Table.indices 4).flatMap fun p =>
    ((s.ports.get p).offers.get j).toList ++ (runningChunk j (s.ports.get p)).toList

/-- The law of a job slot: bytes done plus bytes remaining is the active descriptor's length (05 R92);
the current chunk belongs to a started job and fits what remains (05 R96); the slot has at most one
transaction at the ports (05 R97), of its current chunk's length; PAUSED has no chunk (05 R90); a
flush mark is held in STOPPING (05 R107). -/
structure JobLaw (s : State) : Prop where
  progress : ∀ j d, (s.jobs.get j).active = some d →
    (s.jobs.get j).bytesDone + (s.jobs.get j).bytesLeft = d.length.toNat
  chunk : ∀ j c, (s.jobs.get j).chunk = some c →
    c.length ≤ (s.jobs.get j).bytesLeft ∧ (s.jobs.get j).state.isStarted = true
  paused : ∀ j, (s.jobs.get j).state = .paused → (s.jobs.get j).chunk = none
  flush : ∀ j, (s.jobs.get j).flushMark = true → (s.jobs.get j).state = .stopping
  one : ∀ j, (outstanding s j).length ≤ 1
  size : ∀ j o, o ∈ outstanding s j → ∃ c, (s.jobs.get j).chunk = some c ∧ c.length = o.size
  started : ∀ j p o, runningChunk j (s.ports.get p) = some o →
    ∃ c, (s.jobs.get j).chunk = some c ∧ c.started = true

/-- The law of the fault unit: a DUE FAULT-NOTICE belongs to a record that holds a fault, renewal is
owed only for a SENT one and a later capture (07 R131), and a captured kind is in the summary set
(07 R130). -/
structure FaultLaw (u : FaultUnit) : Prop where
  due : u.notice = .due → u.record.isSome = true
  renewal : u.renewal = true → u.notice = .sent ∧ u.record.isSome = true
  summary : ∀ r, u.record = some r → u.summary.get r.kind.index = true

end Sys2Proof.Safety
end

