-- ==== Sys2Proof/Certificates/Slice0/Obligations.lean ====
section
/-!
DEFINITION. The statements about the LB440 for the provers, in the order of OBLIGATIONS.json. A
statement that rests on a choice of the model names its log entry (notes/assumptions).
-/

open Sys2Proof Sys2Proof.Machine Sys2Proof.Safety

/-! ## The step and the queue (notes/assumptions/2.md) -/

/-- The command at the front of the queue acts on the state with the queue's rest (the model's choice,
log entry 2). -/
def Obligations.StepTakesTheFrontCommand : Prop :=
  ∀ (c : Instr) (rest : List Instr) (s : State),
    step { s with pending := c :: rest } = exec c { s with pending := rest }

/-- With no command waiting: one due event happens, of several some one, with none a quarter of a
microsecond passes, and in reset nothing changes. A quarter of a microsecond: the completion timers of
ACTIVE and WAITING entries count, and of QUEUED ones whose port has no hold reason; every hold-off
counts, the port held or not, and so do the response limits, the replay timer, the beacon timer and the
frame on HTX; nothing else changes. Out of reset the events that are due are these and no other: a start
that a port's arbiter may make, the end of the frame on HTX, the choice of a frame for a free line with
something to send, the end of a timer that runs and stands at 0, and the frame that stands whole in the
receive bytes, good or with a CRC that fails (Due). (The steps, their unit and the free choice are the
model's, log entries 1, 2 and 4; a frame found in the receive bytes is log entry 7, an INIT that waits
for the line entry 16, a write half's hold-off that stands in its tag in every state entry 23.) -/
def Obligations.EmptyQueueLetsTheBlockAct : Prop :=
  (∀ s : State, s.pending = [] →
    (s.pins.resetLow = true → step s = .next s)
      ∧ (dueEvents s = [] → step s = .next (tick s))
      ∧ (∀ e, dueEvents s = [e] → step s = exec e s)
      ∧ (1 < (dueEvents s).length →
          ∃ e ∈ dueEvents s, step s = exec e { s with freeDraws := s.freeDraws + 1 }))
  ∧ (∀ s : State, s.pins.resetLow = false →
      let t := tick s
      let less := fun x : Option Nat => x.map fun n => n - 1
      t = { s with
          tags := t.tags
          pool := s.pool.map fun r => r.map fun x => { x with holdOff := less x.holdOff }
          ports := s.ports.map fun x => { x with
            txn := x.txn.map fun q => { q with timeLeft := q.timeLeft - 1 }
            offers := x.offers.map fun o => o.map fun c => { c with holdOff := less c.holdOff }
            opQueue := x.opQueue.map fun op => { op with holdOff := less op.holdOff } }
          link := { s.link with
            replayTimer := s.link.replayTimer.map fun r => { r with timeLeft := r.timeLeft - 1 }
            beacon := less s.link.beacon
            tx := s.link.tx.map fun x => { x with timeLeft := x.timeLeft - 1 } } }
        ∧ (∀ k, let x := s.tags.get k
            (Counts s x →
              t.tags.get k = { x with timeLeft := x.timeLeft - 1, holdOff := less x.holdOff })
            ∧ (¬Counts s x → t.tags.get k = { x with holdOff := less x.holdOff })))
  ∧ (∀ s : State, s.pins.resetLow = false → ∀ e : Instr, e ∈ dueEvents s ↔ Due s e)

/-- Every command answers a next state in every state and leaves the waiting commands as they are. The
input pins change by the supply and the pins alone; the window table and the part-wide settings are
left alone by every port event, timer of a request, FREEZE and interrupt line change, choice of the
line, beacon expiry and frame that fails its CRC. -/
def Obligations.EveryCommandAnswersANextState : Prop :=
  ∀ (c : Instr) (s : State), ∃ t, exec c s = .next t ∧ t.pending = s.pending
    ∧ (isPinCommand c = false → t.pins = s.pins)
    ∧ ((c = .freezeActive ∨ c = .freezeInactive ∨ (∃ i, c = .irqLineRise i)
        ∨ (∃ i, c = .irqLineFall i) ∨ (∃ b, c = .frameCrcFailure b) ∨ c = .beaconTimerExpiry
        ∨ c = .frameTransmitEnd ∨ (∃ p, c = .portStart p) ∨ (∃ p a, c = .targetAnswer p a)
        ∨ (∃ p, c = .responseLimitExpiry p) ∨ (∃ x, c = .holdOffExpiry x)
        ∨ (∃ k, c = .completionTimerExpiry k)) →
      t.windows = s.windows ∧ t.settings = s.settings)

/-! ## Resets (07 R139 to R141) -/

/-- The reset state meets every law of Safety.lean. -/
def Obligations.ResetStateMeetsTheLaws : Prop :=
  WindowLaw State.reset.windows ∧ TagLaw State.reset ∧ PostLaw State.reset ∧ OrderLaw State.reset
    ∧ FenceLaw State.reset ∧ LinkLaw State.reset ∧ JobLaw State.reset ∧ SourceLaw State.reset
    ∧ FaultLaw State.reset.faults

/-- The supply and RESET_N: power-on leaves the reset values with cause POWER; a low pin holds the part
in reset; its release leaves the reset values with cause PIN, or POWER when the supply came up with the
pin low (coldStart, which an assertion of the pin and every reset value leave no). While RESET_N is low,
no frame, request, timer or port event has any effect, FREEZE changes its level alone, and an interrupt
line its level alone (what a command without its event does is the model's choice, log entry 15). -/
def Obligations.PowerOnAndResetPinLeaveResetValues : Prop :=
  (∀ s : State,
      (s.pins.resetLow = false →
        (∃ t, exec .powerOn s = .next t ∧ AtReset .power t ∧ t.link.tx = none ∧ t.pins = s.pins)
          ∧ (∃ t, exec .resetNAssert s = .next t ∧ HeldInReset false t
              ∧ t.pins = { s.pins with resetLow := true })
          ∧ exec .resetNRelease s = .next s)
        ∧ (s.pins.resetLow = true →
        (∃ t, exec .powerOn s = .next t ∧ HeldInReset true t ∧ t.pins = s.pins)
          ∧ (∃ t, exec .resetNRelease s = .next t
              ∧ AtReset (if s.settings.coldStart = true then .power else .pin) t ∧ t.link.tx = none
              ∧ t.pins = { s.pins with resetLow := false })
          ∧ exec .resetNAssert s = .next s))
  ∧ (∀ (c : Instr) (s : State), s.pins.resetLow = true →
      (isPinCommand c = false → exec c s = .next s)
        ∧ exec .freezeActive s = .next { s with pins := { s.pins with freeze := true } }
        ∧ exec .freezeInactive s = .next { s with pins := { s.pins with freeze := false } }
        ∧ (∀ i, exec (.irqLineRise i) s =
            .next { s with pins := { s.pins with lines := s.pins.lines.set i true } })
        ∧ (∀ i, exec (.irqLineFall i) s =
            .next { s with pins := { s.pins with lines := s.pins.lines.set i false } }))

/-- A waiting FULL reset is carried out, with cause SOFT, by the acknowledgement of the FULL REPLY's
frame, by an INIT from the host while UP, and by the fourth replay timer expiry. (That the row
is that event itself, with its operands, and that the timer runs out whatever time is left, are the
model's choices, log entries 7 and 3.) -/
def Obligations.FullResetIsCarriedOut : Prop :=
  ∀ (f : FrameHead) (extra : List Byte) (s : State),
    s.pins.resetLow = false → s.settings.fullWaiting = true →
    (Listening s → ∀ pre e post, s.link.replay = pre ++ e :: post → e.message.carries = .fullReply →
        (∀ x ∈ pre, x.seq ≠ f.ack) → (∃ x ∈ e :: post, x.seq = f.ack) →
        ∃ t, exec (.fullResetCarriedOut (.acknowledged f extra)) s = .next t ∧ AtReset .soft t
          ∧ t.pins = s.pins)
      ∧ (Listening s →
        ∃ t, exec (.fullResetCarriedOut (.hostInit f extra)) s = .next t ∧ AtReset .soft t
          ∧ t.pins = s.pins)
      ∧ (s.link.replayTimer.isSome = true → s.link.expiryCount = 3 →
        ∃ t, exec (.fullResetCarriedOut .exhausted) s = .next t ∧ AtReset .soft t
          ∧ t.pins = s.pins)

/-! ## Pins (04 R77, 06 R112, R113) -/

/-- FREEZE joins, or leaves, the hold set of every port with its pin. PORT-HOLD adds HOST, and
PORT-RELEASE removes HOST and GUARD, in the hold set of the port named, or of all four for 255. Each
port that enters or leaves HELD calls for its PORT-NOTICE; nothing else changes. -/
def Obligations.HoldReasonsJoinAndLeave : Prop :=
  (∀ s : State, s.pins.resetLow = false →
      (∃ ports', exec .freezeActive s =
          .next { s with pins := { s.pins with freeze := true }, ports := ports' }
        ∧ ∀ p, ports'.get p =
            withHolds (s.ports.get p) { (s.ports.get p).holds with freeze := true })
      ∧ (∃ ports', exec .freezeInactive s =
          .next { s with pins := { s.pins with freeze := false }, ports := ports' }
        ∧ ∀ p, ports'.get p =
            withHolds (s.ports.get p) { (s.ports.get p).holds with freeze := false }))
  ∧ (∀ (f : FrameHead) (id : Half) (b : Byte) (s : State), Expected f s → Room s →
      (b.toNat ≤ 3 ∨ b = 255) →
      let named := fun p : Fin 4 => b = 255 ∨ b.toNat = p.val
      (∃ ports', exec (.portHold f id [b]) s =
          .next (answer { took s with ports := ports' } id 0x3A 0 [b])
        ∧ ∀ p, (named p → ports'.get p =
              withHolds (s.ports.get p) { (s.ports.get p).holds with host := true })
            ∧ (¬named p → ports'.get p = s.ports.get p))
      ∧ (∃ ports', exec (.portRelease f id [b]) s =
          .next (answer { took s with ports := ports' } id 0x3B 0 [b])
        ∧ ∀ p, (named p → ports'.get p =
              withHolds (s.ports.get p) { (s.ports.get p).holds with host := false, guard := false })
            ∧ (¬named p → ports'.get p = s.ports.get p)))

/-- A line that rises: a disabled source does not see it; outside IDLE an EDGE source latches and counts
the edge, a LEVEL source does neither; an IDLE source starts a cycle, or, with an operation still in
flight, waits. A line that falls changes its level alone. Out of reset. (That a line which is high
already does not rise is the model's choice, log entry 15; the place of the operation is the model's,
entry 12.) -/
def Obligations.InterruptLineRisesAndFalls : Prop :=
  ∀ (i : Fin 32) (s : State), s.pins.resetLow = false →
    let x := s.sources.get i
    let high : State := { s with pins := { s.pins with lines := s.pins.lines.set i true } }
    let latched : State := { high with sources := s.sources.set i { x with latch := true } }
    exec (.irqLineFall i) s =
        .next { s with pins := { s.pins with lines := s.pins.lines.set i false } }
      ∧ (s.pins.lines.get i = true → exec (.irqLineRise i) s = .next s)
      ∧ (s.pins.lines.get i = false →
        (x.enabled = false → exec (.irqLineRise i) s = .next high)
        ∧ (x.enabled = true → x.state ≠ .idle → x.trigger = .level →
            exec (.irqLineRise i) s = .next high)
        ∧ (x.enabled = true → x.state ≠ .idle → x.trigger = .edge →
            exec (.irqLineRise i) s = .next { high with
              sources :=
              s.sources.set i { x with latch := true, coalesced := satInc x.coalesced } })
        ∧ (x.enabled = true → x.state = .idle → x.inFlight = true →
            exec (.irqLineRise i) s = .next (if x.trigger = .edge then latched else high))
        ∧ (x.enabled = true → x.state = .idle → x.inFlight = false →
            exec (.irqLineRise i) s = .next (cycleStarted high i)))

/-! ## Frames of the host (09 R157 to R162) -/

/-- A DATA frame that is not taken: discarded while DOWN; ahead of sequence, counted and a NAK owed unless
a WAIT is; a duplicate, counted and acknowledged; without a free direct reply place, a WAIT owed. The
acknowledgement value here names no frame. -/
def Obligations.DataFrameNotTaken : Prop :=
  ∀ (c : Instr) (f : FrameHead) (kind : Byte) (id : Half) (body : List Byte) (s : State),
    DataCommand c f kind id body → s.pins.resetLow = false → s.link.rx = [] →
    let d := (f.seq - s.link.expected).toNat
    (s.link.up = false → exec c s = .next s)
      ∧ (s.link.up = true → AcksNothing f s →
        (1 ≤ d → d ≤ 31 → exec c s = .next { s with
          link := { s.link with
            counters := { s.link.counters with outOfSequence := satInc s.link.counters.outOfSequence }
            control := match s.link.control with
              | .wait q => .wait q
              | _ => .nak } })
        ∧ (32 ≤ d → exec c s = .next { s with
          link := { s.link with
            counters := { s.link.counters with duplicates := satInc s.link.counters.duplicates }
            ackOwed := true } })
        ∧ (d = 0 → kind ≠ 0x12 → 4 ≤ s.direct.length →
            exec c s = .next { s with link := { s.link with control := .wait f.seq } }))

/-- The acknowledgement value of a DATA frame is taken before anything else of the frame, whatever its
SEQ: the frame does what an ACK frame with that value does, and then what it does in the state that
this leaves, a FULL reset carried out included. -/
def Obligations.AcknowledgementIsTakenFirst : Prop :=
  ∀ (c : Instr) (f : FrameHead) (kind : Byte) (id : Half) (body : List Byte) (s : State),
    DataCommand c f kind id body → LinkLaw s → s.pins.resetLow = false → s.link.rx = [] →
    ∃ t, exec (.hostAckFrame f []) s = .next t ∧ exec c s = exec c t

/-- An ACK frame, of the row HOST_ACK_FRAME or RATE_CHANGE. While DOWN, or naming no frame of the replay
list, it changes nothing. Naming one, it takes that frame and those before it from the list, and the
expiry count and the timer with them. A LINK-RATE REPLY's frame changes the rate, a notice's frame is
reported to its holder; of several frames that leave at once each is reported, in sequence order. (What
the two rows do, and how a source knows its frame, are the model's choices, log entries 7 and 10. What
the FULL REPLY's frame does while a FULL reset waits is another statement's, FullResetIsCarriedOut.) -/
def Obligations.AcknowledgementReportsToTheHolder : Prop :=
  ∀ (c : Instr) (f : FrameHead) (extra : List Byte) (s : State),
    (c = .hostAckFrame f extra ∨ c = .rateChange f extra) →
    s.pins.resetLow = false → s.link.rx = [] →
    let without := fun rest : List Sent => { s.link with
      replay := rest, expiryCount := 0
      replayTimer := if rest = [] then none
        else some ⟨4000 * s.settings.replayTimeout.toNat, s.settings.replayTimeout⟩ }
    (s.link.up = false → exec c s = .next s)
      ∧ (s.link.up = true → AcksNothing f s → exec c s = .next s)
      ∧ (s.link.up = true → ∀ pre e rest, s.link.replay = pre ++ e :: rest → e.seq = f.ack →
        (∀ x ∈ pre, x.seq ≠ f.ack) →
        (s.settings.fullWaiting = true → ∀ x ∈ pre ++ [e], x.message.carries ≠ .fullReply) →
        exec c s = .next ((pre ++ [e]).foldl reported { s with link := without rest }))
      ∧ (s.link.up = true → ∀ pre e rest, s.link.replay = pre ++ e :: rest → e.seq = f.ack →
        (∀ x ∈ pre, x.seq ≠ f.ack ∧ x.message.carries = .reply) →
        let l := without rest
        ((e.message.carries = .reply ∨ e.message.carries = .flushReply) →
            exec c s = .next { s with link := l })
        ∧ (e.message.carries = .fullReply → s.settings.fullWaiting = false →
            exec c s = .next { s with link := l })
        ∧ (∀ r, e.message.carries = .rateReply r →
            exec c s = .next { s with link := { l with rate := r } })
        ∧ (e.message.carries = .faultNotice → s.faults.notice = .sent →
            exec c s = .next { s with
              link := l, faults := { s.faults with
              notice := if s.faults.renewal = true then .due else .settled, renewal := false } })
        ∧ (∀ p, e.message.carries = .portNotice p → (s.ports.get p).notice = .sent →
            exec c s = .next { s with
              link := l, ports := s.ports.set p { s.ports.get p with
              notice := if (s.ports.get p).renewal = true then .due else .settled
              renewal := false } })
        ∧ (∀ j, e.message.carries = .jobNotice j → (s.jobs.get j).notice = .sent →
            exec c s = .next { s with
              link := l, jobs := s.jobs.set j { s.jobs.get j with
              notice := if (s.jobs.get j).latest.isSome then .due else .settled, sent := none } })
        ∧ (∀ i, e.message.carries = .irqNotice i → (s.sources.get i).state = .sent →
            exec c s = .next { s with
              link := l, sources :=
                if (s.sources.get i).noticeSeq = some e.seq then
                  s.sources.set i { s.sources.get i with
                    state := .notified, sentCount := none, noticeSeq := none }
                else s.sources }))

/-- A NAK from the host: while DOWN discarded; naming no frame of the replay list, counted as stray;
otherwise the value before the one it names is acknowledged, and every frame that is then left, the
named one first, is marked resend due. -/
def Obligations.NakMarksFromTheNamedFrame : Prop :=
  ∀ (f : FrameHead) (extra : List Byte) (s : State), s.pins.resetLow = false → s.link.rx = [] →
    (s.link.up = false → exec (.hostNak f extra) s = .next s)
      ∧ (s.link.up = true → AcksNothing f s →
        exec (.hostNak f extra) s = .next { s with
          link := { s.link with
            counters :=
          { s.link.counters with strayNaks := satInc s.link.counters.strayNaks } } })
      ∧ (s.link.up = true → LinkLaw s → ∀ e ∈ s.link.replay, e.seq = f.ack →
        ∃ t, exec (.hostAckFrame { f with ack := f.ack - 1 } []) s = .next t
          ∧ (t.link.replay.head? = some e ∨ t.link.replay = [])
          ∧ exec (.hostNak f extra) s = .next { t with
            link := { t.link with
              replay := t.link.replay.map fun x => { x with resend := true } } })

/-- An INIT from the host: while DOWN the session opens; while UP, with no FULL reset waiting, the link
first goes down with cause ABORTED, and the session opens at once, the rate code kept. (A source loses
the number of its frame with it, log entry 10, and a write half's hold-off stays in its tag, entry 23.)
-/
def Obligations.InitEndsAndOpensASession : Prop :=
  ∀ (f : FrameHead) (extra : List Byte) (s : State), s.pins.resetLow = false → s.link.rx = [] →
    (s.link.up = false →
      exec (.hostInit f extra) s = .next { s with link := openedLink s.link })
    ∧ (s.link.up = true → s.settings.fullWaiting = false →
      ∃ t, exec (.hostInit f extra) s = .next t ∧ WentDown .aborted s t
        ∧ t.link = openedLink (downLink s.link))

/-- The replay timer runs out: the first three times every frame is marked resend due and the timer
starts again; the fourth takes the link down with cause TIMEOUT, the rate code falls back to 1 and the
beacon timer starts. A stopped timer does nothing. (The expiry acts whatever time is left: log entry 3; a
source loses the number of its frame, entry 10; a write half's hold-off stays in its tag, entry 23.) -/
def Obligations.ReplayTimerResendsThenEndsTheLink : Prop :=
  ∀ s : State, s.pins.resetLow = false →
    (s.link.replayTimer = none → exec .replayTimerExpiry s = .next s)
      ∧ (s.link.replayTimer.isSome = true → s.link.expiryCount < 3 →
        exec .replayTimerExpiry s = .next { s with
          link := { s.link with
          expiryCount := s.link.expiryCount + 1
          replay := s.link.replay.map fun x => { x with resend := true }
          replayTimer := some ⟨4000 * s.settings.replayTimeout.toNat, s.settings.replayTimeout⟩ } })
      ∧ (s.link.replayTimer.isSome = true → s.link.expiryCount = 3 → s.settings.fullWaiting = false →
        ∃ t, exec .replayTimerExpiry s = .next t ∧ WentDown .timeout s t
          ∧ t.link = { downLink s.link with rate := 1, beacon := some 0 })

/-- A collected frame that fails its CRC raises the CRC failures counter, its SYNC alone is consumed and
the receiver hunts again; a good frame that is malformed raises the malformed frames counter and is
discarded, its ACK field not taken. (The first clause gives the state right after the failed frame,
whatever bytes follow it: a good frame among them is taken in a later step, the model's choice, log entry
7.) -/
def Obligations.BadFramesAreCountedAndDiscarded : Prop :=
  ∀ s : State, s.pins.resetLow = false →
    (∀ (hrx content crc after : List Byte) (len : Byte),
      hunt (s.link.rx ++ hrx) = 0xC3 :: len :: content ++ crc ++ after →
      content.length = len.toNat → crc.length = 2 → crc ≠ be16 (crc16 (len :: content)) →
      exec (.frameCrcFailure hrx) s = .next { s with
        link := { s.link with
        counters := { s.link.counters with crcFailures := satInc s.link.counters.crcFailures }
        rx := (len :: content ++ crc ++ after).dropWhile fun b => b != 0xC3 } })
    ∧ (∀ content : List Byte, s.link.rx = [] →
      (content.length < 5
        ∨ (∃ ftype seq ack fp ft rest, content = ftype :: seq :: ack :: fp :: ft :: rest
          ∧ ((ftype ≠ 1 ∧ ftype ≠ 2 ∧ ftype ≠ 3 ∧ ftype ≠ 5) ∨ (ftype = 1 ∧ rest.length < 3)
            ∨ 63 < seq.toNat ∨ 63 < ack.toNat))) →
      exec (.malformedFrame content) s = .next { s with
        link := { s.link with
          counters :=
        { s.link.counters with malformedFrames := satInc s.link.counters.malformedFrames } } })

/-! ## Frames of the part (09 R163 to R167, R169) -/

/-- The frame that is chosen when the line becomes free, new DATA frames aside: while UP, READY first,
then the WAIT or NAK owed, then the oldest frame marked resend due, and, with no new DATA frame to
send, an ACK if one is owed; while DOWN an INIT when the beacon timer is due. The beacon timer: while
DOWN an INIT goes to a free line and the next is due after 50 ms, a busy line leaves the INIT due;
while UP, or stopped, nothing happens. (A choice as a step of its own, and the INIT left due, are the
model's choices, log entries 1 and 16, and both commands act whatever time is left, entry 3.) -/
def Obligations.LineChoosesControlAndResendFrames : Prop :=
  (∀ s : State, s.pins.resetLow = false →
      let ack := s.link.expected - 1
      (s.link.up = true → s.link.readyOwed = true →
        exec .frameTransmitEnd s = .next { s with
          link := { s.link with
          readyOwed := false, ackOwed := false
          tx := onLine s 6 0 ack [s.link.epoch, s.settings.resetCause.code] } })
      ∧ (s.link.up = true → s.link.readyOwed = false → ∀ q, s.link.control = .wait q →
        exec .frameTransmitEnd s = .next { s with
          link := { s.link with
          control := .none, ackOwed := false, tx := onLine s 4 q ack []
          counters := { s.link.counters with waitsSent := satInc s.link.counters.waitsSent } } })
      ∧ (s.link.up = true → s.link.readyOwed = false → s.link.control = .nak →
        exec .frameTransmitEnd s = .next { s with
          link := { s.link with
          control := .none, ackOwed := false, tx := onLine s 3 0 s.link.expected [] } })
      ∧ (s.link.up = true → s.link.readyOwed = false → s.link.control = .none → LinkLaw s →
        ∀ pre e rest, s.link.replay = pre ++ e :: rest → (∀ x ∈ pre, x.resend = false) →
        e.resend = true →
        exec .frameTransmitEnd s = .next { s with
          link := { s.link with
          replay := pre ++ { e with resend := false } :: rest, ackOwed := false
          tx := onLine s 1 e.seq ack e.message.bytes
          counters := { s.link.counters with replaysSent := satInc s.link.counters.replaysSent } } })
      ∧ (LineForData s →
        (8 ≤ s.link.replay.length ∨ (s.direct = [] ∧ s.ready = [] ∧ NoNoticeDue s)) →
        exec .frameTransmitEnd s = .next { s with
          link :=
          if s.link.ackOwed = true then { s.link with ackOwed := false, tx := onLine s 2 0 ack [] }
          else { s.link with tx := none } })
      ∧ (s.link.up = false →
        exec .frameTransmitEnd s = .next { s with
          link :=
          if s.link.beacon = some 0 then
            { s.link with beacon := some 200000, tx := onLine s 5 0 0 [] }
          else { s.link with tx := none } }))
  ∧ (∀ s : State, s.pins.resetLow = false →
      (s.link.up = true → exec .beaconTimerExpiry s = .next s)
        ∧ (s.link.beacon = none → exec .beaconTimerExpiry s = .next s)
        ∧ (s.link.up = false → s.link.beacon.isSome = true → s.link.tx = none →
          exec .beaconTimerExpiry s = .next { s with
            link := { s.link with
            beacon := some 200000, tx := onLine s 5 0 0 [] } })
        ∧ (s.link.up = false → s.link.beacon.isSome = true → s.link.tx.isSome = true →
          exec .beaconTimerExpiry s = .next { s with link := { s.link with beacon := some 0 } }))

/-- The outbound arbiter, with fewer than eight frames unacknowledged, serves the first class with
something to send after the class last served: direct reply, ready, notice, and round again. The message
leaves its source before the frame's credit snapshot is filled. The REPLY of a READY entry has the fields
of its kind (readyReply): READ its count, and its data only with OK, WRITE none, MODIFY the old and the
new value or 0, FENCE its two counts; a FAULT-NOTICE the record block and the summary set (recordBytes,
summaryWord), a JOB-NOTICE its seventeen bytes (jobEndBytes). (The choice is a step of its own, whatever
is left of the frame on the line, log entries 1 and 3; a source keeps its frame's number, entry 10; the
notice of a cycle that a FLUSH started waits for the REPLY to the FLUSH, entry 21.) -/
def Obligations.OutboundArbiterServesTheClassesInTurn : Prop :=
  ∀ s : State, LineForData s → s.link.replay.length < 8 →
    (∀ m ms, s.direct = m :: ms →
      (s.link.lastClass = .notice ∨ (s.link.lastClass = .ready ∧ NoNoticeDue s)
        ∨ (s.link.lastClass = .direct ∧ s.ready = [] ∧ NoNoticeDue s)) →
      exec .frameTransmitEnd s = .next (sentData { s with direct := ms } .direct m))
    ∧ (∀ t ts, s.ready = t :: ts →
      (s.link.lastClass = .direct ∨ (s.link.lastClass = .notice ∧ s.direct = [])
        ∨ (s.link.lastClass = .ready ∧ s.direct = [] ∧ NoNoticeDue s)) →
      exec .frameTransmitEnd s = .next (sentData
        { s with
          ready := ts, tags := s.tags.set t
            (if (s.tags.get t).busPending = true then { s.tags.get t with state := .discarding }
             else Tag.zero) }
        .ready (readyReply (s.tags.get t))))
    ∧ ((s.link.lastClass = .ready ∨ (s.link.lastClass = .direct ∧ s.ready = [])
        ∨ (s.link.lastClass = .notice ∧ s.direct = [] ∧ s.ready = [])) →
      (s.faults.notice = .due →
        exec .frameTransmitEnd s = .next (sentData
          { s with faults := { s.faults with notice := .sent } } .notice
          ⟨[0x92, 0, 0] ++ recordBytes s.faults.record ++ be16 (summaryWord s.faults.summary),
            .faultNotice⟩))
      ∧ (s.faults.notice ≠ .due → ∀ p, (s.ports.get p).notice = .due →
        (∀ q, q < p → (s.ports.get q).notice ≠ .due) →
        exec .frameTransmitEnd s = .next (sentData
          { s with ports := s.ports.set p { s.ports.get p with notice := .sent } } .notice
          ⟨[0x93, 0, 0, BitVec.ofNat 8 p.val, if (s.ports.get p).state = .held then 1 else 0,
            BitVec.ofNat 8 (weight (s.ports.get p).holds.host 1 + weight (s.ports.get p).holds.freeze 2
              + weight (s.ports.get p).holds.guard 4)], .portNotice p⟩))
      ∧ (s.faults.notice ≠ .due → (∀ p, (s.ports.get p).notice ≠ .due) →
        ∀ j k, (s.jobs.get j).notice = .due → (s.jobs.get j).latest = some k →
        (∀ q, q < j → (s.jobs.get q).notice ≠ .due) →
        exec .frameTransmitEnd s = .next (sentData
          { s with
            jobs := s.jobs.set j { s.jobs.get j with
              notice := .sent, sent := some k, latest := none, overwritten := 0 } } .notice
          ⟨[0x91, 0, 0] ++ jobEndBytes j k (s.jobs.get j).overwritten, .jobNotice j⟩))
      ∧ (s.faults.notice ≠ .due → (∀ p, (s.ports.get p).notice ≠ .due) →
        (∀ j, (s.jobs.get j).notice ≠ .due) →
        ∀ i, IrqOffered s i →
        (∀ k, IrqOffered s k →
          (s.sources.get i).priority < (s.sources.get k).priority
            ∨ ((s.sources.get i).priority = (s.sources.get k).priority ∧ i ≤ k)) →
        exec .frameTransmitEnd s = .next (sentData
          { s with
            sources := s.sources.set i { s.sources.get i with
              state := .sent, sentCount := some (s.sources.get i).coalesced, coalesced := 0
              noticeSeq := some s.link.nextSend } } .notice
          ⟨[0x90, 0, 0, BitVec.ofNat 8 i.val, BitVec.ofNat 8 (s.sources.get i).priority.val,
              statusOrNone (s.sources.get i).vecStatus] ++ be32 (s.sources.get i).vecValue
              ++ [(s.sources.get i).coalesced, if Asks s i then 1 else 0], .irqNotice i⟩)))

/-! ## Intake (08 R145, R149, R152) -/

/-- Intake refuses a message of an unknown kind, of a wrong length, or with a field outside its encoding:
with a REPLY in its place, or for a POST with a POST-REFUSED fault; no other block sees it. -/
def Obligations.IntakeRefusesBadMessages : Prop :=
  ∀ (f : FrameHead) (id : Half) (body : List Byte) (s : State), Expected f s →
    (∀ kind, RequestKind.ofCode kind = none → Room s →
      exec (.unknownKind f kind id body) s = .next (answer (took s) id kind 2 []))
    ∧ (∀ k, k ≠ RequestKind.post → Room s →
      (body.length ≠ requiredLength k body →
        exec (requestInstr k f id body) s = .next (answer (took s) id k.code 1 []))
      ∧ (body.length = requiredLength k body → fieldsOk k body = false →
        exec (requestInstr k f id body) s =
          .next (answer (took s) id k.code 3 (badFieldFields k body))))
    ∧ (body.length ≠ requiredLength .post body →
      exec (.post f id body) s = .next { took s with
        faults := faulted s .postRefused
          ⟨.malformed, none, none, none, none, none,
            if 4 ≤ body.length then some (u32 body 0) else none⟩ })
    ∧ (body.length = requiredLength .post body → fieldsOk .post body = false →
      exec (.post f id body) s = .next { took s with
        faults := faulted s .postRefused
          ⟨.badField, none, none, none, none, none, some (u32 body 0)⟩ })

/-! ## Windows (01) -/

/-- A host address in the range of an enabled record decodes to that record, with its port, attributes and
translated address; an address in no enabled range is a miss. -/
def Obligations.DecodeFindsTheOneWindow : Prop :=
  ∀ (t : Table Window 16) (a : Word), WindowLaw t →
    (∀ i, (t.get i).enabled = true → InRange (t.get i) a →
      decodeAddr t a = some ⟨i, (t.get i).port, (t.get i).localBase + (a - (t.get i).hostBase),
        (t.get i).readOnly, (t.get i).postable, (t.get i).prefetchable, (t.get i).isVolatile⟩)
    ∧ ((∀ i, (t.get i).enabled = true → ¬InRange (t.get i) a) → decodeAddr t a = none)

/-- The local address of a hit is the local base plus the offset, modulo 2^32; every byte of the window is
translated by the same offset; the low two bits and the alignment to 1, 2 and 4 are kept. -/
def Obligations.TranslationKeepsOffsetAndAlignment : Prop :=
  ∀ (t : Table Window 16) (a : Word) (h : Hit), WindowLaw t → decodeAddr t a = some h →
    let w := t.get h.window
    h.localAddr.toNat = (w.localBase.toNat + (a.toNat - w.hostBase.toNat)) % 2 ^ 32
      ∧ (∀ k : Nat, InRange w (a + BitVec.ofNat 32 k) → a.toNat + k < 2 ^ 32 →
          ∃ h', decodeAddr t (a + BitVec.ofNat 32 k) = some h'
            ∧ h'.localAddr = h.localAddr + BitVec.ofNat 32 k)
      ∧ h.localAddr.toNat % 4 = a.toNat % 4
      ∧ (a.toNat % 2 = 0 → h.localAddr.toNat % 2 = 0)

/-- WINDOW-SET of a record inside intake's encodings: a disabling one is always taken; an inconsistent
one is refused with BAD-FIELD; one whose range meets that of another enabled record is refused with
OVERLAP and the lowest such record; any other is taken. A taken one replaces the record and drops the
read-ahead state of the ports that the old and the new record name; a refused one changes nothing. (A
dropped line keeps its line address, log entry 11.) -/
def Obligations.WindowSetIsTakenOrRefusedWhole : Prop :=
  ∀ (f : FrameHead) (id : Half) (i : Fin 16) (w : Window) (s : State),
    Expected f s → Room s → WindowLaw s.windows → 12 ≤ w.sizeCode.val →
    let body := [BitVec.ofNat 8 i.val, yesNo w.enabled] ++ be32 w.hostBase
      ++ [BitVec.ofNat 8 w.sizeCode.val, BitVec.ofNat 8 w.port.val] ++ be32 w.localBase ++ [w.flags]
    let reply := fun (t : State) (st conflict : Byte) =>
      answer t id 0x30 st [BitVec.ofNat 8 i.val, conflict]
    let bad := w.hostBase.toNat % 2 ^ w.sizeCode.val ≠ 0 ∨ w.localBase.toNat % 4 ≠ 0
      ∨ (w.prefetchable = true ∧ w.isVolatile = true)
    let meets := fun j : Fin 16 => j ≠ i ∧ (s.windows.get j).enabled = true
      ∧ ∃ a, InRange w a ∧ InRange (s.windows.get j) a
    (w.enabled = true → bad →
      exec (.windowSet f id body) s = .next (reply (took s) 3 255))
    ∧ (w.enabled = true → ¬bad → ∀ j, meets j → (∀ k, k < j → ¬meets k) →
      exec (.windowSet f id body) s = .next (reply (took s) 19 (BitVec.ofNat 8 j.val)))
    ∧ ((w.enabled = true → ¬bad ∧ ∀ j, ¬meets j) →
      ∃ ports', exec (.windowSet f id body) s =
          .next (reply { took s with windows := s.windows.set i w, ports := ports' } 0 255)
        ∧ ∀ p, ports'.get p =
            if p = (s.windows.get i).port ∨ p = w.port then lineDropped (s.ports.get p)
            else s.ports.get p)

/-- WINDOW-GET reports every field of the record as it stands and changes nothing else; an index above 15
is refused with BAD-FIELD. -/
def Obligations.WindowGetReportsTheRecord : Prop :=
  ∀ (f : FrameHead) (id : Half) (b : Byte) (s : State), Expected f s → Room s →
    (∀ i : Fin 16, b = BitVec.ofNat 8 i.val →
      let w := s.windows.get i
      exec (.windowGet f id [b]) s = .next (answer (took s) id 0x31 0
        ([b, if w.enabled = true then 1 else 0] ++ be32 w.hostBase
          ++ [BitVec.ofNat 8 w.sizeCode.val, BitVec.ofNat 8 w.port.val] ++ be32 w.localBase
          ++ [BitVec.ofNat 8 ((if w.readOnly = true then 1 else 0)
              + (if w.postable = true then 2 else 0) + (if w.prefetchable = true then 4 else 0)
              + (if w.isVolatile = true then 8 else 0))])))
    ∧ (15 < b.toNat → exec (.windowGet f id [b]) s =
        .next (answer (took s) id 0x31 3 (b :: List.replicate 12 0)))

/-- The fill test after a READ that ended OK through a prefetchable window: the next line becomes pending,
in place of any earlier pending fill, exactly when the record still is enabled and prefetchable, names
the READ's port, translates its host address to its local address and holds the next line wholly, and
the port has, awaits and reads no such line already. -/
def Obligations.FillTestAsksForTheNextLine : Prop :=
  ∀ (x : Access) (s : State), x.prefetchable = true →
    let w := s.windows.get x.window
    let y := s.ports.get x.port
    let next := BitVec.ofNat 32 (x.localAddr.toNat / 64 * 64 + 64)
    let may := w.enabled = true ∧ w.prefetchable = true ∧ w.port = x.port
      ∧ w.hostBase.toNat = x.hostAddr.toNat / 2 ^ w.sizeCode.val * 2 ^ w.sizeCode.val
      ∧ w.localBase + (x.hostAddr - w.hostBase) = x.localAddr
      ∧ 64 ≤ 2 ^ w.sizeCode.val ∧ (next - w.localBase).toNat ≤ 2 ^ w.sizeCode.val - 64
    let have_ := (y.lineValid = true ∧ y.lineAddr = next) ∨ y.pendingFill = some next
      ∨ (∃ t, y.txn = some t ∧ t.initiator = .fill ∧ t.localAddr = next)
    (may → ¬have_ →
      fillTest x s = { s with ports := s.ports.set x.port { y with pendingFill := some next } })
    ∧ (may → have_ → fillTest x s = s) ∧ (¬may → fillTest x s = s)

/-! ## Admission (02 R17 to R22, R31) -/

/-- A READ, WRITE or MODIFY that passes intake and fails a check of admission: the first failing check
gives the status of the REPLY, and nothing is admitted; a miss under HOLD also holds every port with
GUARD and reports a GUARD-MISS fault. -/
def Obligations.AccessIsRefusedAtTheFirstFailingCheck : Prop :=
  ∀ (k : RequestKind) (f : FrameHead) (id : Half) (body : List Byte) (s : State),
    (k = .read ∨ k = .write ∨ k = .modify) → Expected f s → Room s →
    body.length = requiredLength k body → fieldsOk k body = true →
    let a := u32 body 0
    let n := (u8 body 4).toNat
    let hit := decodeAddr s.windows a
    let fields : List Byte := match k with
      | .read => [u8 body 4]
      | .modify => [0, 0, 0, 0, 0, 0, 0, 0]
      | _ => []
    let refused := fun (st : Byte) (t : State) =>
      exec (requestInstr k f id body) s = .next (answer t id k.code st fields)
    (Misplaced a n hit → refused 7 (took s))
      ∧ (¬Misplaced a n hit → hit = none → s.settings.missPolicy = .reply → refused 4 (took s))
      ∧ (¬Misplaced a n hit → hit = none → s.settings.missPolicy = .hold →
        ∃ ports', refused 4 { took s with
              ports := ports'
              faults := faulted s .guardMiss ⟨.unmapped, none, some id, none, none, none, some a⟩ }
          ∧ ∀ p, ports'.get p =
              withHolds (s.ports.get p) { (s.ports.get p).holds with guard := true })
      ∧ (¬Misplaced a n hit → ∀ h, hit = some h →
        (h.readOnly = true → k ≠ .read → refused 5 (took s))
        ∧ ((h.readOnly = false ∨ k = .read) → IdInUse s id → refused 9 (took s))
        ∧ ((h.readOnly = false ∨ k = .read) → ¬IdInUse s id →
            (∀ t, (s.tags.get t).state ≠ .free) → refused 8 (took s)))

/-- A READ, WRITE or MODIFY that passes every check takes the FREE tag with the lowest index, in QUEUED,
with its fields, the decode it keeps (port, local address, window index and four attributes), the
completion limit of its port, and the tail of its port's request list; its reserved reply place is
released. (The place number is the model's, log entry 12.) -/
def Obligations.AccessIsAdmittedWithATag : Prop :=
  ∀ (k : RequestKind) (f : FrameHead) (id : Half) (body : List Byte) (s : State) (h : Hit)
    (t : Fin 32),
    (k = .read ∨ k = .write ∨ k = .modify) → Expected f s → Room s →
    body.length = requiredLength k body → fieldsOk k body = true →
    decodeAddr s.windows (u32 body 0) = some h →
    ¬Misplaced (u32 body 0) (u8 body 4).toNat (some h) → (h.readOnly = false ∨ k = .read) →
    ¬IdInUse s id → LowestFree s t →
    let x : Tag :=
      { state := .queued
        id := id
        kind := match k with
          | .write => .write
          | .modify => .modify
          | _ => .read
        access := some ⟨h.window, h.port, u32 body 0, h.localAddr, h.isVolatile, h.prefetchable,
          h.readOnly, h.postable, (u8 body 4).toNat⟩
        data := if k = .write then body.drop 5 else []
        setMask := if k = .modify then u32 body 5 else 0
        clearMask := if k = .modify then u32 body 9 else 0
        invertMask := if k = .modify then u32 body 13 else 0
        oldNew := none
        retries := 0
        timeLeft := 400 * (s.ports.get h.port).settings.completionLimit.toNat
        holdOff := none
        busPending := false
        status := .ok
        covered := 0, failed := 0, outstanding := 0
        place := s.nextPlace }
    exec (requestInstr k f id body) s = .next { took s with
      tags := s.tags.set t x
      lists := s.lists.set h.port (s.lists.get h.port ++ [.tag t])
      nextPlace := s.nextPlace + 1 }

/-- A POST that passes intake needs no reply place. Refused, it reports a POST-REFUSED fault, after the
GUARD-MISS of a miss under HOLD, or a CREDIT-OVERRUN fault, and no reply; admitted, it keeps its decode,
takes a free posted slot and the tail of its port's request list. (Which free slot, the lowest, and the
place are the model's, log entries 19 and 12.) -/
def Obligations.PostIsAdmittedOrReported : Prop :=
  ∀ (f : FrameHead) (id : Half) (body : List Byte) (s : State), Expected f s →
    body.length = requiredLength .post body → fieldsOk .post body = true →
    let a := u32 body 0
    let n := (u8 body 4).toNat
    let hit := decodeAddr s.windows a
    let reported := fun (t : State) (k : FaultKind) (st : Status) =>
      exec (.post f id body) s = .next { t with
        faults := faulted t k
          ⟨st, hit.map Hit.port, none, none, none, hit.map Hit.localAddr, some a⟩ }
    (Misplaced a n hit → reported (took s) .postRefused .misaligned)
      ∧ (¬Misplaced a n hit → hit = none → s.settings.missPolicy = .reply →
          reported (took s) .postRefused .unmapped)
      ∧ (¬Misplaced a n hit → hit = none → s.settings.missPolicy = .hold →
        ∃ ports', reported { took s with
              ports := ports'
              faults := faulted s .guardMiss ⟨.unmapped, none, none, none, none, none, some a⟩ }
            .postRefused .unmapped
          ∧ ∀ p, ports'.get p =
              withHolds (s.ports.get p) { (s.ports.get p).holds with guard := true })
      ∧ (¬Misplaced a n hit → ∀ h, hit = some h →
        (h.readOnly = true → reported (took s) .postRefused .isProtected)
        ∧ (h.readOnly = false → h.postable = false → reported (took s) .postRefused .notPostable)
        ∧ (h.readOnly = false → h.postable = true → (∀ k, (s.pool.get k).isSome = true) →
            reported (took s) .creditOverrun .credit)
        ∧ (h.readOnly = false → h.postable = true → ∀ k, s.pool.get k = none →
            (∀ j, j < k → (s.pool.get j).isSome = true) →
            exec (.post f id body) s = .next { took s with
              pool := s.pool.set k (some
                { window := h.window, port := h.port, hostAddr := a, localAddr := h.localAddr, count := n
                  data := body.drop 5, isVolatile := h.isVolatile, prefetchable := h.prefetchable
                  readOnly := h.readOnly, postable := h.postable, retries := 0, holdOff := none
                  covering := [], place := s.nextPlace, flushed := false })
              lists := s.lists.set h.port (s.lists.get h.port ++ [.post k])
              nextPlace := s.nextPlace + 1 }))

/-- A FENCE is refused for a live request id or for want of a tag; otherwise it takes the lowest FREE
tag and covers every POST whose slot is held: covering none it is READY with OK at once, else WAITING.
(The place is the model's, log entry 12.) -/
def Obligations.FenceCoversTheHeldPosts : Prop :=
  ∀ (f : FrameHead) (id : Half) (s : State), Expected f s → Room s →
    let n := s.pool.rows.countP Option.isSome
    let x : Tag := { Tag.zero with
      state := .waiting, id := id, kind := .fence, timeLeft := 26214000, covered := n
      outstanding := n, place := s.nextPlace }
    (IdInUse s id → exec (.fence f id []) s = .next (answer (took s) id 0x14 9 [0, 0]))
      ∧ (¬IdInUse s id → (∀ t, (s.tags.get t).state ≠ .free) →
          exec (.fence f id []) s = .next (answer (took s) id 0x14 8 [0, 0]))
      ∧ (¬IdInUse s id → ∀ t, LowestFree s t →
        (n = 0 → exec (.fence f id []) s = .next { took s with
          tags := s.tags.set t { x with state := .ready }
          ready := s.ready ++ [t], nextPlace := s.nextPlace + 1 })
        ∧ (n ≠ 0 → exec (.fence f id []) s = .next { took s with
          tags := s.tags.set t x
          pool := s.pool.map fun r => r.map fun y => { y with covering := y.covering ++ [t] }
          nextPlace := s.nextPlace + 1 }))

/-! ## Ordering (02 R28, R29) -/

/-- A host entry that a port starts was its port's candidate: no POST admitted earlier is in the list, a
non-posted entry is the head, no FENCE in WAITING was admitted before it, and it is not in hold-off.
Which entry is the candidate: a head that is not in hold-off is the provisional choice; a non-posted head
in hold-off gives way to the earliest POST of the list, unless that is in hold-off too; a POST at the
head in hold-off gives none. The provisional choice is the candidate exactly when no FENCE in WAITING was
admitted before it; else the port has none. That the list is in arrival order is a premise here; every
step keeps it (PostLawIsKeptByEveryStep, OrderLaw). (Places, and a start as a step of its own, are the
model's, log entries 12 and 1.) -/
def Obligations.HostStartsKeepArrivalOrder : Prop :=
  (∀ (p : Fin 4) (e : Entry) (s t : State),
    (s.lists.get p).Pairwise (fun a b => placeOf s a < placeOf s b) →
    exec (.portStart p) s = .next t → e ∈ s.lists.get p → e ∉ t.lists.get p →
    (∀ k, Entry.post k ∈ s.lists.get p → placeOf s e ≤ placeOf s (.post k))
      ∧ ((∃ k, e = .tag k) → (s.lists.get p).head? = some e)
      ∧ (∀ k, (s.tags.get k).state = .waiting → placeOf s e ≤ (s.tags.get k).place)
      ∧ inHoldOff s e = false)
  ∧ (∀ (p : Fin 4) (s : State),
    (s.lists.get p).Pairwise (fun a b => placeOf s a < placeOf s b) →
    (s.lists.get p = [] → candidate p s = none)
      ∧ (∀ e rest, s.lists.get p = e :: rest → ¬HeldOff s e → Provisional s p e)
      ∧ (∀ k rest, s.lists.get p = .post k :: rest → HeldOff s (.post k) → candidate p s = none)
      ∧ (∀ k rest, s.lists.get p = .tag k :: rest → HeldOff s (.tag k) →
        ((∀ m, Entry.post m ∉ rest) → candidate p s = none)
        ∧ (∀ m, Entry.post m ∈ rest →
          (∀ n, Entry.post n ∈ rest → placeOf s (.post m) ≤ placeOf s (.post n)) →
          (HeldOff s (.post m) → candidate p s = none)
          ∧ (¬HeldOff s (.post m) → Provisional s p (.post m)))))

/-! ## Tags (03) -/

/-- ABORT by the state of the live entry with the target id: QUEUED and WAITING become READY with
ABORTED, ACTIVE too with bus pending, READY is too late, no live entry is not found. (The hold-off of an
ACTIVE entry's write half stays in its tag, log entry 23.) -/
def Obligations.AbortActsByTheTargetsState : Prop :=
  ∀ (f : FrameHead) (id target : Half) (s : State), Expected f s → Room s →
    let reply := fun (t : State) (st : Byte) =>
      exec (.abort f id (be16 target)) s = .next (answer t id 0x3C st (be16 target))
    (¬IdInUse s target → reply (took s) 15)
      ∧ (∀ k, (s.tags.get k).live = true → (s.tags.get k).id = target →
        (∀ u, (s.tags.get u).live = true → (s.tags.get u).id = target → u = k) →
        ((s.tags.get k).state = .ready → reply (took s) 16)
        ∧ ((s.tags.get k).state = .active → reply { took s with
            tags := s.tags.set k { s.tags.get k with
              state := .ready, status := .aborted, busPending := true }
            ready := s.ready ++ [k] } 0)
        ∧ ((s.tags.get k).state = .queued → reply { took s with
            lists := s.lists.map fun l => l.filter fun e => e != .tag k
            tags := s.tags.set k { s.tags.get k with
              state := .ready, status := .aborted, busPending := false, holdOff := none }
            ready := s.ready ++ [k] } 0)
        ∧ ((s.tags.get k).state = .waiting → reply { took s with
            pool := s.pool.map fun r => r.map fun x =>
              { x with covering := x.covering.filter fun u => u != k }
            tags := s.tags.set k { s.tags.get k with
              state := .ready, status := .aborted, busPending := false }
            ready := s.ready ++ [k] } 0))

/-- A completion timer that runs out: QUEUED and WAITING become READY with TIMEOUT, ACTIVE too with bus
pending, each with an ACCESS-FAILED fault; a QUEUED entry of a held port is paused, and in FREE, READY
and DISCARDING there is no timer. A hold-off that runs out, whether or not its port is held, leaves the
item in its place with every other field as it was. (The expiry acts whatever time is left: log entry 3;
a write half's hold-off stands in its tag in READY and DISCARDING too, entry 23.) -/
def Obligations.RequestTimersRunOut : Prop :=
  (∀ (k : Fin 32) (s : State), s.pins.resetLow = false →
      let x := s.tags.get k
      let fault := faulted s .accessFailed ⟨.timeout, x.access.map Access.port, some x.id, none, none,
        x.access.map Access.localAddr, x.access.map Access.hostAddr⟩
      let y : Tag := { x with state := .ready, status := .timeout, busPending := false, timeLeft := 0 }
      ((x.state = .free ∨ x.state = .ready ∨ x.state = .discarding) →
          exec (.completionTimerExpiry k) s = .next s)
        ∧ (∀ a, x.state = .queued → x.access = some a →
          ((s.ports.get a.port).holds ≠ ⟨false, false, false⟩ →
            exec (.completionTimerExpiry k) s = .next s)
          ∧ ((s.ports.get a.port).holds = ⟨false, false, false⟩ →
            exec (.completionTimerExpiry k) s = .next { s with
              lists := s.lists.map fun l => l.filter fun e => e != .tag k
              tags := s.tags.set k { y with holdOff := none }
              ready := s.ready ++ [k], faults := fault }))
        ∧ (x.state = .waiting → exec (.completionTimerExpiry k) s = .next { s with
            pool := s.pool.map fun r => r.map fun z =>
              { z with covering := z.covering.filter fun u => u != k }
            tags := s.tags.set k y, ready := s.ready ++ [k], faults := fault })
        ∧ (x.state = .active → exec (.completionTimerExpiry k) s = .next { s with
            tags := s.tags.set k { y with busPending := true }
            ready := s.ready ++ [k], faults := fault }))
  ∧ (∀ s : State, s.pins.resetLow = false →
      (∀ t, exec (.holdOffExpiry (.request t)) s =
        .next { s with tags := s.tags.set t { s.tags.get t with holdOff := none } })
      ∧ (∀ k, exec (.holdOffExpiry (.posted k)) s =
        .next { s with pool := s.pool.set k ((s.pool.get k).map fun x => { x with holdOff := none }) })
      ∧ (∀ j, ∃ ports', exec (.holdOffExpiry (.chunk j)) s = .next { s with ports := ports' }
        ∧ ∀ p, ports'.get p = { s.ports.get p with
          offers := (s.ports.get p).offers.set j
            (((s.ports.get p).offers.get j).map fun o => { o with holdOff := none }) })
      ∧ (∀ i : Fin 32, let p : Fin 4 := ⟨i.val / 8, by omega⟩
        exec (.holdOffExpiry (.operation i)) s = .next { s with
          ports := s.ports.set p
            { s.ports.get p with
              opQueue := (s.ports.get p).opQueue.map fun op =>
                if op.source = i then { op with holdOff := none } else op } }))

/-! ## Ports (04) -/

/-- What the arbiter of a port starts: nothing while a transaction is in progress or the port is held
without a lock; under a lock the write half alone, once its hold-off is over, held or not; on an IDLE
port the oldest interrupt operation not in hold-off, then the host candidate or a waiting chunk by the
share rule, then the pending fill. (Which entry is the host candidate, HostStartsKeepArrivalOrder says.
One start is one step: log entry 1; a write half's hold-off stands in its tag in every state, entry 23.)
-/
def Obligations.ArbiterStartsInOrder : Prop :=
  ∀ (p : Fin 4) (s : State), s.pins.resetLow = false →
    let x := s.ports.get p
    let starts := fun t : State => exec (.portStart p) s = .next t
    let free := x.txn = none ∧ x.lock = none ∧ x.holds = ⟨false, false, false⟩
    let noOperation := ∀ o ∈ x.opQueue, o.holdOff.isSome = true
    let noChunk := ∀ j o, x.offers.get j = some o → o.holdOff.isSome = true
    let waiting := fun (j : Fin 4) (o : Offer) => x.offers.get j = some o ∧ o.holdOff = none
      ∧ ∀ i : Fin 4, i - (x.lastSlot + 1) < j - (x.lastSlot + 1) →
          ∀ o', x.offers.get i = some o' → o'.holdOff.isSome = true
    (x.txn.isSome = true → starts s)
      ∧ (x.lock = none → x.holds ≠ ⟨false, false, false⟩ → starts s)
      ∧ (∀ l, x.txn = none → x.lock = some l →
        ((s.tags.get l.tag).holdOff.isSome = true → starts s)
        ∧ (∀ a, (s.tags.get l.tag).holdOff = none → (s.tags.get l.tag).access = some a →
            starts { s with
              ports := s.ports.set p
                (presents x (.modifyWrite l.tag) true a.localAddr a.count
                  ((be32 l.newValue).drop (4 - a.count)) true) }))
      ∧ (free → ∀ pre op rest, x.opQueue = pre ++ op :: rest → op ∉ pre ++ rest →
        (∀ o ∈ pre, o.holdOff.isSome = true) → op.holdOff = none →
        starts { s with
          ports := s.ports.set p
            (presents { x with opQueue := pre ++ rest } (.operation op) op.isWrite op.localAddr op.size
              (if op.isWrite = true then (be32 op.value).drop (4 - op.size) else []) false) })
      ∧ (free → noOperation → ∀ j o, waiting j o →
        (candidate p s = none ∨ x.settings.jobShare.toNat ≤ x.shareCount) →
        starts { s with
          jobs := s.jobs.set j { s.jobs.get j with
            chunk := (s.jobs.get j).chunk.map fun c => { c with started := true } }
          ports := s.ports.set p
            (presents { x with offers := x.offers.set j none, lastSlot := j, shareCount := 0 }
              (.chunk j { o with started := true }) o.isWrite o.localAddr o.size o.data false) })
      ∧ (free → noOperation → noChunk → candidate p s = none → ∀ a, x.pendingFill = some a →
        starts { s with
          ports := s.ports.set p
            (presents { x with pendingFill := none } .fill false a 64 [] false) })
      ∧ (free → noOperation → noChunk → candidate p s = none → x.pendingFill = none → starts s)

/-- The host candidate starts when no chunk waits, or the share count is below the job share; the share
count rises while a chunk waits and is 0 otherwise. A READ that the read-ahead line covers is answered
at once and makes the fill test; every other host entry leaves the list and goes to the segment. (One
start is one step, the READ that the line answers too: the model's choice, log entry 1.) -/
def Obligations.HostCandidateStarts : Prop :=
  ∀ (p : Fin 4) (s : State), s.pins.resetLow = false →
    let x := s.ports.get p
    let starts := fun t : State => exec (.portStart p) s = .next t
    let isWaiting := ∃ j o, x.offers.get j = some o ∧ o.holdOff = none
    let left := fun e : Entry => s.lists.map fun l => l.filter fun e' => e' != e
    (x.txn = none ∧ x.lock = none ∧ x.holds = ⟨false, false, false⟩) →
    (∀ o ∈ x.opQueue, o.holdOff.isSome = true) →
    (¬isWaiting ∨ x.shareCount < x.settings.jobShare.toNat) →
    ∃ share : Nat, (isWaiting → share = min 15 (x.shareCount + 1)) ∧ (¬isWaiting → share = 0)
      ∧ (∀ k y, candidate p s = some (.post k) → s.pool.get k = some y →
        starts { s with
          lists := left (.post k), pool := s.pool.set k (some { y with holdOff := none })
          ports := s.ports.set p (presents { x with shareCount := share } (.post k) true y.localAddr
            y.count y.data false) })
      ∧ (∀ k a, candidate p s = some (.tag k) → (s.tags.get k).access = some a →
        let active := s.tags.set k { s.tags.get k with state := .active, holdOff := none }
        let covered := x.lineValid = true ∧ (a.localAddr - x.lineAddr).toNat + a.count ≤ 64
        ((s.tags.get k).kind = .write → starts { s with
          lists := left (.tag k), tags := active
          ports := s.ports.set p (presents { x with shareCount := share } (.request k) true
            a.localAddr a.count (s.tags.get k).data false) })
        ∧ ((s.tags.get k).kind = .modify → starts { s with
          lists := left (.tag k), tags := active
          ports := s.ports.set p (presents { x with shareCount := share } (.modifyRead k) false
            a.localAddr a.count [] true) })
        ∧ ((s.tags.get k).kind = .read → (a.prefetchable = false ∨ ¬covered) → starts { s with
          lists := left (.tag k), tags := active
          ports := s.ports.set p (presents { x with shareCount := share } (.request k) false
            a.localAddr a.count [] false) })
        ∧ ((s.tags.get k).kind = .read → a.prefetchable = true → covered → starts (fillTest a { s with
          lists := left (.tag k)
          tags := s.tags.set k { s.tags.get k with
            state := .ready, status := .ok, busPending := false
            data := (x.lineData.drop (a.localAddr - x.lineAddr).toNat).take a.count }
          ready := s.ready ++ [k] })))

/-- The end of a READ's or WRITE's transaction by ACCEPT or ERROR: an ACTIVE entry becomes READY with OK,
a READ with the bytes read and the fill test of a prefetchable window, or with BUS-ERROR and an
ACCESS-FAILED fault; an entry that a timer, an ABORT, a FLUSH or a link down has settled drops the
result. A write is seen by the read-ahead line, which keeps its line address (log entry 11). -/
def Obligations.TargetAnswerEndsReadsAndWrites : Prop :=
  ∀ (p : Fin 4) (k : Fin 32) (q : Txn) (a : Access) (data : List Byte) (s : State),
    s.pins.resetLow = false → (s.ports.get p).txn = some q → q.initiator = .request k →
    (s.tags.get k).access = some a → (q.isWrite = false → data.length = q.size) →
    let y := s.tags.get k
    let after := if q.isWrite = true then writeSeen (ended (s.ports.get p) none) q.localAddr
      else ended (s.ports.get p) none
    let closed : State := { s with ports := s.ports.set p after }
    let failure : FaultDetail :=
      ⟨.busError, some a.port, some y.id, none, none, some a.localAddr, some a.hostAddr⟩
    (y.state = .active → y.kind = .read → q.isWrite = false →
        exec (.targetAnswer p (.accept data)) s =
          .next ((if a.prefetchable = true then fillTest a else id) { closed with
            tags := s.tags.set k { y with
              state := .ready, status := .ok, busPending := false, data := data }
            ready := s.ready ++ [k] }))
      ∧ (y.state = .active → y.kind = .write → q.isWrite = true →
        exec (.targetAnswer p (.accept data)) s = .next { closed with
          tags := s.tags.set k { y with state := .ready, status := .ok, busPending := false }
          ready := s.ready ++ [k] })
      ∧ (y.state = .active → exec (.targetAnswer p .error) s = .next { closed with
          tags := s.tags.set k { y with state := .ready, status := .busError, busPending := false }
          ready := s.ready ++ [k], faults := faulted s .accessFailed failure })
      ∧ (∀ r : Answer, r = .error ∨ r = .retry ∨ r = .accept data →
        (y.state = .discarding → exec (.targetAnswer p r) s =
          .next { closed with tags := s.tags.set k Tag.zero })
        ∧ (y.state = .ready → exec (.targetAnswer p r) s =
          .next { closed with tags := s.tags.set k { y with busPending := false } }))

/-- A RETRY, or a silence through a window that is not volatile, is repeated after the captured retry
delay while the retries used are below the captured limit: an ACTIVE READ, WRITE or MODIFY read half
returns to its place in its port's list, and so does a POST that no FLUSH has reached; a MODIFY write
half keeps the lock and waits on the port. Otherwise the request ends with RETRY-EXHAUSTED or NO-
RESPONSE, a write half with WRITE-FAILED. An entry that is READY with bus pending or DISCARDING takes the
outcome as a dropped result, but a write half is repeated for it too. A write is seen by the read-ahead
line either way, which keeps its line address. (RESPONSE_LIMIT_EXPIRY acts whatever time is left, log
entry 3; places and the line address are log entries 12 and 11; that a write half's hold-off stands in
its tag in READY and DISCARDING too is entry 23. How a POST ends is another statement's,
PostEndsAndFenceCounts.) -/
def Obligations.RepeatedOutcomesReturnToTheList : Prop :=
  ∀ (p : Fin 4) (c : Instr) (q : Txn) (s : State), s.pins.resetLow = false →
    (s.ports.get p).txn = some q → (c = .targetAnswer p .retry ∨ c = .responseLimitExpiry p) →
    let seen := fun x : Port => if q.isWrite = true then writeSeen x q.localAddr else x
    let closed : State := { s with ports := s.ports.set p (seen (ended (s.ports.get p) none)) }
    let hold := some (4 * q.retryDelay.toNat)
    let again := fun (v : Bool) (n : Nat) =>
      n < q.retryLimit.toNat ∧ (c = .targetAnswer p .retry ∨ v = false)
    let final := if c = .targetAnswer p .retry then Status.retryExhausted else .noResponse
    let inPlace := fun (e : Entry) (place : Nat) (lists' : Table (List Entry) 4) =>
      (∀ r, r ≠ p → lists'.get r = s.lists.get r)
        ∧ ∃ pre post, s.lists.get p = pre ++ post ∧ lists'.get p = pre ++ e :: post
          ∧ (∀ e' ∈ pre, placeOf s e' ≤ place) ∧ (∀ e' ∈ post.head?, place < placeOf s e')
    let settled := fun (k : Fin 32) (st : Status) => { closed with
      tags := s.tags.set k { s.tags.get k with state := .ready, status := st, busPending := false }
      ready := s.ready ++ [k]
      faults := faulted s .accessFailed ⟨st, (s.tags.get k).access.map Access.port,
        some (s.tags.get k).id, none, none, (s.tags.get k).access.map Access.localAddr,
        (s.tags.get k).access.map Access.hostAddr⟩ }
    let dropped := fun k : Fin 32 =>
      ((s.tags.get k).state = .discarding →
        exec c s = .next { closed with tags := s.tags.set k Tag.zero })
      ∧ ((s.tags.get k).state = .ready →
        exec c s = .next { closed with
          tags := s.tags.set k { s.tags.get k with busPending := false } })
    (∀ k a, (q.initiator = .request k ∨ q.initiator = .modifyRead k) →
      (s.tags.get k).access = some a →
      let y := s.tags.get k
      (y.state = .active → again a.isVolatile y.retries →
        ∃ lists' : Table (List Entry) 4, exec c s = .next { closed with
            tags := s.tags.set k { y with
              state := .queued, retries := y.retries + 1, holdOff := hold }
            lists := lists' }
          ∧ inPlace (.tag k) y.place lists')
      ∧ (y.state = .active → ¬again a.isVolatile y.retries → exec c s = .next (settled k final))
      ∧ dropped k)
    ∧ (∀ k a, q.initiator = .modifyWrite k → (s.tags.get k).access = some a →
      let y := s.tags.get k
      (again a.isVolatile y.retries → exec c s = .next { s with
          ports := s.ports.set p (seen (ended (s.ports.get p) (s.ports.get p).lock))
          tags := s.tags.set k { y with retries := y.retries + 1, holdOff := hold } })
      ∧ (¬again a.isVolatile y.retries →
        (y.state = .active → exec c s = .next (settled k .writeFailed)) ∧ dropped k))
    ∧ (∀ k y, q.initiator = .post k → s.pool.get k = some y → y.flushed = false →
      (again y.isVolatile y.retries →
        ∃ lists' : Table (List Entry) 4, exec c s = .next { closed with
            pool := s.pool.set k (some { y with retries := y.retries + 1, holdOff := hold })
            lists := lists' }
          ∧ inPlace (.post k) y.place lists')
      ∧ (¬again y.isVolatile y.retries → y.covering = [] → exec c s = .next { closed with
          pool := s.pool.set k none
          faults := faulted s .postedFailed
            ⟨final, some y.port, none, none, none, some y.localAddr, some y.hostAddr⟩ }))

/-- A POST that ends, by any outcome that the port does not repeat, frees its slot, with a POSTED-FAILED
fault on a failure; one that a FLUSH has reached ends by whatever outcome, RETRY and silence included,
and reports none. Every FENCE in WAITING that covers it counts the end, a failure as failed; those whose
last one it is become READY with OK, in the order in which they cover it, that of their admission
(FenceLaw). (RESPONSE_LIMIT_EXPIRY acts whatever time is left, log entry 3; the read-ahead line keeps its
line address, log entry 11.) -/
def Obligations.PostEndsAndFenceCounts : Prop :=
  ∀ (p : Fin 4) (k : Fin 32) (q : Txn) (y : Posted) (c : Instr) (s : State),
    s.pins.resetLow = false → (s.ports.get p).txn = some q → q.initiator = .post k →
    q.isWrite = true → s.pool.get k = some y → EndsTxn p c →
    (y.flushed = true ∨ ¬Repeated c q y.isVolatile y.retries) →
    let closed : State := { s with
      pool := s.pool.set k none
      ports := s.ports.set p (writeSeen (ended (s.ports.get p) none) q.localAddr)
      faults := if endsOk c = true ∨ y.flushed = true then s.faults
        else faulted s .postedFailed
          ⟨failure c, some y.port, none, none, none, some y.localAddr, some y.hostAddr⟩ }
    (y.covering = [] → exec c s = .next closed)
      ∧ (y.covering.Nodup →
        (∀ t ∈ y.covering, (s.tags.get t).state = .waiting ∧ 0 < (s.tags.get t).outstanding) →
        ∃ tags' : Table Tag 32, exec c s = .next { closed with
            tags := tags'
            ready := s.ready ++ y.covering.filter fun t => (s.tags.get t).outstanding == 1 }
          ∧ ∀ t, let z := s.tags.get t
            let counted : Tag := { z with
              outstanding := z.outstanding - 1
              failed := if endsOk c = true then z.failed else z.failed + 1 }
            (t ∉ y.covering → tags'.get t = z)
            ∧ (t ∈ y.covering → 1 < z.outstanding → tags'.get t = counted)
            ∧ (t ∈ y.covering → z.outstanding = 1 →
              tags'.get t = { counted with state := .ready, status := .ok, busPending := false }))

/-- The two halves of a MODIFY. A good read half takes the lock, with the old value read and the new value
computed from the low size bytes, and sets them in an ACTIVE tag; the write half ends the lock, and the
entry becomes READY with OK or, on ERROR, with WRITE-FAILED. A read half that ends with ERROR makes no
write and takes no lock. An entry that is READY with bus pending or DISCARDING keeps its fields: a good
read half still takes the lock, and the end of the operation is a dropped result. (RETRY and silence are
another statement's, RepeatedOutcomesReturnToTheList. The read-ahead line keeps its line address, log
entry 11.) -/
def Obligations.ModifyReadsLocksAndWrites : Prop :=
  ∀ (p : Fin 4) (k : Fin 32) (q : Txn) (a : Access) (data : List Byte) (s : State),
    s.pins.resetLow = false → (s.ports.get p).txn = some q →
    (s.tags.get k).access = some a →
    (a.count = 1 ∨ a.count = 2 ∨ a.count = 4) → q.size = a.count →
    let y := s.tags.get k
    let mask := BitVec.ofNat 32 (256 ^ a.count - 1)
    let old : Word := BitVec.ofNat 32 (data.foldl (fun n b => n * 256 + b.toNat) 0)
    let new := (((old &&& ~~~y.clearMask) ||| y.setMask) ^^^ y.invertMask) &&& mask
    let failed := fun st : Status => faulted s .accessFailed
      ⟨st, some a.port, some y.id, none, none, some a.localAddr, some a.hostAddr⟩
    let locked : State := { s with
      ports := s.ports.set p (ended (s.ports.get p) (some ⟨k, old, new⟩)) }
    let unlocked : State := { s with ports := s.ports.set p (ended (s.ports.get p) none) }
    let written : State := { s with
      ports := s.ports.set p (writeSeen (ended (s.ports.get p) none) q.localAddr) }
    let settled := fun (t : State) (st : Status) => { t with
      tags := s.tags.set k { y with state := .ready, status := st, busPending := false }
      ready := s.ready ++ [k] }
    let drops := fun (r : Answer) (t : State) =>
      (y.state = .discarding →
        exec (.targetAnswer p r) s = .next { t with tags := s.tags.set k Tag.zero })
      ∧ (y.state = .ready →
        exec (.targetAnswer p r) s = .next { t with tags := s.tags.set k { y with busPending := false } })
    (q.initiator = .modifyRead k → q.isWrite = false →
      (data.length = a.count → y.state = .active →
        exec (.targetAnswer p (.accept data)) s = .next { locked with
          tags := s.tags.set k { y with retries := 0, oldNew := some (old, new) } })
      ∧ (data.length = a.count → (y.state = .ready ∨ y.state = .discarding) →
        exec (.targetAnswer p (.accept data)) s = .next { locked with
          tags := s.tags.set k { y with retries := 0 } })
      ∧ (y.state = .active → exec (.targetAnswer p .error) s =
          .next { settled unlocked .busError with faults := failed .busError })
      ∧ drops .error unlocked)
    ∧ (q.initiator = .modifyWrite k → q.isWrite = true →
      (y.state = .active →
        exec (.targetAnswer p (.accept data)) s = .next (settled written .ok)
        ∧ exec (.targetAnswer p .error) s =
          .next { settled written .writeFailed with faults := failed .writeFailed })
      ∧ drops (.accept data) written ∧ drops .error written)

/-- The end of a read-ahead fill: OK with no void mark makes the line valid with the bytes read; OK with
the mark, ERROR, RETRY and silence drop the data and leave the line; the mark becomes no. At the end of
a write transaction, whatever its initiator and its outcome, the port has no valid line in the 64-byte
block of the write. (RESPONSE_LIMIT_EXPIRY acts whatever time is left, log entry 3.) -/
def Obligations.LineIsSetByFillsAndDiscardedByWrites : Prop :=
  (∀ (p : Fin 4) (q : Txn) (data : List Byte) (s : State), s.pins.resetLow = false →
      (s.ports.get p).txn = some q → q.initiator = .fill → q.isWrite = false →
      data.length = q.size →
      let x := ended (s.ports.get p) none
      let dropped : State := { s with ports := s.ports.set p { x with voidMark := false } }
      ((s.ports.get p).voidMark = false → exec (.targetAnswer p (.accept data)) s =
          .next { s with
            ports := s.ports.set p { x with
            lineValid := true, lineAddr := q.localAddr, lineData := data, voidMark := false } })
        ∧ ((s.ports.get p).voidMark = true →
          exec (.targetAnswer p (.accept data)) s = .next dropped)
        ∧ exec (.targetAnswer p .error) s = .next dropped
        ∧ exec (.targetAnswer p .retry) s = .next dropped
        ∧ exec (.responseLimitExpiry p) s = .next dropped)
  ∧ (∀ (p : Fin 4) (c : Instr) (q : Txn) (s t : State), s.pins.resetLow = false →
      (s.ports.get p).txn = some q → q.isWrite = true →
      ((∃ r, c = .targetAnswer p r) ∨ c = .responseLimitExpiry p) → exec c s = .next t →
      (t.ports.get p).lineValid = true →
      (t.ports.get p).lineAddr.toNat ≠ q.localAddr.toNat / 64 * 64)

/-! ## Jobs (05) -/

/-- The next chunk of a RUNNING slot with bytes remaining and no current chunk: its length is the smallest
of the chunk size, the bytes remaining, and the bytes to the end of the 64-byte block of each local
address its kind uses; its first transaction, a read of COPY and CHECK or the pattern write of FILL, is
offered to its port with retries used 0. (The address of a
range that the kind does not use is the model's choice, log entry 20.) -/
def Obligations.NextChunkIsLaidOutAndOffered : Prop :=
  ∀ (j : Fin 4) (s : State) (d : Descriptor) (r : RunDecode),
    (s.jobs.get j).state = .running → (s.jobs.get j).chunk = none →
    (s.jobs.get j).active = some d → (s.jobs.get j).run = some r →
    let x := s.jobs.get j
    0 < x.bytesLeft →
    (∀ src : RangeDecode, r.source = some src → d.kind ≠ .fill →
      let a := src.localStart + BitVec.ofNat 32 x.bytesDone
      let b := nextAddr r.destination x.bytesDone
      ∃ n : Nat, n ≤ d.chunkSize.toNat ∧ n ≤ x.bytesLeft ∧ a.toNat % 64 + n ≤ 64
        ∧ (d.kind = .copy → b.toNat % 64 + n ≤ 64)
        ∧ (n = d.chunkSize.toNat ∨ n = x.bytesLeft ∨ a.toNat % 64 + n = 64
            ∨ (d.kind = .copy ∧ b.toNat % 64 + n = 64))
        ∧ layOut j s = { s with
          jobs := s.jobs.set j { x with chunk := some ⟨n, a, b, .read, false⟩ }
          ports := s.ports.set src.port { s.ports.get src.port with
            offers := (s.ports.get src.port).offers.set j
              (some ⟨false, a, n, [], src.isVolatile, 0, none, false⟩) } })
    ∧ (∀ dst : RangeDecode, r.destination = some dst → d.kind = .fill →
      let a := nextAddr r.source x.bytesDone
      let b := dst.localStart + BitVec.ofNat 32 x.bytesDone
      ∃ (n : Nat) (data : List Byte), n ≤ d.chunkSize.toNat ∧ n ≤ x.bytesLeft
        ∧ b.toNat % 64 + n ≤ 64
        ∧ (n = d.chunkSize.toNat ∨ n = x.bytesLeft ∨ b.toNat % 64 + n = 64)
        ∧ data.length = n
        ∧ (∀ i, i < n → data[i]? = some (d.pattern.extractLsb' (24 - 8 * ((x.bytesDone + i) % 4)) 8))
        ∧ layOut j s = { s with
          jobs := s.jobs.set j { x with chunk := some ⟨n, a, b, .write, false⟩ }
          ports := s.ports.set dst.port { s.ports.get dst.port with
            offers := (s.ports.get dst.port).offers.set j
              (some ⟨true, b, n, data, dst.isVolatile, 0, none, false⟩) } })

/-- A job start is validated against the window table: the source range, the destination range, the write
permission of the destination, each only if the kind uses it; a range lies wholly in one enabled window.
The decode that the job keeps holds the port, the local start, the window index and the four attributes.
-/
def Obligations.JobStartIsValidated : Prop :=
  ∀ (t : Table Window 16) (d : Descriptor), WindowLaw t → 0 < d.length.toNat →
    let inside := fun (a : Word) (i : Fin 16) => (t.get i).enabled = true ∧ InRange (t.get i) a
      ∧ a.toNat + d.length.toNat ≤ (t.get i).hostBase.toNat + 2 ^ (t.get i).sizeCode.val
    let decoded := fun (a : Word) (i : Fin 16) =>
      RangeDecode.mk i (t.get i).port ((t.get i).localBase + (a - (t.get i).hostBase))
        (t.get i).isVolatile (t.get i).prefetchable (t.get i).readOnly (t.get i).postable
    (d.kind ≠ .fill → (∀ i, ¬inside d.source i) → validate t d = .error ⟨.unmapped, d.source⟩)
      ∧ (∀ i, inside d.source i → d.kind = .check →
          validate t d = .ok ⟨some (decoded d.source i), none⟩)
      ∧ (d.kind = .fill ∨ (d.kind = .copy ∧ ∃ i, inside d.source i) →
        ((∀ k, ¬inside d.destination k) → validate t d = .error ⟨.unmapped, d.destination⟩)
        ∧ (∀ k, inside d.destination k → (t.get k).readOnly = true →
            validate t d = .error ⟨.isProtected, d.destination⟩))
      ∧ (∀ k, inside d.destination k → (t.get k).readOnly = false →
        (d.kind = .fill → validate t d = .ok ⟨none, some (decoded d.destination k)⟩)
        ∧ (∀ i, inside d.source i → d.kind = .copy →
            validate t d = .ok ⟨some (decoded d.source i), some (decoded d.destination k)⟩))

/-- JOB-LOAD into a slot that is not started makes the descriptor active with reset progress, LOADED, and
with start-on-load starts it as JOB-START does, or answers the status of the failed validation; into a
started slot it stages it. JOB-START runs a LOADED job that validates, and is refused with STATE in
every other state. -/
def Obligations.JobLoadAndStart : Prop :=
  ∀ (f : FrameHead) (id : Half) (j : Fin 4) (s : State), Expected f s → Room s →
    let x := s.jobs.get j
    let b : Byte := BitVec.ofNat 8 j.val
    let started := x.state = .running ∨ x.state = .pausing ∨ x.state = .paused ∨ x.state = .stopping
    let runs := fun (y : JobSlot) (r : RunDecode) =>
      layOut j { took s with jobs := s.jobs.set j { y with state := .running, run := some r } }
    (∀ body, body.length = 20 → fieldsOk .jobLoad body = true → body.head? = some b →
      let d := descriptorOf body
      let y : JobSlot := { x with
        state := .loaded, active := some d, bytesDone := 0, bytesLeft := d.length.toNat
        crc := 0xFFFFFFFF#32, failStatus := none, failAddr := none }
      let loaded : State := { took s with jobs := s.jobs.set j y }
      let replaced := yesNo x.active.isSome
      (started → exec (.jobLoad f id body) s = .next (answer
          { took s with jobs := s.jobs.set j { x with staged := some d } } id 0x40 0
          [b, yesNo x.staged.isSome, x.state.code]))
      ∧ (¬started → d.startOnLoad = false →
          exec (.jobLoad f id body) s = .next (answer loaded id 0x40 0 [b, replaced, 1]))
      ∧ (¬started → d.startOnLoad = true → ∀ e, validate s.windows d = .error e →
          exec (.jobLoad f id body) s = .next (answer loaded id 0x40 e.status.code [b, replaced, 1]))
      ∧ (¬started → d.startOnLoad = true → ∀ r, validate s.windows d = .ok r →
          exec (.jobLoad f id body) s = .next (answer (runs y r) id 0x40 0 [b, replaced, 2])))
    ∧ (∀ d, x.state = .loaded → x.active = some d →
      (∀ e, validate s.windows d = .error e →
        exec (.jobStart f id [b]) s = .next (answer (took s) id 0x41 e.status.code [b, 1]))
      ∧ (∀ r, validate s.windows d = .ok r →
        exec (.jobStart f id [b]) s = .next (answer (runs x r) id 0x41 0 [b, 2])))
    ∧ (x.state ≠ .loaded →
      exec (.jobStart f id [b]) s = .next (answer (took s) id 0x41 18 [b, x.state.code]))

/-- JOB-PAUSE, JOB-RESUME and JOB-STOP by the slot's state: with a chunk in flight the slot waits for it
in PAUSING or STOPPING; with none, an offered chunk is withdrawn, and the slot is PAUSED, or the job
ends STOPPED; a PAUSED job goes on with its next chunk; every other state is refused with STATE. -/
def Obligations.JobPauseResumeAndStop : Prop :=
  ∀ (f : FrameHead) (id : Half) (j : Fin 4) (s : State), Expected f s → Room s →
    let x := s.jobs.get j
    let b : Byte := BitVec.ofNat 8 j.val
    let inFlight := ∃ c, x.chunk = some c ∧ c.started = true
    let turned := fun st : JobState => { took s with jobs := s.jobs.set j { x with state := st } }
    let withdrawn : State := { took s with
      jobs := s.jobs.set j { x with chunk := none }
      ports := s.ports.map fun y => { y with offers := y.offers.set j none } }
    let pause := fun t => exec (.jobPause f id [b]) s = .next t
    let resume := fun t => exec (.jobResume f id [b]) s = .next t
    let stop := fun t => exec (.jobStop f id [b]) s = .next t
    let stopped := fun t : State =>
      stop (answer (endJob j .stopped t) id 0x44 0 [b, ((endJob j .stopped t).jobs.get j).state.code])
    (x.state = .running → inFlight → pause (answer (turned .pausing) id 0x42 0 [b, 3])
        ∧ stop (answer (turned .stopping) id 0x44 0 [b, 5]))
      ∧ (x.state = .running → ¬inFlight →
        pause (answer { withdrawn with
          jobs := s.jobs.set j { x with chunk := none, state := .paused } } id 0x42 0 [b, 4])
        ∧ stopped withdrawn)
      ∧ (x.state = .pausing → resume (answer (turned .running) id 0x43 0 [b, 2])
        ∧ stop (answer (turned .stopping) id 0x44 0 [b, 5]))
      ∧ (x.state = .paused → resume (answer (layOut j (turned .running)) id 0x43 0 [b, 2])
        ∧ stopped (took s))
      ∧ (x.state ≠ .running → pause (answer (took s) id 0x42 18 [b, x.state.code]))
      ∧ (x.state ≠ .pausing → x.state ≠ .paused →
          resume (answer (took s) id 0x43 18 [b, x.state.code]))
      ∧ (x.state ≠ .running → x.state ≠ .pausing → x.state ≠ .paused →
          stop (answer (took s) id 0x44 18 [b, x.state.code]))

/-- A job's end: the run decode is dropped, the chunk clear, and with notify set the content recorded and
the JOB-NOTICE called for. Without a staged descriptor the slot rests in the end state; a staged one
becomes active with reset progress, LOADED, and after DONE with start-on-load it is validated and runs,
or fails at once with a JOB-FAILED fault. -/
def Obligations.JobEndsInOrder : Prop :=
  ∀ (j : Fin 4) (e : JobState) (s : State) (d : Descriptor),
    (e = .done ∨ e = .stopped ∨ e = .failed) → (s.jobs.get j).active = some d →
    let x := s.jobs.get j
    let content : JobContent :=
      ⟨e, x.bytesDone, x.crc ^^^ 0xFFFFFFFF#32, x.failStatus, x.failAddr⟩
    let recorded := fun (y : JobSlot) (c : JobContent) =>
      match y.notice with
      | .settled => { y with latest := some c, notice := .due }
      | .due => { y with latest := some c, overwritten := satInc y.overwritten }
      | .sent => { y with
          latest := some c
          overwritten := if y.latest.isSome then satInc y.overwritten else y.overwritten }
    let y : JobSlot := { x with state := e, run := none, chunk := none }
    let z := if d.notify = true then recorded y content else y
    let fresh := fun d' : Descriptor => { z with
      active := some d', staged := none, state := .loaded, bytesDone := 0
      bytesLeft := d'.length.toNat, crc := 0xFFFFFFFF#32, failStatus := none, failAddr := none }
    (x.staged = none → endJob j e s = { s with jobs := s.jobs.set j z })
      ∧ (∀ d', x.staged = some d' → (e ≠ .done ∨ d'.startOnLoad = false) →
          endJob j e s = { s with jobs := s.jobs.set j (fresh d') })
      ∧ (∀ d', x.staged = some d' → e = .done → d'.startOnLoad = true →
        (∀ r, validate s.windows d' = .ok r → endJob j e s =
          layOut j { s with jobs := s.jobs.set j { fresh d' with state := .running, run := some r } })
        ∧ (∀ v, validate s.windows d' = .error v →
          let w : JobSlot := { fresh d' with state := .failed, failStatus := some v.status }
          endJob j e s = { s with
            jobs := s.jobs.set j (if d'.notify = true then
              recorded w ⟨.failed, 0, 0, some v.status, none⟩ else w)
            faults := faulted s .jobFailed
              ⟨v.status, none, none, some j, none, none, some v.hostAddr⟩ }))

/-- The end of a chunk's transaction on its port. A COPY read that ends OK fills the buffer and offers
the write on its port, every other field of both ports being as the end leaves it; the last transaction
of a chunk counts and folds its bytes, and the slot then goes on, pauses, stops or is DONE
(JobEndsInOrder says what an end does); an outcome that fails ends the job FAILED with a JOB-FAILED fault
and counts nothing. A RETRY, or a silence that is not volatile, puts the chunk back among the offers in
hold-off while retries remain. A slot that a FLUSH winds down takes any final outcome without progress or
fault: it is EMPTY, or LOADED with a descriptor staged since. (RESPONSE_LIMIT_EXPIRY acts whatever time
is left, log entry 3; the read-ahead line keeps its line address, log entry 11; where a read's bytes
stand in the chunk buffer is entry 22.) -/
def Obligations.ChunkEndsAdvanceTheJob : Prop :=
  ∀ (p j : Fin 4) (q : Txn) (o : Offer) (data : List Byte) (s : State),
    s.pins.resetLow = false → (s.ports.get p).txn = some q → q.initiator = .chunk j o →
    q.isWrite = o.isWrite → q.size = o.size → q.localAddr = o.localAddr →
    (q.isWrite = false → data.length = q.size) →
    let x := s.jobs.get j
    let after := if q.isWrite = true then writeSeen (ended (s.ports.get p) none) q.localAddr
      else ended (s.ports.get p) none
    let closed : State := { s with ports := s.ports.set p after }
    let emptied : JobSlot := { x with
      state := .empty, active := none, staged := none, run := none, bytesDone := 0, bytesLeft := 0
      crc := 0xFFFFFFFF#32, failStatus := none, failAddr := none, chunk := none, flushMark := false }
    (∀ c, EndsTxn p c → Repeated c q o.isVolatile o.retries →
      exec c s = .next { s with
        ports := s.ports.set p { after with
          offers := after.offers.set j
            (some { o with retries := o.retries + 1, holdOff := some (4 * q.retryDelay.toNat) }) } })
    ∧ (x.flushMark = true → ∀ c, EndsTxn p c → ¬Repeated c q o.isVolatile o.retries →
      exec c s = .next { closed with
        jobs := s.jobs.set j (match x.staged with
          | none => emptied
          | some d => { emptied with state := .loaded, active := some d, bytesLeft := d.length.toNat }) })
    ∧ (x.flushMark = false → ∀ d c, x.active = some d → x.chunk = some c →
      let bytes := if o.isWrite = true then o.data else data
      let y : JobSlot := { x with
        crc := bytes.foldl crc32Byte x.crc, bytesDone := x.bytesDone + o.size
        bytesLeft := x.bytesLeft - o.size, chunk := none }
      let counted : State := { closed with jobs := s.jobs.set j y }
      let ends := fun t : State => exec (.targetAnswer p (.accept data)) s = .next t
      let last := o.isWrite = true ∨ d.kind ≠ .copy
      (d.kind = .copy → o.isWrite = false → ∀ r w, x.run = some r → r.destination = some w →
        ends { closed with
          jobs := s.jobs.set j { x with
            buffer := data ++ x.buffer.drop data.length, chunk := some { c with phase := .write } }
          ports := closed.ports.set w.port { closed.ports.get w.port with
            offers := (closed.ports.get w.port).offers.set j
              (some ⟨true, c.destination, c.length, data, w.isVolatile, 0, none, false⟩) } })
      ∧ (last → o.size < x.bytesLeft → x.state = .pausing →
          ends { closed with jobs := s.jobs.set j { y with state := .paused } })
      ∧ (last → o.size < x.bytesLeft → x.state = .running → ends (layOut j counted))
      ∧ (last → o.size < x.bytesLeft → x.state = .stopping → ends (endJob j .stopped counted))
      ∧ (last → x.bytesLeft = o.size → ends (endJob j .done counted))
      ∧ (x.staged = none → last → x.bytesLeft = o.size → d.notify = false →
          ends { closed with jobs := s.jobs.set j { y with state := .done, run := none } })
      ∧ (∀ e, EndsTxn p e → endsOk e = false → ¬Repeated e q o.isVolatile o.retries →
        let z : JobSlot := { x with
          failStatus := some (failure e), failAddr := some o.localAddr, chunk := none }
        let fault := faulted s .jobFailed ⟨failure e, some p, none, some j, none, some o.localAddr,
          some ((if o.isWrite = true then d.destination else d.source)
            + BitVec.ofNat 32 x.bytesDone)⟩
        exec e s = .next (endJob j .failed { closed with jobs := s.jobs.set j z, faults := fault })
        ∧ (x.staged = none → d.notify = false → exec e s = .next { closed with
            jobs := s.jobs.set j { z with state := .failed, run := none }, faults := fault })))

/-! ## Interrupt sources (06) -/

/-- IRQ-SET by the request's enabled field and the source's state: taken in IDLE and PENDING, a disabling
one in FETCHING and DUE too; an enabling one is refused with MISALIGNED when an address is no multiple
of its size; every other with STATE. A taken one replaces the configuration, keeps the mask, and an
enabled IDLE source that asks for service starts its cycle. (The place of the operation is the
model's, log entry 12.) -/
def Obligations.IrqSetReplacesTheConfiguration : Prop :=
  ∀ (f : FrameHead) (id : Half) (i : Fin 32) (body : List Byte) (s : State),
    Expected f s → Room s → body.length = 20 → fieldsOk .irqSet body = true →
    body.head? = some (BitVec.ofNat 8 i.val) →
    let x := s.sources.get i
    let on := u8 body 1 = 1
    let level := u8 body 2 = 0
    let v := if u8 body 4 = 1 then some (VectorRead.mk (u32 body 5) (u8 body 9).toNat) else none
    let w := if u8 body 10 = 1 then
      some (AckWrite.mk (u32 body 11) (u32 body 15) (u8 body 19).toNat) else none
    let misaligned := (∃ r, v = some r ∧ r.localAddr.toNat % r.size ≠ 0)
      ∨ (∃ r, w = some r ∧ r.localAddr.toNat % r.size ≠ 0)
    let y : Source := { x with
      enabled := decide on, trigger := if level then .level else .edge
      priority := Fin.ofNat 4 (u8 body 3).toNat
      vectorRead := v, ackWrite := w
      latch := if ¬on ∨ level then false else x.latch
      coalesced := if on then x.coalesced else 0 }
    let set := fun z : Source => { took s with sources := s.sources.set i z }
    let replies := fun (t : State) (st : Byte) => exec (.irqSet f id body) s =
      .next (answer t id 0x50 st [BitVec.ofNat 8 i.val, (t.sources.get i).state.code])
    (on → x.state ≠ .idle → x.state ≠ .pending → replies (took s) 18)
      ∧ (on → (x.state = .idle ∨ x.state = .pending) → misaligned → replies (took s) 7)
      ∧ (on → (x.state = .idle ∨ x.state = .pending) → ¬misaligned →
        (Ripe (set y) i → replies (cycleStarted (set y) i) 0)
        ∧ (¬Ripe (set y) i → replies (set y) 0))
      ∧ (¬on → (x.state = .sent ∨ x.state = .notified ∨ x.state = .acking) → replies (took s) 18)
      ∧ (¬on → (x.state = .idle ∨ x.state = .fetching) → replies (set y) 0)
      ∧ (¬on → (x.state = .pending ∨ x.state = .due) → replies (set { y with state := .idle }) 0)

/-- IRQ-MASK of one source: the masked field takes the value; a DUE source that is masked has its notice
withdrawn to PENDING, a PENDING source that is unmasked goes on, an IDLE one is judged. Never refused.
With 255 every source takes the masked field, whatever the order in which the sources are judged (a free
order, log entry 5; places are log entry 12): masked, each DUE source is PENDING and the others keep
their states; unmasked, each PENDING source goes on to FETCHING with a vector read and else to DUE, each
IDLE one that asks for service with no operation in flight starts its cycle, and the others keep
everything but the mask. The port queues grow by the vector reads so asked and by nothing else, and the
rest of the part is left alone. -/
def Obligations.IrqMaskActsByTheSourcesState : Prop :=
  (∀ (f : FrameHead) (id : Half) (i : Fin 32) (v : Bool) (s : State), Expected f s → Room s →
      let b : Byte := BitVec.ofNat 8 i.val
      let x := s.sources.get i
      let set := fun z : Source => { took s with sources := s.sources.set i z }
      let replies := fun t : State =>
        exec (.irqMask f id [b, if v = true then 1 else 0]) s = .next (answer t id 0x51 0 [b])
      (v = true → x.state ≠ .due → replies (set { x with masked := true }))
        ∧ (v = true → x.state = .due → replies (set { x with masked := true, state := .pending }))
        ∧ (v = false → x.state ≠ .idle → x.state ≠ .pending → replies (set { x with masked := false }))
        ∧ (v = false → x.state = .pending →
            replies (cycleGoesOn (set { x with masked := false }) i { x with masked := false }))
        ∧ (v = false → x.state = .idle →
          (Ripe (set { x with masked := false }) i →
            replies (cycleStarted (set { x with masked := false }) i))
          ∧ (¬Ripe (set { x with masked := false }) i → replies (set { x with masked := false }))))
  ∧ (∀ (f : FrameHead) (id : Half) (v : Bool) (s : State), Expected f s → Room s →
      ∃ t, exec (.irqMask f id [255, if v = true then 1 else 0]) s = .next (answer t id 0x51 0 [255])
        ∧ t = { took s with
            sources := t.sources, ports := t.ports, nextPlace := t.nextPlace
            freeDraws := s.freeDraws + 1 }
        ∧ (v = true → t.ports = s.ports ∧ t.nextPlace = s.nextPlace ∧ ∀ i,
            let x := s.sources.get i
            t.sources.get i = { x with
              masked := true, state := if x.state = .due then .pending else x.state })
        ∧ (v = false →
          (∀ i, let x := s.sources.get i
            let y : Source := { x with masked := false }
            let z : Source := if x.state = .pending then y
              else { y with latch := false, behindFlush := false }
            let goes := x.state = .pending ∨ Ripe s i
            (¬goes → t.sources.get i = y)
            ∧ (goes → x.vectorRead = none →
              t.sources.get i = { z with state := .due, vecStatus := none, vecValue := 0 })
            ∧ (goes → x.vectorRead.isSome = true →
              t.sources.get i = { z with state := .fetching, inFlight := true }))
          ∧ (∀ p, ∃ asked : List IrqOp,
            t.ports.get p = { s.ports.get p with opQueue := (s.ports.get p).opQueue ++ asked }
            ∧ (asked.map IrqOp.source).Nodup ∧ asked.Pairwise (fun a b => a.place < b.place)
            ∧ (∀ op ∈ asked, op.source.val / 8 = p.val ∧ s.nextPlace ≤ op.place ∧ op.place < t.nextPlace
              ∧ ((s.sources.get op.source).state = .pending ∨ Ripe s op.source)
              ∧ ∃ v, (s.sources.get op.source).vectorRead = some v
                ∧ op = ⟨op.source, false, v.localAddr, v.size, 0, 0, none, op.place, false⟩)
            ∧ (∀ i : Fin 32, i.val / 8 = p.val →
              ((s.sources.get i).state = .pending ∨ Ripe s i) →
              (s.sources.get i).vectorRead.isSome = true → ∃ op ∈ asked, op.source = i))
          ∧ t.nextPlace = s.nextPlace + ((Table.indices 4).map fun p =>
              (t.ports.get p).opQueue.length - (s.ports.get p).opQueue.length).sum))

/-- IRQ-DONE closes the cycle of a NOTIFIED source: with an acknowledge write the source is ACKING and the
write is asked of its port; without, it is IDLE, and at once in its next cycle if it asks for service.
Every other state is refused with STATE. (The place of the operation is the model's, log entry 12.) -/
def Obligations.IrqDoneClosesTheCycle : Prop :=
  ∀ (f : FrameHead) (id : Half) (i : Fin 32) (s : State), Expected f s → Room s →
    let b : Byte := BitVec.ofNat 8 i.val
    let x := s.sources.get i
    let idle := { took s with sources := s.sources.set i { x with state := .idle } }
    let replies := fun (t : State) (st : Byte) => exec (.irqDone f id [b]) s =
      .next (answer t id 0x52 st [b, (t.sources.get i).state.code])
    (x.state ≠ .notified → replies (took s) 18)
      ∧ (∀ w, x.state = .notified → x.ackWrite = some w →
          replies (asked (took s) i { x with state := .acking } true w.localAddr w.size w.value) 0)
      ∧ (x.state = .notified → x.ackWrite = none →
        (Ripe idle i → replies (cycleStarted idle i) 0) ∧ (¬Ripe idle i → replies idle 0))

/-- The end of a vector read or acknowledge write. That no FLUSH has reached: the read sets vector status
and value and goes to DUE, PENDING or IDLE by enabled and masked; the write sets the acknowledge status
and goes to IDLE, and at once in its next cycle if it asks for service; a failure, ERROR, a RETRY with no
retries left or silence, reports IRQ-FETCH-FAILED or IRQ-ACK-FAILED. One that a FLUSH has reached is
dropped: operation in flight becomes no, the source is judged, and nothing else changes. A RETRY with
retries left puts the operation back at its place in the queue, in hold-off. (The RETRY of an operation
that a FLUSH has reached is log entry 6, RESPONSE_LIMIT_EXPIRY whatever time is left entry 3, places entry
12, the line address that is kept entry 11, the mark of a cycle after a FLUSH entry 21.) -/
def Obligations.InterruptOperationEnds : Prop :=
  ∀ (p : Fin 4) (q : Txn) (op : IrqOp) (data : List Byte) (s : State), s.pins.resetLow = false →
    (s.ports.get p).txn = some q → q.initiator = .operation op →
    q.isWrite = op.isWrite → q.size = op.size →
    (q.isWrite = false → data.length = op.size ∧ data.length ≤ 4) →
    let i := op.source
    let x := s.sources.get i
    let after := if q.isWrite = true then writeSeen (ended (s.ports.get p) none) q.localAddr
      else ended (s.ports.get p) none
    let set := fun y : Source =>
      { s with ports := s.ports.set p after, sources := s.sources.set i y }
    let failed := fun (k : FaultKind) (st : Status) => faulted s k
      ⟨st, some ⟨i.val / 8, by omega⟩, none, none, some i, some op.localAddr, none⟩
    let next := if x.enabled = false then SourceState.idle else if x.masked = true then .pending else .due
    let value : Word := BitVec.ofNat 32 (data.foldl (fun n b => n * 256 + b.toNat) 0)
    let judged := fun (c : Instr) (t : State) =>
      (Ripe t i → exec c s = .next (cycleStarted t i)) ∧ (¬Ripe t i → exec c s = .next t)
    let fails := fun c : Instr =>
      EndsTxn p c ∧ endsOk c = false ∧ ¬Repeated c q true op.retries
    (op.flushed = false → op.isWrite = false →
      exec (.targetAnswer p (.accept data)) s = .next (set { x with
        inFlight := false, vecStatus := some .ok, vecValue := value, state := next })
      ∧ ∀ c, fails c → exec c s = .next { set { x with
          inFlight := false, vecStatus := some (failure c), vecValue := 0, state := next } with
        faults := failed .irqFetchFailed (failure c) })
    ∧ (op.flushed = false → op.isWrite = true →
      judged (.targetAnswer p (.accept data)) (set { x with
        inFlight := false, ackStatus := some .ok, state := .idle })
      ∧ ∀ c, fails c → judged c { set { x with
          inFlight := false, ackStatus := some (failure c), state := .idle } with
        faults := failed .irqAckFailed (failure c) })
    ∧ (op.flushed = true → ∀ c,
      (c = .targetAnswer p (.accept data) ∨ fails c) →
      let t := set { x with inFlight := false }
      (Ripe t i → exec c s = .next (cycleAfterFlush t i)) ∧ (¬Ripe t i → exec c s = .next t))
    ∧ (∀ c, EndsTxn p c → Repeated c q true op.retries →
      ∃ pre post, (s.ports.get p).opQueue = pre ++ post
        ∧ (∀ o ∈ pre, o.place ≤ op.place) ∧ (∀ o ∈ post.head?, op.place < o.place)
        ∧ exec c s = .next { s with
          ports := s.ports.set p { after with
            opQueue := pre ++ { op with
              retries := op.retries + 1, holdOff := some (4 * q.retryDelay.toNat) } :: post } })

/-! ## Part control and queries (07 R135 to R139, 04 R84, R85, 05 R106, 06 R122) -/

/-- IDENTIFY, STATUS-GET, CONFIG-GET, PORT-GET, JOB-GET and IRQ-GET are answered OK with the fields of
their REPLY in order, and change nothing else. -/
def Obligations.QueriesReportAndChangeNothing : Prop :=
  ∀ (f : FrameHead) (id : Half) (s : State), Expected f s → Room s →
    (exec (.identify f id []) s = .next (answer (took s) id 0x20 0
      [0x4C, 0x17, 0x04, 0x40, 1, 16, 4, 32, 32, 4, 8, 4, 32, 64,
        match s.settings.resetCause with
          | .power => 0
          | .pin => 1
          | .soft => 2,
        s.link.epoch]))
    ∧ (exec (.configGet f id []) s = .next (answer (took s) id 0x23 0
      [s.settings.missPolicy.code, s.settings.recordMode.code, s.settings.replayTimeout]))
    ∧ (exec (.statusGet f id []) s = .next (answer (took s) id 0x21 0
      ([BitVec.ofNat 8 (s.pool.rows.countP Option.isNone),
        BitVec.ofNat 8 (s.tags.rows.countP fun x => x.state == .free)]
      ++ ((Table.indices 4).map fun p => [(s.ports.get p).state.code, (s.ports.get p).holds.byte,
          BitVec.ofNat 8 ((s.lists.get p).countP Entry.isPost),
          BitVec.ofNat 8 ((s.lists.get p).countP fun e => !e.isPost)]).flatten
      ++ ((Table.indices 4).map fun j => (s.jobs.get j).state.code)
      ++ be16 s.link.counters.crcFailures ++ be16 s.link.counters.malformedFrames
      ++ be16 s.link.counters.outOfSequence ++ be16 s.link.counters.duplicates
      ++ be16 s.link.counters.replaysSent ++ be16 s.link.counters.strayNaks
      ++ be16 s.link.counters.waitsSent ++ be16 s.link.counters.linkDowns
      ++ be16 (summaryBits s.faults.summary))))
    ∧ (∀ p : Fin 4, let x := s.ports.get p
      exec (.portGet f id [BitVec.ofNat 8 p.val]) s = .next (answer (took s) id 0x39 0
        ([BitVec.ofNat 8 p.val, x.settings.responseLimit, x.settings.retryLimit,
          x.settings.retryDelay] ++ be16 x.settings.completionLimit
        ++ [x.settings.jobShare, x.state.code, x.holds.byte,
          BitVec.ofNat 8 ((s.lists.get p).countP Entry.isPost),
          BitVec.ofNat 8 ((s.lists.get p).countP fun e => !e.isPost), yesNo x.lineValid]
        ++ be32 x.lineAddr
        ++ (match x.pendingFill with
          | some a => 1 :: be32 a
          | none => [0, 0, 0, 0, 0]))))
    ∧ (∀ j : Fin 4, let x := s.jobs.get j
      exec (.jobGet f id [BitVec.ofNat 8 j.val]) s = .next (answer (took s) id 0x45 0
        ([BitVec.ofNat 8 j.val, x.state.code, yesNo x.active.isSome] ++ descriptorBytes x.active
        ++ be32 (BitVec.ofNat 32 x.bytesDone) ++ be32 (BitVec.ofNat 32 x.bytesLeft)
        ++ be32 (x.crc ^^^ 0xFFFFFFFF#32)
        ++ [bitsByte [x.failStatus.isSome, x.failAddr.isSome, x.staged.isSome, x.inFlight,
            x.flushMark], (x.failStatus.map Status.code).getD 0]
        ++ be32 (x.failAddr.getD 0) ++ descriptorBytes x.staged
        ++ (match x.chunk with
          | some c => if c.started = true then [c.phase.code, BitVec.ofNat 8 c.length] else [0, 0]
          | none => [0, 0])
        ++ [x.notice.code, x.overwritten])))
    ∧ (∀ i : Fin 32, let x := s.sources.get i
      exec (.irqGet f id [BitVec.ofNat 8 i.val]) s = .next (answer (took s) id 0x53 0
        ([BitVec.ofNat 8 i.val, yesNo x.enabled, x.trigger.code, BitVec.ofNat 8 x.priority.val]
        ++ (match x.vectorRead with
          | some v => [1] ++ be32 v.localAddr ++ [BitVec.ofNat 8 v.size]
          | none => List.replicate 6 0)
        ++ (match x.ackWrite with
          | some w => [1] ++ be32 w.localAddr ++ be32 w.value ++ [BitVec.ofNat 8 w.size]
          | none => List.replicate 10 0)
        ++ [yesNo x.masked, x.state.code, yesNo (s.pins.lines.get i), yesNo x.latch, x.coalesced,
            statusOrNone x.vecStatus]
        ++ be32 x.vecValue ++ [statusOrNone x.ackStatus, yesNo x.inFlight])))

/-- CONFIG-SET replaces the three part-wide settings, PORT-SET the five settings of a port, together, and
each is answered OK; LINK-RATE is answered OK and changes no rate yet; RESET FULL is answered OK and
marks the FULL reset as waiting. -/
def Obligations.SettingsRequestsTakeTheirFields : Prop :=
  ∀ (f : FrameHead) (id : Half) (s : State), Expected f s → Room s →
    (∀ (hold severe : Bool) (timeout : Byte), timeout ≠ 0 →
      exec (.configSet f id [if hold = true then 1 else 0, if severe = true then 1 else 0, timeout]) s =
        .next (answer { took s with
          settings := { s.settings with
          missPolicy := if hold = true then .hold else .reply
          recordMode := if severe = true then .severe else .all
          replayTimeout := timeout } } id 0x22 0 []))
    ∧ (∀ (p : Fin 4) (v : PortSettings), v.responseLimit ≠ 0 → v.retryLimit.toNat ≤ 15 →
      v.retryDelay ≠ 0 → v.completionLimit ≠ 0 → v.jobShare ≠ 0 → v.jobShare.toNat ≤ 15 →
      exec (.portSet f id ([BitVec.ofNat 8 p.val, v.responseLimit, v.retryLimit, v.retryDelay]
          ++ be16 v.completionLimit ++ [v.jobShare])) s =
        .next (answer { took s with ports := s.ports.set p { s.ports.get p with settings := v } }
          id 0x38 0 [BitVec.ofNat 8 p.val]))
    ∧ (∀ r : Fin 5, exec (.linkRate f id [BitVec.ofNat 8 r.val]) s = .next { took s with
        direct := s.direct ++ [⟨[0x80, id.extractLsb' 8 8, id.extractLsb' 0 8, 0x24, 0,
          BitVec.ofNat 8 r.val], .rateReply r⟩] })
    ∧ exec (.resetFull f id [1]) s = .next { took s with
        direct := s.direct ++ [⟨[0x80, id.extractLsb' 8 8, id.extractLsb' 0 8, 0x25, 0, 1], .fullReply⟩]
        settings := { s.settings with fullWaiting := true } }

/-- RESET FLUSH, answered OK. Every request list is empty; the tags in QUEUED, ACTIVE and WAITING are
READY with ABORTED, the ACTIVE ones with bus pending, behind the entries already READY and in arrival
order; a queued POST's slot is free and one on its port keeps it marked, no FENCE in WAITING covering it.
Every port loses HOST and GUARD, its queue, its line and its pending fill, and keeps its transaction,
lock and settings; an offered chunk that never started is gone. A slot whose transaction has started
winds down in STOPPING, every other is EMPTY. Every source is IDLE with its latch, its counts and its
cycle gone, its configuration, mask, vector and acknowledge status kept, an operation in progress marked
and still in flight; then, whatever the order, a LEVEL source whose line is high and whose operation in
flight is no starts its cycle. Windows, settings, host link and fault unit are left alone. (The slot's
chunk buffer and the line address are kept, log entry 11; the order of the sources is free, entry 5;
places are entry 12, the mark of a cycle that follows the REPLY entry 21, the hold-off of a write half
that stays in its tag entry 23.) -/
def Obligations.FlushClearsTheTransactionState : Prop :=
  ∀ (f : FrameHead) (id : Half) (s : State), Expected f s → Room s →
    ∃ t : State, exec (.resetFlush f id [0]) s = .next { t with
        direct := t.direct
          ++ [⟨[0x80, id.extractLsb' 8 8, id.extractLsb' 0 8, 0x25, 0, 0], .flushReply⟩] }
      ∧ t.windows = s.windows ∧ t.settings = s.settings ∧ t.faults = s.faults
      ∧ t.link = (took s).link ∧ t.direct = s.direct ∧ t.pins = s.pins ∧ t.pending = s.pending
      ∧ (∀ p, t.lists.get p = [])
      ∧ (∀ k, (∃ p, Entry.post k ∈ s.lists.get p) → t.pool.get k = none)
      ∧ (∀ k, (∀ p, Entry.post k ∉ s.lists.get p) →
          t.pool.get k = (s.pool.get k).map fun x => { x with
            flushed := true
            covering := x.covering.filter fun u => (s.tags.get u).state != .waiting })
      ∧ (∀ k, let x := s.tags.get k
          let y : Tag := { x with state := .ready, status := .aborted, busPending := false }
          (x.state = .queued → t.tags.get k = { y with holdOff := none })
          ∧ (x.state = .waiting → t.tags.get k = y)
          ∧ (x.state = .active → t.tags.get k = { y with busPending := true })
          ∧ ((x.state = .free ∨ x.state = .ready ∨ x.state = .discarding) → t.tags.get k = x))
      ∧ (∃ more, t.ready = s.ready ++ more ∧ more.Nodup
          ∧ (∀ k, k ∈ more ↔ (s.tags.get k).state = .queued ∨ (s.tags.get k).state = .active
              ∨ (s.tags.get k).state = .waiting)
          ∧ more.Pairwise fun a b => (s.tags.get a).place ≤ (s.tags.get b).place)
      ∧ (∀ p, let x := s.ports.get p
          t.ports.get p = { noticed x { lineDropped x with
              holds := ⟨false, x.holds.freeze, false⟩
              shareCount := 0
              offers := x.offers.map fun o => o.filter Offer.started
              txn := x.txn.map fun q => match q.initiator with
                | .operation op => { q with initiator := .operation { op with flushed := true } }
                | _ => q } with
            opQueue := (t.ports.get p).opQueue }
          ∧ ((t.ports.get p).opQueue.map IrqOp.source).Nodup
          ∧ (t.ports.get p).opQueue.Pairwise (fun a b => a.place < b.place)
          ∧ ∀ op ∈ (t.ports.get p).opQueue, op.source.val / 8 = p.val ∧ s.nextPlace ≤ op.place
            ∧ (t.sources.get op.source).state = .fetching
            ∧ ∃ v, (s.sources.get op.source).vectorRead = some v
              ∧ op = ⟨op.source, false, v.localAddr, v.size, 0, 0, none, op.place, false⟩)
      ∧ (∀ j, let x := s.jobs.get j
          let running := (∃ p q o, (s.ports.get p).txn = some q ∧ q.initiator = .chunk j o)
            ∨ ∃ p o, (s.ports.get p).offers.get j = some o ∧ o.started = true
          let winds := (x.state = .running ∨ x.state = .pausing ∨ x.state = .stopping) ∧ running
          (winds → t.jobs.get j = { x with staged := none, state := .stopping, flushMark := true })
          ∧ (¬winds → t.jobs.get j = { x with
              state := .empty, active := none, staged := none, run := none, bytesDone := 0
              bytesLeft := 0, crc := 0xFFFFFFFF#32, failStatus := none, failAddr := none
              chunk := none, flushMark := false }))
      ∧ (∀ i : Fin 32, let x := s.sources.get i
          let p : Fin 4 := ⟨i.val / 8, by omega⟩
          let running := ∃ q op, (s.ports.get p).txn = some q ∧ q.initiator = .operation op
            ∧ op.source = i
          let y : Source := { x with
            state := .idle, latch := false, coalesced := 0, sentCount := none, noticeSeq := none
            behindFlush := false, inFlight := (t.sources.get i).inFlight }
          let starts := x.enabled = true ∧ x.trigger = .level ∧ s.pins.lines.get i = true
            ∧ ¬(x.inFlight = true ∧ running)
          (¬starts → t.sources.get i = y
            ∧ ((t.sources.get i).inFlight = true ↔ x.inFlight = true ∧ running))
          ∧ (starts → x.masked = true → t.sources.get i =
              { y with state := .pending, behindFlush := true, inFlight := false })
          ∧ (starts → x.masked = false → x.vectorRead = none → t.sources.get i = { y with
              state := .due, vecStatus := none, vecValue := 0, behindFlush := true, inFlight := false })
          ∧ (starts → x.masked = false → x.vectorRead.isSome = true →
              t.sources.get i =
                { y with state := .fetching, behindFlush := true, inFlight := true }
              ∧ ∃ op ∈ (t.ports.get p).opQueue, op.source = i))

/-! ## Fault unit (07) -/

/-- A reported fault raises its counter, joins the summary set and, when the record mode admits it, is
captured by an empty record with the epoch, calling for the FAULT-NOTICE, or raises the more count of
a full one. ACCESS-FAILED alone is not admitted in mode SEVERE. -/
def Obligations.ReportedFaultIsCountedAndCaptured : Prop :=
  ∀ (k : FaultKind) (d : FaultDetail) (s : State),
    let u := s.faults
    let n : Half := u.counters.get k.index
    let counted : FaultUnit := { u with
      counters := u.counters.set k.index (if n.toNat = 65535 then n else n + 1)
      summary := u.summary.set k.index true }
    let admitted := s.settings.recordMode = .all ∨ k ≠ .accessFailed
    (¬admitted → report k d s = { s with faults := counted })
      ∧ (admitted → ∀ r, u.record = some r → report k d s = { s with
        faults := { counted with
          record := some { r with more := if r.more.toNat = 255 then r.more else r.more + 1 } } })
      ∧ (admitted → u.record = none → report k d s = { s with
        faults := { counted with
          record := some ⟨k, d, s.link.epoch, 0⟩
          notice := if u.notice = .sent then .sent else .due
          renewal := if u.notice = .sent then true else u.renewal } })

/-- FAULT-GET reports the record, the summary set, the counters, the record mode and the notice state and
changes nothing. FAULT-CLEAR reports the record, the summary set and the counters as they stood, and
clears: the record and the summary set, the counters if its flag says so, a DUE notice is settled, a
SENT one loses its renewal, so that its acknowledgement settles it; any other flag is refused with
BAD-FIELD. -/
def Obligations.FaultGetReportsAndFaultClearClears : Prop :=
  ∀ (f : FrameHead) (id : Half) (s : State), Expected f s → Room s →
    let u := s.faults
    let fields := yesNo u.record.isSome :: faultBlock u.record ++ be16 (summaryBits u.summary)
      ++ (Table.indices 9).flatMap fun k => be16 (u.counters.get k)
    exec (.faultGet f id []) s = .next (answer (took s) id 0x58 0
        (fields ++ [s.settings.recordMode.code, u.notice.code]))
      ∧ (∀ counters : Bool, ∃ u', exec (.faultClear f id [if counters = true then 1 else 0]) s =
          .next { answer (took s) id 0x59 0 fields with faults := u' }
        ∧ u'.record = none ∧ (∀ k, u'.summary.get k = false)
        ∧ (∀ k, u'.counters.get k = if counters = true then 0 else u.counters.get k)
        ∧ u'.notice = (if u.notice = .sent then .sent else .settled) ∧ u'.renewal = false
        ∧ ∀ e : Sent, e.message.carries = .faultNotice → ∀ t : State, t.faults = u' →
          (reported t e).faults.notice = .settled)
      ∧ (∀ b : Byte, 1 < b.toNat → exec (.faultClear f id [b]) s =
          .next (answer (took s) id 0x59 3 (List.replicate 39 0)))

/-! ## Encodings (08 R142 to R144) -/

/-- A few frames of the host, their bytes written out from R142 to R144 and R146: the content of a READ, a
FENCE, a WINDOW-GET, an ABORT, a FAULT-CLEAR, an ACK and a NAK is read as that command, and a WAIT, a
SEQ above 63 and a short DATA frame as malformed. -/
def Obligations.WrittenFramesAreReadRight : Prop :=
  decodeHostFrame [0x01, 0x05, 0x3F, 0, 0, 0x10, 0x12, 0x34, 0x40, 0x00, 0x00, 0x10, 0x04] =
      .read ⟨5, 63, 0, 0⟩ 0x1234 [0x40, 0x00, 0x00, 0x10, 0x04]
    ∧ decodeHostFrame [0x01, 0x00, 0x3F, 0, 0, 0x14, 0x00, 0x07] = .fence ⟨0, 63, 0, 0⟩ 7 []
    ∧ decodeHostFrame [0x01, 0x02, 0x01, 0, 0, 0x31, 0xAB, 0xCD, 0x0F] =
      .windowGet ⟨2, 1, 0, 0⟩ 0xABCD [0x0F]
    ∧ decodeHostFrame [0x01, 0x03, 0x01, 0, 0, 0x3C, 0x00, 0x02, 0x12, 0x34] =
      .abort ⟨3, 1, 0, 0⟩ 2 [0x12, 0x34]
    ∧ decodeHostFrame [0x01, 0x04, 0x01, 0, 0, 0x59, 0x00, 0x03, 0x01] =
      .faultClear ⟨4, 1, 0, 0⟩ 3 [0x01]
    ∧ decodeHostFrame [0x02, 0x00, 0x09, 0, 0] = .hostAckFrame ⟨0, 9, 0, 0⟩ []
    ∧ decodeHostFrame [0x03, 0x00, 0x0A, 0, 0] = .hostNak ⟨0, 10, 0, 0⟩ []
    ∧ decodeHostFrame [0x04, 0x00, 0x00, 0, 0] = .malformedFrame [0x04, 0x00, 0x00, 0, 0]
    ∧ decodeHostFrame [0x02, 0x40, 0x00, 0, 0] = .malformedFrame [0x02, 0x40, 0x00, 0, 0]
    ∧ decodeHostFrame [0x01, 0x00, 0x00, 0, 0, 0x14, 0x00] =
      .malformedFrame [0x01, 0x00, 0x00, 0, 0, 0x14, 0x00]

/-- For every well-formed command that is one good frame of the host, but the rows that name what a frame
of another row does in some states: reading the frame's content gives the command back, and the
receiver collects the whole frame, SYNC and CRC included, as good, whatever follows it. -/
def Obligations.HostFramesRoundTrip : Prop :=
  ∀ (i : Instr) (content : List Byte), i.wellFormed = true → encodeHostFrame i = some content →
    (∀ f k id b, i ≠ .hostDataFrameNotTaken f k id b) → (∀ f x, i ≠ .rateChange f x) →
    (∀ e, i ≠ .fullResetCarriedOut e) →
    decodeHostFrame content = i
      ∧ ∀ rest, collect (wireFrame content ++ rest) = .good content rest

/-! ## Laws that every step keeps -/

/-- Every enabled window is consistent and no two overlap, after every step from a state where it is so.
-/
def Obligations.WindowLawIsKeptByEveryStep : Prop :=
  ∀ s t : State, WindowLaw s.windows → step s = .next t → WindowLaw t.windows

/-- The ready list holds the READY entries and the request lists the QUEUED ones, each once, and live
request ids are distinct, after every step from a state where it is so. -/
def Obligations.TagLawIsKeptByEveryStep : Prop :=
  ∀ s t : State, TagLaw s → step s = .next t → TagLaw t

/-- A posted slot is held exactly while its POST is queued once or on one port, after every step from a
state where it is so. With the law of the tags: the request lists stay in arrival order, places rising
strictly (OrderLaw), and each FENCE in WAITING has as many outstanding ends as held POSTs that it covers
(FenceLaw). (Places are the model's, log entry 12.) -/
def Obligations.PostLawIsKeptByEveryStep : Prop :=
  ∀ s t : State, step s = .next t →
    (PostLaw s → PostLaw t)
      ∧ (TagLaw s → PostLaw s → OrderLaw s → OrderLaw t)
      ∧ (TagLaw s → OrderLaw s → FenceLaw s → FenceLaw t)

/-- The host link keeps its law through every step: the direct reply list, the replay list with its
consecutive numbers, the replay timer, what DOWN leaves, the beacon timer. -/
def Obligations.LinkLawIsKeptByEveryStep : Prop :=
  ∀ s t : State, LinkLaw s → step s = .next t → LinkLaw t

/-- The job slots keep their law through every step: bytes done plus bytes remaining is the length, and
the slot has at most one transaction at the ports, of its current chunk. The interrupt sources keep
theirs (SourceLaw): at most one operation at the ports, in flight exactly while it is there, of the kind
that the source's state asks for. -/
def Obligations.JobLawIsKeptByEveryStep : Prop :=
  ∀ s t : State, step s = .next t → (JobLaw s → JobLaw t) ∧ (SourceLaw s → SourceLaw t)

/-- The fault unit keeps its law through every step. -/
def Obligations.FaultLawIsKeptByEveryStep : Prop :=
  ∀ s t : State, FaultLaw s.faults → step s = .next t → FaultLaw t.faults
end

