-- ==== Sys2Proof/Laws/State.lean ====
section
/-!
SUPPORT. One lemma per field per update of the state, so that no proof unfolds a record update.
-/

namespace Sys2Proof.Machine

@[simp] theorem State.setPins_pins (s : State) (x : Pins) : (s.setPins x).pins = x := rfl
@[simp] theorem State.setPins_settings (s : State) (x : Pins) : (s.setPins x).settings = s.settings := rfl
@[simp] theorem State.setPins_windows (s : State) (x : Pins) : (s.setPins x).windows = s.windows := rfl
@[simp] theorem State.setPins_pool (s : State) (x : Pins) : (s.setPins x).pool = s.pool := rfl
@[simp] theorem State.setPins_lists (s : State) (x : Pins) : (s.setPins x).lists = s.lists := rfl
@[simp] theorem State.setPins_nextPlace (s : State) (x : Pins) : (s.setPins x).nextPlace = s.nextPlace := rfl
@[simp] theorem State.setPins_tags (s : State) (x : Pins) : (s.setPins x).tags = s.tags := rfl
@[simp] theorem State.setPins_ready (s : State) (x : Pins) : (s.setPins x).ready = s.ready := rfl
@[simp] theorem State.setPins_ports (s : State) (x : Pins) : (s.setPins x).ports = s.ports := rfl
@[simp] theorem State.setPins_jobs (s : State) (x : Pins) : (s.setPins x).jobs = s.jobs := rfl
@[simp] theorem State.setPins_sources (s : State) (x : Pins) : (s.setPins x).sources = s.sources := rfl
@[simp] theorem State.setPins_faults (s : State) (x : Pins) : (s.setPins x).faults = s.faults := rfl
@[simp] theorem State.setPins_direct (s : State) (x : Pins) : (s.setPins x).direct = s.direct := rfl
@[simp] theorem State.setPins_link (s : State) (x : Pins) : (s.setPins x).link = s.link := rfl
@[simp] theorem State.setPins_freeDraws (s : State) (x : Pins) : (s.setPins x).freeDraws = s.freeDraws := rfl
@[simp] theorem State.setPins_pending (s : State) (x : Pins) : (s.setPins x).pending = s.pending := rfl

@[simp] theorem State.setSettings_pins (s : State) (x : Settings) : (s.setSettings x).pins = s.pins := rfl
@[simp] theorem State.setSettings_settings (s : State) (x : Settings) : (s.setSettings x).settings = x := rfl
@[simp] theorem State.setSettings_windows (s : State) (x : Settings) : (s.setSettings x).windows = s.windows := rfl
@[simp] theorem State.setSettings_pool (s : State) (x : Settings) : (s.setSettings x).pool = s.pool := rfl
@[simp] theorem State.setSettings_lists (s : State) (x : Settings) : (s.setSettings x).lists = s.lists := rfl
@[simp] theorem State.setSettings_nextPlace (s : State) (x : Settings) : (s.setSettings x).nextPlace = s.nextPlace := rfl
@[simp] theorem State.setSettings_tags (s : State) (x : Settings) : (s.setSettings x).tags = s.tags := rfl
@[simp] theorem State.setSettings_ready (s : State) (x : Settings) : (s.setSettings x).ready = s.ready := rfl
@[simp] theorem State.setSettings_ports (s : State) (x : Settings) : (s.setSettings x).ports = s.ports := rfl
@[simp] theorem State.setSettings_jobs (s : State) (x : Settings) : (s.setSettings x).jobs = s.jobs := rfl
@[simp] theorem State.setSettings_sources (s : State) (x : Settings) : (s.setSettings x).sources = s.sources := rfl
@[simp] theorem State.setSettings_faults (s : State) (x : Settings) : (s.setSettings x).faults = s.faults := rfl
@[simp] theorem State.setSettings_direct (s : State) (x : Settings) : (s.setSettings x).direct = s.direct := rfl
@[simp] theorem State.setSettings_link (s : State) (x : Settings) : (s.setSettings x).link = s.link := rfl
@[simp] theorem State.setSettings_freeDraws (s : State) (x : Settings) : (s.setSettings x).freeDraws = s.freeDraws := rfl
@[simp] theorem State.setSettings_pending (s : State) (x : Settings) : (s.setSettings x).pending = s.pending := rfl

@[simp] theorem State.setWindows_pins (s : State) (x : Table Window 16) : (s.setWindows x).pins = s.pins := rfl
@[simp] theorem State.setWindows_settings (s : State) (x : Table Window 16) : (s.setWindows x).settings = s.settings := rfl
@[simp] theorem State.setWindows_windows (s : State) (x : Table Window 16) : (s.setWindows x).windows = x := rfl
@[simp] theorem State.setWindows_pool (s : State) (x : Table Window 16) : (s.setWindows x).pool = s.pool := rfl
@[simp] theorem State.setWindows_lists (s : State) (x : Table Window 16) : (s.setWindows x).lists = s.lists := rfl
@[simp] theorem State.setWindows_nextPlace (s : State) (x : Table Window 16) : (s.setWindows x).nextPlace = s.nextPlace := rfl
@[simp] theorem State.setWindows_tags (s : State) (x : Table Window 16) : (s.setWindows x).tags = s.tags := rfl
@[simp] theorem State.setWindows_ready (s : State) (x : Table Window 16) : (s.setWindows x).ready = s.ready := rfl
@[simp] theorem State.setWindows_ports (s : State) (x : Table Window 16) : (s.setWindows x).ports = s.ports := rfl
@[simp] theorem State.setWindows_jobs (s : State) (x : Table Window 16) : (s.setWindows x).jobs = s.jobs := rfl
@[simp] theorem State.setWindows_sources (s : State) (x : Table Window 16) : (s.setWindows x).sources = s.sources := rfl
@[simp] theorem State.setWindows_faults (s : State) (x : Table Window 16) : (s.setWindows x).faults = s.faults := rfl
@[simp] theorem State.setWindows_direct (s : State) (x : Table Window 16) : (s.setWindows x).direct = s.direct := rfl
@[simp] theorem State.setWindows_link (s : State) (x : Table Window 16) : (s.setWindows x).link = s.link := rfl
@[simp] theorem State.setWindows_freeDraws (s : State) (x : Table Window 16) : (s.setWindows x).freeDraws = s.freeDraws := rfl
@[simp] theorem State.setWindows_pending (s : State) (x : Table Window 16) : (s.setWindows x).pending = s.pending := rfl

@[simp] theorem State.setPool_pins (s : State) (x : Table (Option Posted) 32) : (s.setPool x).pins = s.pins := rfl
@[simp] theorem State.setPool_settings (s : State) (x : Table (Option Posted) 32) : (s.setPool x).settings = s.settings := rfl
@[simp] theorem State.setPool_windows (s : State) (x : Table (Option Posted) 32) : (s.setPool x).windows = s.windows := rfl
@[simp] theorem State.setPool_pool (s : State) (x : Table (Option Posted) 32) : (s.setPool x).pool = x := rfl
@[simp] theorem State.setPool_lists (s : State) (x : Table (Option Posted) 32) : (s.setPool x).lists = s.lists := rfl
@[simp] theorem State.setPool_nextPlace (s : State) (x : Table (Option Posted) 32) : (s.setPool x).nextPlace = s.nextPlace := rfl
@[simp] theorem State.setPool_tags (s : State) (x : Table (Option Posted) 32) : (s.setPool x).tags = s.tags := rfl
@[simp] theorem State.setPool_ready (s : State) (x : Table (Option Posted) 32) : (s.setPool x).ready = s.ready := rfl
@[simp] theorem State.setPool_ports (s : State) (x : Table (Option Posted) 32) : (s.setPool x).ports = s.ports := rfl
@[simp] theorem State.setPool_jobs (s : State) (x : Table (Option Posted) 32) : (s.setPool x).jobs = s.jobs := rfl
@[simp] theorem State.setPool_sources (s : State) (x : Table (Option Posted) 32) : (s.setPool x).sources = s.sources := rfl
@[simp] theorem State.setPool_faults (s : State) (x : Table (Option Posted) 32) : (s.setPool x).faults = s.faults := rfl
@[simp] theorem State.setPool_direct (s : State) (x : Table (Option Posted) 32) : (s.setPool x).direct = s.direct := rfl
@[simp] theorem State.setPool_link (s : State) (x : Table (Option Posted) 32) : (s.setPool x).link = s.link := rfl
@[simp] theorem State.setPool_freeDraws (s : State) (x : Table (Option Posted) 32) : (s.setPool x).freeDraws = s.freeDraws := rfl
@[simp] theorem State.setPool_pending (s : State) (x : Table (Option Posted) 32) : (s.setPool x).pending = s.pending := rfl

@[simp] theorem State.setLists_pins (s : State) (x : Table (List Entry) 4) : (s.setLists x).pins = s.pins := rfl
@[simp] theorem State.setLists_settings (s : State) (x : Table (List Entry) 4) : (s.setLists x).settings = s.settings := rfl
@[simp] theorem State.setLists_windows (s : State) (x : Table (List Entry) 4) : (s.setLists x).windows = s.windows := rfl
@[simp] theorem State.setLists_pool (s : State) (x : Table (List Entry) 4) : (s.setLists x).pool = s.pool := rfl
@[simp] theorem State.setLists_lists (s : State) (x : Table (List Entry) 4) : (s.setLists x).lists = x := rfl
@[simp] theorem State.setLists_nextPlace (s : State) (x : Table (List Entry) 4) : (s.setLists x).nextPlace = s.nextPlace := rfl
@[simp] theorem State.setLists_tags (s : State) (x : Table (List Entry) 4) : (s.setLists x).tags = s.tags := rfl
@[simp] theorem State.setLists_ready (s : State) (x : Table (List Entry) 4) : (s.setLists x).ready = s.ready := rfl
@[simp] theorem State.setLists_ports (s : State) (x : Table (List Entry) 4) : (s.setLists x).ports = s.ports := rfl
@[simp] theorem State.setLists_jobs (s : State) (x : Table (List Entry) 4) : (s.setLists x).jobs = s.jobs := rfl
@[simp] theorem State.setLists_sources (s : State) (x : Table (List Entry) 4) : (s.setLists x).sources = s.sources := rfl
@[simp] theorem State.setLists_faults (s : State) (x : Table (List Entry) 4) : (s.setLists x).faults = s.faults := rfl
@[simp] theorem State.setLists_direct (s : State) (x : Table (List Entry) 4) : (s.setLists x).direct = s.direct := rfl
@[simp] theorem State.setLists_link (s : State) (x : Table (List Entry) 4) : (s.setLists x).link = s.link := rfl
@[simp] theorem State.setLists_freeDraws (s : State) (x : Table (List Entry) 4) : (s.setLists x).freeDraws = s.freeDraws := rfl
@[simp] theorem State.setLists_pending (s : State) (x : Table (List Entry) 4) : (s.setLists x).pending = s.pending := rfl

@[simp] theorem State.setNextPlace_pins (s : State) (x : Nat) : (s.setNextPlace x).pins = s.pins := rfl
@[simp] theorem State.setNextPlace_settings (s : State) (x : Nat) : (s.setNextPlace x).settings = s.settings := rfl
@[simp] theorem State.setNextPlace_windows (s : State) (x : Nat) : (s.setNextPlace x).windows = s.windows := rfl
@[simp] theorem State.setNextPlace_pool (s : State) (x : Nat) : (s.setNextPlace x).pool = s.pool := rfl
@[simp] theorem State.setNextPlace_lists (s : State) (x : Nat) : (s.setNextPlace x).lists = s.lists := rfl
@[simp] theorem State.setNextPlace_nextPlace (s : State) (x : Nat) : (s.setNextPlace x).nextPlace = x := rfl
@[simp] theorem State.setNextPlace_tags (s : State) (x : Nat) : (s.setNextPlace x).tags = s.tags := rfl
@[simp] theorem State.setNextPlace_ready (s : State) (x : Nat) : (s.setNextPlace x).ready = s.ready := rfl
@[simp] theorem State.setNextPlace_ports (s : State) (x : Nat) : (s.setNextPlace x).ports = s.ports := rfl
@[simp] theorem State.setNextPlace_jobs (s : State) (x : Nat) : (s.setNextPlace x).jobs = s.jobs := rfl
@[simp] theorem State.setNextPlace_sources (s : State) (x : Nat) : (s.setNextPlace x).sources = s.sources := rfl
@[simp] theorem State.setNextPlace_faults (s : State) (x : Nat) : (s.setNextPlace x).faults = s.faults := rfl
@[simp] theorem State.setNextPlace_direct (s : State) (x : Nat) : (s.setNextPlace x).direct = s.direct := rfl
@[simp] theorem State.setNextPlace_link (s : State) (x : Nat) : (s.setNextPlace x).link = s.link := rfl
@[simp] theorem State.setNextPlace_freeDraws (s : State) (x : Nat) : (s.setNextPlace x).freeDraws = s.freeDraws := rfl
@[simp] theorem State.setNextPlace_pending (s : State) (x : Nat) : (s.setNextPlace x).pending = s.pending := rfl

@[simp] theorem State.setTags_pins (s : State) (x : Table Tag 32) : (s.setTags x).pins = s.pins := rfl
@[simp] theorem State.setTags_settings (s : State) (x : Table Tag 32) : (s.setTags x).settings = s.settings := rfl
@[simp] theorem State.setTags_windows (s : State) (x : Table Tag 32) : (s.setTags x).windows = s.windows := rfl
@[simp] theorem State.setTags_pool (s : State) (x : Table Tag 32) : (s.setTags x).pool = s.pool := rfl
@[simp] theorem State.setTags_lists (s : State) (x : Table Tag 32) : (s.setTags x).lists = s.lists := rfl
@[simp] theorem State.setTags_nextPlace (s : State) (x : Table Tag 32) : (s.setTags x).nextPlace = s.nextPlace := rfl
@[simp] theorem State.setTags_tags (s : State) (x : Table Tag 32) : (s.setTags x).tags = x := rfl
@[simp] theorem State.setTags_ready (s : State) (x : Table Tag 32) : (s.setTags x).ready = s.ready := rfl
@[simp] theorem State.setTags_ports (s : State) (x : Table Tag 32) : (s.setTags x).ports = s.ports := rfl
@[simp] theorem State.setTags_jobs (s : State) (x : Table Tag 32) : (s.setTags x).jobs = s.jobs := rfl
@[simp] theorem State.setTags_sources (s : State) (x : Table Tag 32) : (s.setTags x).sources = s.sources := rfl
@[simp] theorem State.setTags_faults (s : State) (x : Table Tag 32) : (s.setTags x).faults = s.faults := rfl
@[simp] theorem State.setTags_direct (s : State) (x : Table Tag 32) : (s.setTags x).direct = s.direct := rfl
@[simp] theorem State.setTags_link (s : State) (x : Table Tag 32) : (s.setTags x).link = s.link := rfl
@[simp] theorem State.setTags_freeDraws (s : State) (x : Table Tag 32) : (s.setTags x).freeDraws = s.freeDraws := rfl
@[simp] theorem State.setTags_pending (s : State) (x : Table Tag 32) : (s.setTags x).pending = s.pending := rfl

@[simp] theorem State.setReady_pins (s : State) (x : List (Fin 32)) : (s.setReady x).pins = s.pins := rfl
@[simp] theorem State.setReady_settings (s : State) (x : List (Fin 32)) : (s.setReady x).settings = s.settings := rfl
@[simp] theorem State.setReady_windows (s : State) (x : List (Fin 32)) : (s.setReady x).windows = s.windows := rfl
@[simp] theorem State.setReady_pool (s : State) (x : List (Fin 32)) : (s.setReady x).pool = s.pool := rfl
@[simp] theorem State.setReady_lists (s : State) (x : List (Fin 32)) : (s.setReady x).lists = s.lists := rfl
@[simp] theorem State.setReady_nextPlace (s : State) (x : List (Fin 32)) : (s.setReady x).nextPlace = s.nextPlace := rfl
@[simp] theorem State.setReady_tags (s : State) (x : List (Fin 32)) : (s.setReady x).tags = s.tags := rfl
@[simp] theorem State.setReady_ready (s : State) (x : List (Fin 32)) : (s.setReady x).ready = x := rfl
@[simp] theorem State.setReady_ports (s : State) (x : List (Fin 32)) : (s.setReady x).ports = s.ports := rfl
@[simp] theorem State.setReady_jobs (s : State) (x : List (Fin 32)) : (s.setReady x).jobs = s.jobs := rfl
@[simp] theorem State.setReady_sources (s : State) (x : List (Fin 32)) : (s.setReady x).sources = s.sources := rfl
@[simp] theorem State.setReady_faults (s : State) (x : List (Fin 32)) : (s.setReady x).faults = s.faults := rfl
@[simp] theorem State.setReady_direct (s : State) (x : List (Fin 32)) : (s.setReady x).direct = s.direct := rfl
@[simp] theorem State.setReady_link (s : State) (x : List (Fin 32)) : (s.setReady x).link = s.link := rfl
@[simp] theorem State.setReady_freeDraws (s : State) (x : List (Fin 32)) : (s.setReady x).freeDraws = s.freeDraws := rfl
@[simp] theorem State.setReady_pending (s : State) (x : List (Fin 32)) : (s.setReady x).pending = s.pending := rfl

@[simp] theorem State.setPorts_pins (s : State) (x : Table Port 4) : (s.setPorts x).pins = s.pins := rfl
@[simp] theorem State.setPorts_settings (s : State) (x : Table Port 4) : (s.setPorts x).settings = s.settings := rfl
@[simp] theorem State.setPorts_windows (s : State) (x : Table Port 4) : (s.setPorts x).windows = s.windows := rfl
@[simp] theorem State.setPorts_pool (s : State) (x : Table Port 4) : (s.setPorts x).pool = s.pool := rfl
@[simp] theorem State.setPorts_lists (s : State) (x : Table Port 4) : (s.setPorts x).lists = s.lists := rfl
@[simp] theorem State.setPorts_nextPlace (s : State) (x : Table Port 4) : (s.setPorts x).nextPlace = s.nextPlace := rfl
@[simp] theorem State.setPorts_tags (s : State) (x : Table Port 4) : (s.setPorts x).tags = s.tags := rfl
@[simp] theorem State.setPorts_ready (s : State) (x : Table Port 4) : (s.setPorts x).ready = s.ready := rfl
@[simp] theorem State.setPorts_ports (s : State) (x : Table Port 4) : (s.setPorts x).ports = x := rfl
@[simp] theorem State.setPorts_jobs (s : State) (x : Table Port 4) : (s.setPorts x).jobs = s.jobs := rfl
@[simp] theorem State.setPorts_sources (s : State) (x : Table Port 4) : (s.setPorts x).sources = s.sources := rfl
@[simp] theorem State.setPorts_faults (s : State) (x : Table Port 4) : (s.setPorts x).faults = s.faults := rfl
@[simp] theorem State.setPorts_direct (s : State) (x : Table Port 4) : (s.setPorts x).direct = s.direct := rfl
@[simp] theorem State.setPorts_link (s : State) (x : Table Port 4) : (s.setPorts x).link = s.link := rfl
@[simp] theorem State.setPorts_freeDraws (s : State) (x : Table Port 4) : (s.setPorts x).freeDraws = s.freeDraws := rfl
@[simp] theorem State.setPorts_pending (s : State) (x : Table Port 4) : (s.setPorts x).pending = s.pending := rfl

@[simp] theorem State.setJobs_pins (s : State) (x : Table JobSlot 4) : (s.setJobs x).pins = s.pins := rfl
@[simp] theorem State.setJobs_settings (s : State) (x : Table JobSlot 4) : (s.setJobs x).settings = s.settings := rfl
@[simp] theorem State.setJobs_windows (s : State) (x : Table JobSlot 4) : (s.setJobs x).windows = s.windows := rfl
@[simp] theorem State.setJobs_pool (s : State) (x : Table JobSlot 4) : (s.setJobs x).pool = s.pool := rfl
@[simp] theorem State.setJobs_lists (s : State) (x : Table JobSlot 4) : (s.setJobs x).lists = s.lists := rfl
@[simp] theorem State.setJobs_nextPlace (s : State) (x : Table JobSlot 4) : (s.setJobs x).nextPlace = s.nextPlace := rfl
@[simp] theorem State.setJobs_tags (s : State) (x : Table JobSlot 4) : (s.setJobs x).tags = s.tags := rfl
@[simp] theorem State.setJobs_ready (s : State) (x : Table JobSlot 4) : (s.setJobs x).ready = s.ready := rfl
@[simp] theorem State.setJobs_ports (s : State) (x : Table JobSlot 4) : (s.setJobs x).ports = s.ports := rfl
@[simp] theorem State.setJobs_jobs (s : State) (x : Table JobSlot 4) : (s.setJobs x).jobs = x := rfl
@[simp] theorem State.setJobs_sources (s : State) (x : Table JobSlot 4) : (s.setJobs x).sources = s.sources := rfl
@[simp] theorem State.setJobs_faults (s : State) (x : Table JobSlot 4) : (s.setJobs x).faults = s.faults := rfl
@[simp] theorem State.setJobs_direct (s : State) (x : Table JobSlot 4) : (s.setJobs x).direct = s.direct := rfl
@[simp] theorem State.setJobs_link (s : State) (x : Table JobSlot 4) : (s.setJobs x).link = s.link := rfl
@[simp] theorem State.setJobs_freeDraws (s : State) (x : Table JobSlot 4) : (s.setJobs x).freeDraws = s.freeDraws := rfl
@[simp] theorem State.setJobs_pending (s : State) (x : Table JobSlot 4) : (s.setJobs x).pending = s.pending := rfl

@[simp] theorem State.setSources_pins (s : State) (x : Table Source 32) : (s.setSources x).pins = s.pins := rfl
@[simp] theorem State.setSources_settings (s : State) (x : Table Source 32) : (s.setSources x).settings = s.settings := rfl
@[simp] theorem State.setSources_windows (s : State) (x : Table Source 32) : (s.setSources x).windows = s.windows := rfl
@[simp] theorem State.setSources_pool (s : State) (x : Table Source 32) : (s.setSources x).pool = s.pool := rfl
@[simp] theorem State.setSources_lists (s : State) (x : Table Source 32) : (s.setSources x).lists = s.lists := rfl
@[simp] theorem State.setSources_nextPlace (s : State) (x : Table Source 32) : (s.setSources x).nextPlace = s.nextPlace := rfl
@[simp] theorem State.setSources_tags (s : State) (x : Table Source 32) : (s.setSources x).tags = s.tags := rfl
@[simp] theorem State.setSources_ready (s : State) (x : Table Source 32) : (s.setSources x).ready = s.ready := rfl
@[simp] theorem State.setSources_ports (s : State) (x : Table Source 32) : (s.setSources x).ports = s.ports := rfl
@[simp] theorem State.setSources_jobs (s : State) (x : Table Source 32) : (s.setSources x).jobs = s.jobs := rfl
@[simp] theorem State.setSources_sources (s : State) (x : Table Source 32) : (s.setSources x).sources = x := rfl
@[simp] theorem State.setSources_faults (s : State) (x : Table Source 32) : (s.setSources x).faults = s.faults := rfl
@[simp] theorem State.setSources_direct (s : State) (x : Table Source 32) : (s.setSources x).direct = s.direct := rfl
@[simp] theorem State.setSources_link (s : State) (x : Table Source 32) : (s.setSources x).link = s.link := rfl
@[simp] theorem State.setSources_freeDraws (s : State) (x : Table Source 32) : (s.setSources x).freeDraws = s.freeDraws := rfl
@[simp] theorem State.setSources_pending (s : State) (x : Table Source 32) : (s.setSources x).pending = s.pending := rfl

@[simp] theorem State.setFaults_pins (s : State) (x : FaultUnit) : (s.setFaults x).pins = s.pins := rfl
@[simp] theorem State.setFaults_settings (s : State) (x : FaultUnit) : (s.setFaults x).settings = s.settings := rfl
@[simp] theorem State.setFaults_windows (s : State) (x : FaultUnit) : (s.setFaults x).windows = s.windows := rfl
@[simp] theorem State.setFaults_pool (s : State) (x : FaultUnit) : (s.setFaults x).pool = s.pool := rfl
@[simp] theorem State.setFaults_lists (s : State) (x : FaultUnit) : (s.setFaults x).lists = s.lists := rfl
@[simp] theorem State.setFaults_nextPlace (s : State) (x : FaultUnit) : (s.setFaults x).nextPlace = s.nextPlace := rfl
@[simp] theorem State.setFaults_tags (s : State) (x : FaultUnit) : (s.setFaults x).tags = s.tags := rfl
@[simp] theorem State.setFaults_ready (s : State) (x : FaultUnit) : (s.setFaults x).ready = s.ready := rfl
@[simp] theorem State.setFaults_ports (s : State) (x : FaultUnit) : (s.setFaults x).ports = s.ports := rfl
@[simp] theorem State.setFaults_jobs (s : State) (x : FaultUnit) : (s.setFaults x).jobs = s.jobs := rfl
@[simp] theorem State.setFaults_sources (s : State) (x : FaultUnit) : (s.setFaults x).sources = s.sources := rfl
@[simp] theorem State.setFaults_faults (s : State) (x : FaultUnit) : (s.setFaults x).faults = x := rfl
@[simp] theorem State.setFaults_direct (s : State) (x : FaultUnit) : (s.setFaults x).direct = s.direct := rfl
@[simp] theorem State.setFaults_link (s : State) (x : FaultUnit) : (s.setFaults x).link = s.link := rfl
@[simp] theorem State.setFaults_freeDraws (s : State) (x : FaultUnit) : (s.setFaults x).freeDraws = s.freeDraws := rfl
@[simp] theorem State.setFaults_pending (s : State) (x : FaultUnit) : (s.setFaults x).pending = s.pending := rfl

@[simp] theorem State.setDirect_pins (s : State) (x : List Message) : (s.setDirect x).pins = s.pins := rfl
@[simp] theorem State.setDirect_settings (s : State) (x : List Message) : (s.setDirect x).settings = s.settings := rfl
@[simp] theorem State.setDirect_windows (s : State) (x : List Message) : (s.setDirect x).windows = s.windows := rfl
@[simp] theorem State.setDirect_pool (s : State) (x : List Message) : (s.setDirect x).pool = s.pool := rfl
@[simp] theorem State.setDirect_lists (s : State) (x : List Message) : (s.setDirect x).lists = s.lists := rfl
@[simp] theorem State.setDirect_nextPlace (s : State) (x : List Message) : (s.setDirect x).nextPlace = s.nextPlace := rfl
@[simp] theorem State.setDirect_tags (s : State) (x : List Message) : (s.setDirect x).tags = s.tags := rfl
@[simp] theorem State.setDirect_ready (s : State) (x : List Message) : (s.setDirect x).ready = s.ready := rfl
@[simp] theorem State.setDirect_ports (s : State) (x : List Message) : (s.setDirect x).ports = s.ports := rfl
@[simp] theorem State.setDirect_jobs (s : State) (x : List Message) : (s.setDirect x).jobs = s.jobs := rfl
@[simp] theorem State.setDirect_sources (s : State) (x : List Message) : (s.setDirect x).sources = s.sources := rfl
@[simp] theorem State.setDirect_faults (s : State) (x : List Message) : (s.setDirect x).faults = s.faults := rfl
@[simp] theorem State.setDirect_direct (s : State) (x : List Message) : (s.setDirect x).direct = x := rfl
@[simp] theorem State.setDirect_link (s : State) (x : List Message) : (s.setDirect x).link = s.link := rfl
@[simp] theorem State.setDirect_freeDraws (s : State) (x : List Message) : (s.setDirect x).freeDraws = s.freeDraws := rfl
@[simp] theorem State.setDirect_pending (s : State) (x : List Message) : (s.setDirect x).pending = s.pending := rfl

@[simp] theorem State.setLink_pins (s : State) (x : Link) : (s.setLink x).pins = s.pins := rfl
@[simp] theorem State.setLink_settings (s : State) (x : Link) : (s.setLink x).settings = s.settings := rfl
@[simp] theorem State.setLink_windows (s : State) (x : Link) : (s.setLink x).windows = s.windows := rfl
@[simp] theorem State.setLink_pool (s : State) (x : Link) : (s.setLink x).pool = s.pool := rfl
@[simp] theorem State.setLink_lists (s : State) (x : Link) : (s.setLink x).lists = s.lists := rfl
@[simp] theorem State.setLink_nextPlace (s : State) (x : Link) : (s.setLink x).nextPlace = s.nextPlace := rfl
@[simp] theorem State.setLink_tags (s : State) (x : Link) : (s.setLink x).tags = s.tags := rfl
@[simp] theorem State.setLink_ready (s : State) (x : Link) : (s.setLink x).ready = s.ready := rfl
@[simp] theorem State.setLink_ports (s : State) (x : Link) : (s.setLink x).ports = s.ports := rfl
@[simp] theorem State.setLink_jobs (s : State) (x : Link) : (s.setLink x).jobs = s.jobs := rfl
@[simp] theorem State.setLink_sources (s : State) (x : Link) : (s.setLink x).sources = s.sources := rfl
@[simp] theorem State.setLink_faults (s : State) (x : Link) : (s.setLink x).faults = s.faults := rfl
@[simp] theorem State.setLink_direct (s : State) (x : Link) : (s.setLink x).direct = s.direct := rfl
@[simp] theorem State.setLink_link (s : State) (x : Link) : (s.setLink x).link = x := rfl
@[simp] theorem State.setLink_freeDraws (s : State) (x : Link) : (s.setLink x).freeDraws = s.freeDraws := rfl
@[simp] theorem State.setLink_pending (s : State) (x : Link) : (s.setLink x).pending = s.pending := rfl

@[simp] theorem State.setFreeDraws_pins (s : State) (x : Nat) : (s.setFreeDraws x).pins = s.pins := rfl
@[simp] theorem State.setFreeDraws_settings (s : State) (x : Nat) : (s.setFreeDraws x).settings = s.settings := rfl
@[simp] theorem State.setFreeDraws_windows (s : State) (x : Nat) : (s.setFreeDraws x).windows = s.windows := rfl
@[simp] theorem State.setFreeDraws_pool (s : State) (x : Nat) : (s.setFreeDraws x).pool = s.pool := rfl
@[simp] theorem State.setFreeDraws_lists (s : State) (x : Nat) : (s.setFreeDraws x).lists = s.lists := rfl
@[simp] theorem State.setFreeDraws_nextPlace (s : State) (x : Nat) : (s.setFreeDraws x).nextPlace = s.nextPlace := rfl
@[simp] theorem State.setFreeDraws_tags (s : State) (x : Nat) : (s.setFreeDraws x).tags = s.tags := rfl
@[simp] theorem State.setFreeDraws_ready (s : State) (x : Nat) : (s.setFreeDraws x).ready = s.ready := rfl
@[simp] theorem State.setFreeDraws_ports (s : State) (x : Nat) : (s.setFreeDraws x).ports = s.ports := rfl
@[simp] theorem State.setFreeDraws_jobs (s : State) (x : Nat) : (s.setFreeDraws x).jobs = s.jobs := rfl
@[simp] theorem State.setFreeDraws_sources (s : State) (x : Nat) : (s.setFreeDraws x).sources = s.sources := rfl
@[simp] theorem State.setFreeDraws_faults (s : State) (x : Nat) : (s.setFreeDraws x).faults = s.faults := rfl
@[simp] theorem State.setFreeDraws_direct (s : State) (x : Nat) : (s.setFreeDraws x).direct = s.direct := rfl
@[simp] theorem State.setFreeDraws_link (s : State) (x : Nat) : (s.setFreeDraws x).link = s.link := rfl
@[simp] theorem State.setFreeDraws_freeDraws (s : State) (x : Nat) : (s.setFreeDraws x).freeDraws = x := rfl
@[simp] theorem State.setFreeDraws_pending (s : State) (x : Nat) : (s.setFreeDraws x).pending = s.pending := rfl

@[simp] theorem State.setPending_pins (s : State) (x : List Instr) : (s.setPending x).pins = s.pins := rfl
@[simp] theorem State.setPending_settings (s : State) (x : List Instr) : (s.setPending x).settings = s.settings := rfl
@[simp] theorem State.setPending_windows (s : State) (x : List Instr) : (s.setPending x).windows = s.windows := rfl
@[simp] theorem State.setPending_pool (s : State) (x : List Instr) : (s.setPending x).pool = s.pool := rfl
@[simp] theorem State.setPending_lists (s : State) (x : List Instr) : (s.setPending x).lists = s.lists := rfl
@[simp] theorem State.setPending_nextPlace (s : State) (x : List Instr) : (s.setPending x).nextPlace = s.nextPlace := rfl
@[simp] theorem State.setPending_tags (s : State) (x : List Instr) : (s.setPending x).tags = s.tags := rfl
@[simp] theorem State.setPending_ready (s : State) (x : List Instr) : (s.setPending x).ready = s.ready := rfl
@[simp] theorem State.setPending_ports (s : State) (x : List Instr) : (s.setPending x).ports = s.ports := rfl
@[simp] theorem State.setPending_jobs (s : State) (x : List Instr) : (s.setPending x).jobs = s.jobs := rfl
@[simp] theorem State.setPending_sources (s : State) (x : List Instr) : (s.setPending x).sources = s.sources := rfl
@[simp] theorem State.setPending_faults (s : State) (x : List Instr) : (s.setPending x).faults = s.faults := rfl
@[simp] theorem State.setPending_direct (s : State) (x : List Instr) : (s.setPending x).direct = s.direct := rfl
@[simp] theorem State.setPending_link (s : State) (x : List Instr) : (s.setPending x).link = s.link := rfl
@[simp] theorem State.setPending_freeDraws (s : State) (x : List Instr) : (s.setPending x).freeDraws = s.freeDraws := rfl
@[simp] theorem State.setPending_pending (s : State) (x : List Instr) : (s.setPending x).pending = x := rfl

@[simp] theorem State.modTag_pins (s : State) (t : Fin 32) (f : Tag → Tag) : (s.modTag t f).pins = s.pins := rfl
@[simp] theorem State.modTag_settings (s : State) (t : Fin 32) (f : Tag → Tag) : (s.modTag t f).settings = s.settings := rfl
@[simp] theorem State.modTag_windows (s : State) (t : Fin 32) (f : Tag → Tag) : (s.modTag t f).windows = s.windows := rfl
@[simp] theorem State.modTag_pool (s : State) (t : Fin 32) (f : Tag → Tag) : (s.modTag t f).pool = s.pool := rfl
@[simp] theorem State.modTag_lists (s : State) (t : Fin 32) (f : Tag → Tag) : (s.modTag t f).lists = s.lists := rfl
@[simp] theorem State.modTag_nextPlace (s : State) (t : Fin 32) (f : Tag → Tag) : (s.modTag t f).nextPlace = s.nextPlace := rfl
@[simp] theorem State.modTag_tags (s : State) (t : Fin 32) (f : Tag → Tag) : (s.modTag t f).tags = s.tags.modify t f := rfl
@[simp] theorem State.modTag_ready (s : State) (t : Fin 32) (f : Tag → Tag) : (s.modTag t f).ready = s.ready := rfl
@[simp] theorem State.modTag_ports (s : State) (t : Fin 32) (f : Tag → Tag) : (s.modTag t f).ports = s.ports := rfl
@[simp] theorem State.modTag_jobs (s : State) (t : Fin 32) (f : Tag → Tag) : (s.modTag t f).jobs = s.jobs := rfl
@[simp] theorem State.modTag_sources (s : State) (t : Fin 32) (f : Tag → Tag) : (s.modTag t f).sources = s.sources := rfl
@[simp] theorem State.modTag_faults (s : State) (t : Fin 32) (f : Tag → Tag) : (s.modTag t f).faults = s.faults := rfl
@[simp] theorem State.modTag_direct (s : State) (t : Fin 32) (f : Tag → Tag) : (s.modTag t f).direct = s.direct := rfl
@[simp] theorem State.modTag_link (s : State) (t : Fin 32) (f : Tag → Tag) : (s.modTag t f).link = s.link := rfl
@[simp] theorem State.modTag_freeDraws (s : State) (t : Fin 32) (f : Tag → Tag) : (s.modTag t f).freeDraws = s.freeDraws := rfl
@[simp] theorem State.modTag_pending (s : State) (t : Fin 32) (f : Tag → Tag) : (s.modTag t f).pending = s.pending := rfl

@[simp] theorem State.setSlot_pins (s : State) (k : Fin 32) (x : Option Posted) : (s.setSlot k x).pins = s.pins := rfl
@[simp] theorem State.setSlot_settings (s : State) (k : Fin 32) (x : Option Posted) : (s.setSlot k x).settings = s.settings := rfl
@[simp] theorem State.setSlot_windows (s : State) (k : Fin 32) (x : Option Posted) : (s.setSlot k x).windows = s.windows := rfl
@[simp] theorem State.setSlot_pool (s : State) (k : Fin 32) (x : Option Posted) : (s.setSlot k x).pool = s.pool.set k x := rfl
@[simp] theorem State.setSlot_lists (s : State) (k : Fin 32) (x : Option Posted) : (s.setSlot k x).lists = s.lists := rfl
@[simp] theorem State.setSlot_nextPlace (s : State) (k : Fin 32) (x : Option Posted) : (s.setSlot k x).nextPlace = s.nextPlace := rfl
@[simp] theorem State.setSlot_tags (s : State) (k : Fin 32) (x : Option Posted) : (s.setSlot k x).tags = s.tags := rfl
@[simp] theorem State.setSlot_ready (s : State) (k : Fin 32) (x : Option Posted) : (s.setSlot k x).ready = s.ready := rfl
@[simp] theorem State.setSlot_ports (s : State) (k : Fin 32) (x : Option Posted) : (s.setSlot k x).ports = s.ports := rfl
@[simp] theorem State.setSlot_jobs (s : State) (k : Fin 32) (x : Option Posted) : (s.setSlot k x).jobs = s.jobs := rfl
@[simp] theorem State.setSlot_sources (s : State) (k : Fin 32) (x : Option Posted) : (s.setSlot k x).sources = s.sources := rfl
@[simp] theorem State.setSlot_faults (s : State) (k : Fin 32) (x : Option Posted) : (s.setSlot k x).faults = s.faults := rfl
@[simp] theorem State.setSlot_direct (s : State) (k : Fin 32) (x : Option Posted) : (s.setSlot k x).direct = s.direct := rfl
@[simp] theorem State.setSlot_link (s : State) (k : Fin 32) (x : Option Posted) : (s.setSlot k x).link = s.link := rfl
@[simp] theorem State.setSlot_freeDraws (s : State) (k : Fin 32) (x : Option Posted) : (s.setSlot k x).freeDraws = s.freeDraws := rfl
@[simp] theorem State.setSlot_pending (s : State) (k : Fin 32) (x : Option Posted) : (s.setSlot k x).pending = s.pending := rfl

@[simp] theorem State.setList_pins (s : State) (p : Fin 4) (l : List Entry) : (s.setList p l).pins = s.pins := rfl
@[simp] theorem State.setList_settings (s : State) (p : Fin 4) (l : List Entry) : (s.setList p l).settings = s.settings := rfl
@[simp] theorem State.setList_windows (s : State) (p : Fin 4) (l : List Entry) : (s.setList p l).windows = s.windows := rfl
@[simp] theorem State.setList_pool (s : State) (p : Fin 4) (l : List Entry) : (s.setList p l).pool = s.pool := rfl
@[simp] theorem State.setList_lists (s : State) (p : Fin 4) (l : List Entry) : (s.setList p l).lists = s.lists.set p l := rfl
@[simp] theorem State.setList_nextPlace (s : State) (p : Fin 4) (l : List Entry) : (s.setList p l).nextPlace = s.nextPlace := rfl
@[simp] theorem State.setList_tags (s : State) (p : Fin 4) (l : List Entry) : (s.setList p l).tags = s.tags := rfl
@[simp] theorem State.setList_ready (s : State) (p : Fin 4) (l : List Entry) : (s.setList p l).ready = s.ready := rfl
@[simp] theorem State.setList_ports (s : State) (p : Fin 4) (l : List Entry) : (s.setList p l).ports = s.ports := rfl
@[simp] theorem State.setList_jobs (s : State) (p : Fin 4) (l : List Entry) : (s.setList p l).jobs = s.jobs := rfl
@[simp] theorem State.setList_sources (s : State) (p : Fin 4) (l : List Entry) : (s.setList p l).sources = s.sources := rfl
@[simp] theorem State.setList_faults (s : State) (p : Fin 4) (l : List Entry) : (s.setList p l).faults = s.faults := rfl
@[simp] theorem State.setList_direct (s : State) (p : Fin 4) (l : List Entry) : (s.setList p l).direct = s.direct := rfl
@[simp] theorem State.setList_link (s : State) (p : Fin 4) (l : List Entry) : (s.setList p l).link = s.link := rfl
@[simp] theorem State.setList_freeDraws (s : State) (p : Fin 4) (l : List Entry) : (s.setList p l).freeDraws = s.freeDraws := rfl
@[simp] theorem State.setList_pending (s : State) (p : Fin 4) (l : List Entry) : (s.setList p l).pending = s.pending := rfl

@[simp] theorem State.modPort_pins (s : State) (p : Fin 4) (f : Port → Port) : (s.modPort p f).pins = s.pins := rfl
@[simp] theorem State.modPort_settings (s : State) (p : Fin 4) (f : Port → Port) : (s.modPort p f).settings = s.settings := rfl
@[simp] theorem State.modPort_windows (s : State) (p : Fin 4) (f : Port → Port) : (s.modPort p f).windows = s.windows := rfl
@[simp] theorem State.modPort_pool (s : State) (p : Fin 4) (f : Port → Port) : (s.modPort p f).pool = s.pool := rfl
@[simp] theorem State.modPort_lists (s : State) (p : Fin 4) (f : Port → Port) : (s.modPort p f).lists = s.lists := rfl
@[simp] theorem State.modPort_nextPlace (s : State) (p : Fin 4) (f : Port → Port) : (s.modPort p f).nextPlace = s.nextPlace := rfl
@[simp] theorem State.modPort_tags (s : State) (p : Fin 4) (f : Port → Port) : (s.modPort p f).tags = s.tags := rfl
@[simp] theorem State.modPort_ready (s : State) (p : Fin 4) (f : Port → Port) : (s.modPort p f).ready = s.ready := rfl
@[simp] theorem State.modPort_ports (s : State) (p : Fin 4) (f : Port → Port) : (s.modPort p f).ports = s.ports.modify p f := rfl
@[simp] theorem State.modPort_jobs (s : State) (p : Fin 4) (f : Port → Port) : (s.modPort p f).jobs = s.jobs := rfl
@[simp] theorem State.modPort_sources (s : State) (p : Fin 4) (f : Port → Port) : (s.modPort p f).sources = s.sources := rfl
@[simp] theorem State.modPort_faults (s : State) (p : Fin 4) (f : Port → Port) : (s.modPort p f).faults = s.faults := rfl
@[simp] theorem State.modPort_direct (s : State) (p : Fin 4) (f : Port → Port) : (s.modPort p f).direct = s.direct := rfl
@[simp] theorem State.modPort_link (s : State) (p : Fin 4) (f : Port → Port) : (s.modPort p f).link = s.link := rfl
@[simp] theorem State.modPort_freeDraws (s : State) (p : Fin 4) (f : Port → Port) : (s.modPort p f).freeDraws = s.freeDraws := rfl
@[simp] theorem State.modPort_pending (s : State) (p : Fin 4) (f : Port → Port) : (s.modPort p f).pending = s.pending := rfl

@[simp] theorem State.modJob_pins (s : State) (j : Fin 4) (f : JobSlot → JobSlot) : (s.modJob j f).pins = s.pins := rfl
@[simp] theorem State.modJob_settings (s : State) (j : Fin 4) (f : JobSlot → JobSlot) : (s.modJob j f).settings = s.settings := rfl
@[simp] theorem State.modJob_windows (s : State) (j : Fin 4) (f : JobSlot → JobSlot) : (s.modJob j f).windows = s.windows := rfl
@[simp] theorem State.modJob_pool (s : State) (j : Fin 4) (f : JobSlot → JobSlot) : (s.modJob j f).pool = s.pool := rfl
@[simp] theorem State.modJob_lists (s : State) (j : Fin 4) (f : JobSlot → JobSlot) : (s.modJob j f).lists = s.lists := rfl
@[simp] theorem State.modJob_nextPlace (s : State) (j : Fin 4) (f : JobSlot → JobSlot) : (s.modJob j f).nextPlace = s.nextPlace := rfl
@[simp] theorem State.modJob_tags (s : State) (j : Fin 4) (f : JobSlot → JobSlot) : (s.modJob j f).tags = s.tags := rfl
@[simp] theorem State.modJob_ready (s : State) (j : Fin 4) (f : JobSlot → JobSlot) : (s.modJob j f).ready = s.ready := rfl
@[simp] theorem State.modJob_ports (s : State) (j : Fin 4) (f : JobSlot → JobSlot) : (s.modJob j f).ports = s.ports := rfl
@[simp] theorem State.modJob_jobs (s : State) (j : Fin 4) (f : JobSlot → JobSlot) : (s.modJob j f).jobs = s.jobs.modify j f := rfl
@[simp] theorem State.modJob_sources (s : State) (j : Fin 4) (f : JobSlot → JobSlot) : (s.modJob j f).sources = s.sources := rfl
@[simp] theorem State.modJob_faults (s : State) (j : Fin 4) (f : JobSlot → JobSlot) : (s.modJob j f).faults = s.faults := rfl
@[simp] theorem State.modJob_direct (s : State) (j : Fin 4) (f : JobSlot → JobSlot) : (s.modJob j f).direct = s.direct := rfl
@[simp] theorem State.modJob_link (s : State) (j : Fin 4) (f : JobSlot → JobSlot) : (s.modJob j f).link = s.link := rfl
@[simp] theorem State.modJob_freeDraws (s : State) (j : Fin 4) (f : JobSlot → JobSlot) : (s.modJob j f).freeDraws = s.freeDraws := rfl
@[simp] theorem State.modJob_pending (s : State) (j : Fin 4) (f : JobSlot → JobSlot) : (s.modJob j f).pending = s.pending := rfl

@[simp] theorem State.modSource_pins (s : State) (i : Fin 32) (f : Source → Source) : (s.modSource i f).pins = s.pins := rfl
@[simp] theorem State.modSource_settings (s : State) (i : Fin 32) (f : Source → Source) : (s.modSource i f).settings = s.settings := rfl
@[simp] theorem State.modSource_windows (s : State) (i : Fin 32) (f : Source → Source) : (s.modSource i f).windows = s.windows := rfl
@[simp] theorem State.modSource_pool (s : State) (i : Fin 32) (f : Source → Source) : (s.modSource i f).pool = s.pool := rfl
@[simp] theorem State.modSource_lists (s : State) (i : Fin 32) (f : Source → Source) : (s.modSource i f).lists = s.lists := rfl
@[simp] theorem State.modSource_nextPlace (s : State) (i : Fin 32) (f : Source → Source) : (s.modSource i f).nextPlace = s.nextPlace := rfl
@[simp] theorem State.modSource_tags (s : State) (i : Fin 32) (f : Source → Source) : (s.modSource i f).tags = s.tags := rfl
@[simp] theorem State.modSource_ready (s : State) (i : Fin 32) (f : Source → Source) : (s.modSource i f).ready = s.ready := rfl
@[simp] theorem State.modSource_ports (s : State) (i : Fin 32) (f : Source → Source) : (s.modSource i f).ports = s.ports := rfl
@[simp] theorem State.modSource_jobs (s : State) (i : Fin 32) (f : Source → Source) : (s.modSource i f).jobs = s.jobs := rfl
@[simp] theorem State.modSource_sources (s : State) (i : Fin 32) (f : Source → Source) : (s.modSource i f).sources = s.sources.modify i f := rfl
@[simp] theorem State.modSource_faults (s : State) (i : Fin 32) (f : Source → Source) : (s.modSource i f).faults = s.faults := rfl
@[simp] theorem State.modSource_direct (s : State) (i : Fin 32) (f : Source → Source) : (s.modSource i f).direct = s.direct := rfl
@[simp] theorem State.modSource_link (s : State) (i : Fin 32) (f : Source → Source) : (s.modSource i f).link = s.link := rfl
@[simp] theorem State.modSource_freeDraws (s : State) (i : Fin 32) (f : Source → Source) : (s.modSource i f).freeDraws = s.freeDraws := rfl
@[simp] theorem State.modSource_pending (s : State) (i : Fin 32) (f : Source → Source) : (s.modSource i f).pending = s.pending := rfl

@[simp] theorem State.modLink_pins (s : State) (f : Link → Link) : (s.modLink f).pins = s.pins := rfl
@[simp] theorem State.modLink_settings (s : State) (f : Link → Link) : (s.modLink f).settings = s.settings := rfl
@[simp] theorem State.modLink_windows (s : State) (f : Link → Link) : (s.modLink f).windows = s.windows := rfl
@[simp] theorem State.modLink_pool (s : State) (f : Link → Link) : (s.modLink f).pool = s.pool := rfl
@[simp] theorem State.modLink_lists (s : State) (f : Link → Link) : (s.modLink f).lists = s.lists := rfl
@[simp] theorem State.modLink_nextPlace (s : State) (f : Link → Link) : (s.modLink f).nextPlace = s.nextPlace := rfl
@[simp] theorem State.modLink_tags (s : State) (f : Link → Link) : (s.modLink f).tags = s.tags := rfl
@[simp] theorem State.modLink_ready (s : State) (f : Link → Link) : (s.modLink f).ready = s.ready := rfl
@[simp] theorem State.modLink_ports (s : State) (f : Link → Link) : (s.modLink f).ports = s.ports := rfl
@[simp] theorem State.modLink_jobs (s : State) (f : Link → Link) : (s.modLink f).jobs = s.jobs := rfl
@[simp] theorem State.modLink_sources (s : State) (f : Link → Link) : (s.modLink f).sources = s.sources := rfl
@[simp] theorem State.modLink_faults (s : State) (f : Link → Link) : (s.modLink f).faults = s.faults := rfl
@[simp] theorem State.modLink_direct (s : State) (f : Link → Link) : (s.modLink f).direct = s.direct := rfl
@[simp] theorem State.modLink_link (s : State) (f : Link → Link) : (s.modLink f).link = f s.link := rfl
@[simp] theorem State.modLink_freeDraws (s : State) (f : Link → Link) : (s.modLink f).freeDraws = s.freeDraws := rfl
@[simp] theorem State.modLink_pending (s : State) (f : Link → Link) : (s.modLink f).pending = s.pending := rfl

@[simp] theorem State.modSettings_pins (s : State) (f : Settings → Settings) : (s.modSettings f).pins = s.pins := rfl
@[simp] theorem State.modSettings_settings (s : State) (f : Settings → Settings) : (s.modSettings f).settings = f s.settings := rfl
@[simp] theorem State.modSettings_windows (s : State) (f : Settings → Settings) : (s.modSettings f).windows = s.windows := rfl
@[simp] theorem State.modSettings_pool (s : State) (f : Settings → Settings) : (s.modSettings f).pool = s.pool := rfl
@[simp] theorem State.modSettings_lists (s : State) (f : Settings → Settings) : (s.modSettings f).lists = s.lists := rfl
@[simp] theorem State.modSettings_nextPlace (s : State) (f : Settings → Settings) : (s.modSettings f).nextPlace = s.nextPlace := rfl
@[simp] theorem State.modSettings_tags (s : State) (f : Settings → Settings) : (s.modSettings f).tags = s.tags := rfl
@[simp] theorem State.modSettings_ready (s : State) (f : Settings → Settings) : (s.modSettings f).ready = s.ready := rfl
@[simp] theorem State.modSettings_ports (s : State) (f : Settings → Settings) : (s.modSettings f).ports = s.ports := rfl
@[simp] theorem State.modSettings_jobs (s : State) (f : Settings → Settings) : (s.modSettings f).jobs = s.jobs := rfl
@[simp] theorem State.modSettings_sources (s : State) (f : Settings → Settings) : (s.modSettings f).sources = s.sources := rfl
@[simp] theorem State.modSettings_faults (s : State) (f : Settings → Settings) : (s.modSettings f).faults = s.faults := rfl
@[simp] theorem State.modSettings_direct (s : State) (f : Settings → Settings) : (s.modSettings f).direct = s.direct := rfl
@[simp] theorem State.modSettings_link (s : State) (f : Settings → Settings) : (s.modSettings f).link = s.link := rfl
@[simp] theorem State.modSettings_freeDraws (s : State) (f : Settings → Settings) : (s.modSettings f).freeDraws = s.freeDraws := rfl
@[simp] theorem State.modSettings_pending (s : State) (f : Settings → Settings) : (s.modSettings f).pending = s.pending := rfl

@[simp] theorem State.bumpPlace_pins (s : State) : (s.bumpPlace).pins = s.pins := rfl
@[simp] theorem State.bumpPlace_settings (s : State) : (s.bumpPlace).settings = s.settings := rfl
@[simp] theorem State.bumpPlace_windows (s : State) : (s.bumpPlace).windows = s.windows := rfl
@[simp] theorem State.bumpPlace_pool (s : State) : (s.bumpPlace).pool = s.pool := rfl
@[simp] theorem State.bumpPlace_lists (s : State) : (s.bumpPlace).lists = s.lists := rfl
@[simp] theorem State.bumpPlace_nextPlace (s : State) : (s.bumpPlace).nextPlace = s.nextPlace + 1 := rfl
@[simp] theorem State.bumpPlace_tags (s : State) : (s.bumpPlace).tags = s.tags := rfl
@[simp] theorem State.bumpPlace_ready (s : State) : (s.bumpPlace).ready = s.ready := rfl
@[simp] theorem State.bumpPlace_ports (s : State) : (s.bumpPlace).ports = s.ports := rfl
@[simp] theorem State.bumpPlace_jobs (s : State) : (s.bumpPlace).jobs = s.jobs := rfl
@[simp] theorem State.bumpPlace_sources (s : State) : (s.bumpPlace).sources = s.sources := rfl
@[simp] theorem State.bumpPlace_faults (s : State) : (s.bumpPlace).faults = s.faults := rfl
@[simp] theorem State.bumpPlace_direct (s : State) : (s.bumpPlace).direct = s.direct := rfl
@[simp] theorem State.bumpPlace_link (s : State) : (s.bumpPlace).link = s.link := rfl
@[simp] theorem State.bumpPlace_freeDraws (s : State) : (s.bumpPlace).freeDraws = s.freeDraws := rfl
@[simp] theorem State.bumpPlace_pending (s : State) : (s.bumpPlace).pending = s.pending := rfl

@[simp] theorem State.addReply_pins (s : State) (m : Message) : (s.addReply m).pins = s.pins := rfl
@[simp] theorem State.addReply_settings (s : State) (m : Message) : (s.addReply m).settings = s.settings := rfl
@[simp] theorem State.addReply_windows (s : State) (m : Message) : (s.addReply m).windows = s.windows := rfl
@[simp] theorem State.addReply_pool (s : State) (m : Message) : (s.addReply m).pool = s.pool := rfl
@[simp] theorem State.addReply_lists (s : State) (m : Message) : (s.addReply m).lists = s.lists := rfl
@[simp] theorem State.addReply_nextPlace (s : State) (m : Message) : (s.addReply m).nextPlace = s.nextPlace := rfl
@[simp] theorem State.addReply_tags (s : State) (m : Message) : (s.addReply m).tags = s.tags := rfl
@[simp] theorem State.addReply_ready (s : State) (m : Message) : (s.addReply m).ready = s.ready := rfl
@[simp] theorem State.addReply_ports (s : State) (m : Message) : (s.addReply m).ports = s.ports := rfl
@[simp] theorem State.addReply_jobs (s : State) (m : Message) : (s.addReply m).jobs = s.jobs := rfl
@[simp] theorem State.addReply_sources (s : State) (m : Message) : (s.addReply m).sources = s.sources := rfl
@[simp] theorem State.addReply_faults (s : State) (m : Message) : (s.addReply m).faults = s.faults := rfl
@[simp] theorem State.addReply_direct (s : State) (m : Message) : (s.addReply m).direct = s.direct ++ [m] := rfl
@[simp] theorem State.addReply_link (s : State) (m : Message) : (s.addReply m).link = s.link := rfl
@[simp] theorem State.addReply_freeDraws (s : State) (m : Message) : (s.addReply m).freeDraws = s.freeDraws := rfl
@[simp] theorem State.addReply_pending (s : State) (m : Message) : (s.addReply m).pending = s.pending := rfl

@[simp] theorem State.modCounters_pins (s : State) (f : LinkCounters → LinkCounters) : (s.modCounters f).pins = s.pins := rfl
@[simp] theorem State.modCounters_settings (s : State) (f : LinkCounters → LinkCounters) : (s.modCounters f).settings = s.settings := rfl
@[simp] theorem State.modCounters_windows (s : State) (f : LinkCounters → LinkCounters) : (s.modCounters f).windows = s.windows := rfl
@[simp] theorem State.modCounters_pool (s : State) (f : LinkCounters → LinkCounters) : (s.modCounters f).pool = s.pool := rfl
@[simp] theorem State.modCounters_lists (s : State) (f : LinkCounters → LinkCounters) : (s.modCounters f).lists = s.lists := rfl
@[simp] theorem State.modCounters_nextPlace (s : State) (f : LinkCounters → LinkCounters) : (s.modCounters f).nextPlace = s.nextPlace := rfl
@[simp] theorem State.modCounters_tags (s : State) (f : LinkCounters → LinkCounters) : (s.modCounters f).tags = s.tags := rfl
@[simp] theorem State.modCounters_ready (s : State) (f : LinkCounters → LinkCounters) : (s.modCounters f).ready = s.ready := rfl
@[simp] theorem State.modCounters_ports (s : State) (f : LinkCounters → LinkCounters) : (s.modCounters f).ports = s.ports := rfl
@[simp] theorem State.modCounters_jobs (s : State) (f : LinkCounters → LinkCounters) : (s.modCounters f).jobs = s.jobs := rfl
@[simp] theorem State.modCounters_sources (s : State) (f : LinkCounters → LinkCounters) : (s.modCounters f).sources = s.sources := rfl
@[simp] theorem State.modCounters_faults (s : State) (f : LinkCounters → LinkCounters) : (s.modCounters f).faults = s.faults := rfl
@[simp] theorem State.modCounters_direct (s : State) (f : LinkCounters → LinkCounters) : (s.modCounters f).direct = s.direct := rfl
@[simp] theorem State.modCounters_link (s : State) (f : LinkCounters → LinkCounters) : (s.modCounters f).link = { s.link with counters := f s.link.counters } := rfl
@[simp] theorem State.modCounters_freeDraws (s : State) (f : LinkCounters → LinkCounters) : (s.modCounters f).freeDraws = s.freeDraws := rfl
@[simp] theorem State.modCounters_pending (s : State) (f : LinkCounters → LinkCounters) : (s.modCounters f).pending = s.pending := rfl

end Sys2Proof.Machine
end

