-- ==== Sys2Proof/Laws/Touches.lean ====
section
/-!
SUPPORT. Which blocks of the state an operation may change: `Touches bs s t` says that every block of
`s` outside `bs` stands unchanged in `t`. One lemma for each shared operation follows in the files of
Laws/ that import this one.
-/

-- One theorem after another: the many proofs of this file at once ask for more threads than the check's
-- memory limit holds.
set_option Elab.async false

namespace Sys2Proof.Machine

/-- The blocks of the state, one for each field. -/
inductive Block where
  | pins | settings | windows | pool | lists | nextPlace | tags | ready
  | ports | jobs | sources | faults | direct | link | freeDraws | pending
  deriving DecidableEq, Repr

/-- Every block outside `bs` is the same in `s` and `t`. -/
structure Touches (bs : List Block) (s t : State) : Prop where
  pins : Block.pins ∉ bs → t.pins = s.pins
  settings : Block.settings ∉ bs → t.settings = s.settings
  windows : Block.windows ∉ bs → t.windows = s.windows
  pool : Block.pool ∉ bs → t.pool = s.pool
  lists : Block.lists ∉ bs → t.lists = s.lists
  nextPlace : Block.nextPlace ∉ bs → t.nextPlace = s.nextPlace
  tags : Block.tags ∉ bs → t.tags = s.tags
  ready : Block.ready ∉ bs → t.ready = s.ready
  ports : Block.ports ∉ bs → t.ports = s.ports
  jobs : Block.jobs ∉ bs → t.jobs = s.jobs
  sources : Block.sources ∉ bs → t.sources = s.sources
  faults : Block.faults ∉ bs → t.faults = s.faults
  direct : Block.direct ∉ bs → t.direct = s.direct
  link : Block.link ∉ bs → t.link = s.link
  freeDraws : Block.freeDraws ∉ bs → t.freeDraws = s.freeDraws
  pending : Block.pending ∉ bs → t.pending = s.pending

namespace Touches

variable {bs cs : List Block} {s t u : State}

theorem refl (bs : List Block) (s : State) : Touches bs s s := by
  constructor <;> intro _ <;> rfl

theorem of_eq (h : t = s) : Touches bs s t := by subst h; exact refl _ _

theorem trans (h : Touches bs s t) (k : Touches bs t u) : Touches bs s u where
  pins n := (k.pins n).trans (h.pins n)
  settings n := (k.settings n).trans (h.settings n)
  windows n := (k.windows n).trans (h.windows n)
  pool n := (k.pool n).trans (h.pool n)
  lists n := (k.lists n).trans (h.lists n)
  nextPlace n := (k.nextPlace n).trans (h.nextPlace n)
  tags n := (k.tags n).trans (h.tags n)
  ready n := (k.ready n).trans (h.ready n)
  ports n := (k.ports n).trans (h.ports n)
  jobs n := (k.jobs n).trans (h.jobs n)
  sources n := (k.sources n).trans (h.sources n)
  faults n := (k.faults n).trans (h.faults n)
  direct n := (k.direct n).trans (h.direct n)
  link n := (k.link n).trans (h.link n)
  freeDraws n := (k.freeDraws n).trans (h.freeDraws n)
  pending n := (k.pending n).trans (h.pending n)

theorem mono (h : Touches bs s t) (sub : bs ⊆ cs) : Touches cs s t where
  pins n := h.pins fun m => n (sub m)
  settings n := h.settings fun m => n (sub m)
  windows n := h.windows fun m => n (sub m)
  pool n := h.pool fun m => n (sub m)
  lists n := h.lists fun m => n (sub m)
  nextPlace n := h.nextPlace fun m => n (sub m)
  tags n := h.tags fun m => n (sub m)
  ready n := h.ready fun m => n (sub m)
  ports n := h.ports fun m => n (sub m)
  jobs n := h.jobs fun m => n (sub m)
  sources n := h.sources fun m => n (sub m)
  faults n := h.faults fun m => n (sub m)
  direct n := h.direct fun m => n (sub m)
  link n := h.link fun m => n (sub m)
  freeDraws n := h.freeDraws fun m => n (sub m)
  pending n := h.pending fun m => n (sub m)

/-- The same, with the larger list of blocks taken from where it is used. -/
theorem within (h : Touches bs s t) (sub : bs ⊆ cs := by simp) : Touches cs s t := h.mono sub

theorem foldOver {α : Type} {f : α → State → State} (xs : List α) (s : State)
    (h : ∀ x t, Touches bs t (f x t)) : Touches bs s (foldOver xs f s) := by
  induction xs generalizing s with
  | nil => exact refl _ _
  | cons x xs ih => exact (h x s).trans (ih (f x s))

end Touches

theorem setPins_touches (s : State) (x : Pins) : Touches [.pins] s (s.setPins x) := by
  constructor <;> intro h <;> first | rfl | simp at h

theorem setSettings_touches (s : State) (x : Settings) : Touches [.settings] s (s.setSettings x) := by
  constructor <;> intro h <;> first | rfl | simp at h

theorem setWindows_touches (s : State) (x : Table Window 16) : Touches [.windows] s (s.setWindows x) := by
  constructor <;> intro h <;> first | rfl | simp at h

theorem setPool_touches (s : State) (x : Table (Option Posted) 32) : Touches [.pool] s (s.setPool x) := by
  constructor <;> intro h <;> first | rfl | simp at h

theorem setLists_touches (s : State) (x : Table (List Entry) 4) : Touches [.lists] s (s.setLists x) := by
  constructor <;> intro h <;> first | rfl | simp at h

theorem setNextPlace_touches (s : State) (x : Nat) : Touches [.nextPlace] s (s.setNextPlace x) := by
  constructor <;> intro h <;> first | rfl | simp at h

theorem setTags_touches (s : State) (x : Table Tag 32) : Touches [.tags] s (s.setTags x) := by
  constructor <;> intro h <;> first | rfl | simp at h

theorem setReady_touches (s : State) (x : List (Fin 32)) : Touches [.ready] s (s.setReady x) := by
  constructor <;> intro h <;> first | rfl | simp at h

theorem setPorts_touches (s : State) (x : Table Port 4) : Touches [.ports] s (s.setPorts x) := by
  constructor <;> intro h <;> first | rfl | simp at h

theorem setJobs_touches (s : State) (x : Table JobSlot 4) : Touches [.jobs] s (s.setJobs x) := by
  constructor <;> intro h <;> first | rfl | simp at h

theorem setSources_touches (s : State) (x : Table Source 32) : Touches [.sources] s (s.setSources x) := by
  constructor <;> intro h <;> first | rfl | simp at h

theorem setFaults_touches (s : State) (x : FaultUnit) : Touches [.faults] s (s.setFaults x) := by
  constructor <;> intro h <;> first | rfl | simp at h

theorem setDirect_touches (s : State) (x : List Message) : Touches [.direct] s (s.setDirect x) := by
  constructor <;> intro h <;> first | rfl | simp at h

theorem setLink_touches (s : State) (x : Link) : Touches [.link] s (s.setLink x) := by
  constructor <;> intro h <;> first | rfl | simp at h

theorem setFreeDraws_touches (s : State) (x : Nat) : Touches [.freeDraws] s (s.setFreeDraws x) := by
  constructor <;> intro h <;> first | rfl | simp at h

theorem setPending_touches (s : State) (x : List Instr) : Touches [.pending] s (s.setPending x) := by
  constructor <;> intro h <;> first | rfl | simp at h

theorem modTag_touches (s : State) (t : Fin 32) (f : Tag → Tag) :
    Touches [.tags] s (s.modTag t f) := setTags_touches _ _

theorem setSlot_touches (s : State) (k : Fin 32) (x : Option Posted) :
    Touches [.pool] s (s.setSlot k x) := setPool_touches _ _

theorem setList_touches (s : State) (p : Fin 4) (l : List Entry) :
    Touches [.lists] s (s.setList p l) := setLists_touches _ _

theorem modPort_touches (s : State) (p : Fin 4) (f : Port → Port) :
    Touches [.ports] s (s.modPort p f) := setPorts_touches _ _

theorem modJob_touches (s : State) (j : Fin 4) (f : JobSlot → JobSlot) :
    Touches [.jobs] s (s.modJob j f) := setJobs_touches _ _

theorem modSource_touches (s : State) (i : Fin 32) (f : Source → Source) :
    Touches [.sources] s (s.modSource i f) := setSources_touches _ _

theorem modLink_touches (s : State) (f : Link → Link) :
    Touches [.link] s (s.modLink f) := setLink_touches _ _

theorem modCounters_touches (s : State) (f : LinkCounters → LinkCounters) :
    Touches [.link] s (s.modCounters f) := setLink_touches _ _

theorem modSettings_touches (s : State) (f : Settings → Settings) :
    Touches [.settings] s (s.modSettings f) := setSettings_touches _ _

theorem addReply_touches (s : State) (m : Message) :
    Touches [.direct] s (s.addReply m) := setDirect_touches _ _

theorem bumpPlace_touches (s : State) : Touches [.nextPlace] s s.bumpPlace := setNextPlace_touches _ _

end Sys2Proof.Machine
end

