-- ==== Sys2Proof/Laws/Blocks.lean ====
section
/-!
SUPPORT. For each shared operation of the blocks, the blocks of the state it may change.
-/

-- One theorem after another: the many proofs of this file at once ask for more threads than the check's
-- memory limit holds.
set_option Elab.async false

namespace Sys2Proof.Machine

/-! ## Fault unit and ports -/

theorem report_touches (k : FaultKind) (d : FaultDetail) (s : State) :
    Touches [.faults] s (report k d s) := setFaults_touches _ _

theorem changePort_touches (p : Fin 4) (f : Port → Port) (s : State) :
    Touches [.ports] s (changePort p f s) := modPort_touches _ _ _

theorem changeEveryPort_touches (f : Port → Port) (s : State) :
    Touches [.ports] s (changeEveryPort f s) := setPorts_touches _ _

theorem fillTest_touches (a : Access) (s : State) : Touches [.ports] s (fillTest a s) := by
  unfold fillTest
  split
  · exact modPort_touches _ _ _
  · exact .refl _ _

/-! ## Tags and request lists -/

theorem makeReady_touches (t : Fin 32) (st : Status) (b : Bool) (d : Option (List Byte)) (s : State) :
    Touches [.tags, .ready, .faults] s (makeReady t st b d s) := by
  have h : ∀ x y, Touches [.tags, .ready, .faults] s ((s.setTags x).setReady y) := fun x y =>
    (setTags_touches s x).within.trans (setReady_touches _ y).within
  unfold makeReady
  dsimp only
  split
  · exact (h _ _).trans (report_touches _ _ _).within
  · exact h _ _

theorem freeEntry_touches (t : Fin 32) (s : State) : Touches [.tags] s (freeEntry t s) :=
  setTags_touches _ _

theorem dropResult_touches (t : Fin 32) (s : State) : Touches [.tags] s (dropResult t s) := by
  unfold dropResult
  split
  · exact freeEntry_touches _ _
  · exact modTag_touches _ _ _
  · exact .refl _ _

theorem finishRequest_touches (t : Fin 32) (st : Status) (d : Option (List Byte)) (s : State) :
    Touches [.tags, .ready, .faults] s (finishRequest t st d s) := by
  unfold finishRequest
  split
  · exact makeReady_touches _ _ _ _ _
  · exact (dropResult_touches _ _).within

theorem returnEntry_touches (p : Fin 4) (e : Entry) (s : State) :
    Touches [.lists] s (returnEntry p e s) := setList_touches _ _ _

theorem removeEntry_touches (e : Entry) (s : State) : Touches [.lists] s (removeEntry e s) :=
  setLists_touches _ _

theorem readyFromQueue_touches (t : Fin 32) (st : Status) (s : State) :
    Touches [.lists, .tags, .ready, .faults] s (readyFromQueue t st s) :=
  ((removeEntry_touches _ s).within.trans (modTag_touches _ _ _).within).trans
    (makeReady_touches _ _ _ _ _).within

theorem uncover_touches (t : Fin 32) (s : State) : Touches [.pool] s (uncover t s) :=
  setPool_touches _ _

theorem readyFromBarrier_touches (t : Fin 32) (st : Status) (s : State) :
    Touches [.pool, .tags, .ready, .faults] s (readyFromBarrier t st s) :=
  (uncover_touches t s).within.trans (makeReady_touches _ _ _ _ _).within

theorem countEnd_touches (b : Bool) (t : Fin 32) (s : State) :
    Touches [.tags, .ready, .faults] s (countEnd b t s) := by
  unfold countEnd
  dsimp only
  split
  · split
    · exact (setTags_touches _ _).within.trans (makeReady_touches _ _ _ _ _)
    · exact (setTags_touches _ _).within
  · exact .refl _ _

theorem endPost_touches (k : Fin 32) (x : Posted) (b : Bool) (s : State) :
    Touches [.pool, .tags, .ready, .faults] s (endPost k x b s) :=
  (setSlot_touches s k none).within.trans
    (.foldOver _ _ fun _ _ => (countEnd_touches _ _ _).within)

theorem releaseTag_touches (t : Fin 32) (s : State) : Touches [.tags] s (releaseTag t s) := by
  unfold releaseTag
  split
  · exact modTag_touches _ _ _
  · exact freeEntry_touches _ _

/-! ## Interrupt concentrator -/

theorem askPort_touches (i : Fin 32) (w : Bool) (a : Word) (n : Nat) (v : Word) (s : State) :
    Touches [.ports, .sources, .nextPlace] s (askPort i w a n v s) :=
  ((modPort_touches s _ _).within.trans (modSource_touches _ _ _).within).trans
    (bumpPlace_touches _).within

theorem fetchOrDue_touches (i : Fin 32) (s : State) :
    Touches [.ports, .sources, .nextPlace] s (fetchOrDue i s) := by
  unfold fetchOrDue
  split
  · exact (modSource_touches _ _ _).within.trans (askPort_touches _ _ _ _ _ _)
  · exact (modSource_touches _ _ _).within

theorem judgeSource_touches (i : Fin 32) (s : State) :
    Touches [.ports, .sources, .nextPlace] s (judgeSource i s) := by
  unfold judgeSource
  dsimp only
  split
  · split
    · exact (modSource_touches _ _ _).within.trans (modSource_touches _ _ _).within
    · exact (modSource_touches _ _ _).within.trans (fetchOrDue_touches _ _)
  · exact .refl _ _

theorem judgeAfterFlush_touches (i : Fin 32) (s : State) :
    Touches [.ports, .sources, .nextPlace] s (judgeAfterFlush i s) := by
  unfold judgeAfterFlush
  dsimp only
  split
  · exact (judgeSource_touches _ _).trans (modSource_touches _ _ _).within
  · exact judgeSource_touches _ _

theorem vectorReadEnded_touches (op : IrqOp) (st : Status) (d : List Byte) (s : State) :
    Touches [.ports, .sources, .nextPlace, .faults] s (vectorReadEnded op st d s) := by
  unfold vectorReadEnded
  dsimp only
  refine Touches.trans ?_ (judgeSource_touches _ _).within
  split
  · exact (modSource_touches _ _ _).within
  · exact (modSource_touches _ _ _).within.trans (report_touches _ _ _).within

theorem ackWriteEnded_touches (op : IrqOp) (st : Status) (s : State) :
    Touches [.ports, .sources, .nextPlace, .faults] s (ackWriteEnded op st s) := by
  unfold ackWriteEnded
  dsimp only
  refine Touches.trans ?_ (judgeSource_touches _ _).within
  split
  · exact (modSource_touches _ _ _).within
  · exact (modSource_touches _ _ _).within.trans (report_touches _ _ _).within

theorem operationEnded_touches (op : IrqOp) (st : Status) (d : List Byte) (s : State) :
    Touches [.ports, .sources, .nextPlace, .faults] s (operationEnded op st d s) := by
  unfold operationEnded
  split
  · exact (modSource_touches _ _ _).within.trans (judgeAfterFlush_touches _ _).within
  · split
    · exact ackWriteEnded_touches _ _ _
    · exact vectorReadEnded_touches _ _ _ _

theorem takeIrqSet_touches (i : Fin 32) (b : List Byte) (s : State) :
    Touches [.ports, .sources, .nextPlace] s (takeIrqSet i b s) := by
  unfold takeIrqSet
  split
  · exact (modSource_touches _ _ _).within.trans (judgeSource_touches _ _)
  · exact (modSource_touches _ _ _).within

theorem maskSource_touches (v : Bool) (i : Fin 32) (s : State) :
    Touches [.ports, .sources, .nextPlace] s (maskSource v i s) := by
  unfold maskSource
  dsimp only
  refine (modSource_touches s i fun x => { x with masked := v }).within.trans ?_
  split
  · exact (modSource_touches _ _ _).within
  · exact judgeSource_touches _ _
  · exact fetchOrDue_touches _ _
  · exact .refl _ _

theorem closeCycle_touches (i : Fin 32) (s : State) :
    Touches [.ports, .sources, .nextPlace] s (closeCycle i s) := by
  unfold closeCycle
  split
  · exact (modSource_touches _ _ _).within.trans (askPort_touches _ _ _ _ _ _)
  · exact (modSource_touches _ _ _).within.trans (judgeSource_touches _ _)

/-! ## Job engine -/

theorem offerChunk_touches (j p : Fin 4) (o : Offer) (s : State) :
    Touches [.ports] s (offerChunk j p o s) := modPort_touches _ _ _

theorem withdrawChunk_touches (j : Fin 4) (s : State) : Touches [.ports] s (withdrawChunk j s) :=
  setPorts_touches _ _

theorem layOut_touches (j : Fin 4) (s : State) : Touches [.jobs, .ports] s (layOut j s) := by
  unfold layOut
  dsimp only
  split
  · split
    · exact .refl _ _
    · split
      · split
        · exact (modJob_touches _ _ _).within.trans
            (offerChunk_touches _ _ _ _).within
        · exact (modJob_touches _ _ _).within
      · split
        · exact (modJob_touches _ _ _).within.trans
            (offerChunk_touches _ _ _ _).within
        · exact (modJob_touches _ _ _).within
  · exact .refl _ _

theorem runJob_touches (j : Fin 4) (r : RunDecode) (s : State) :
    Touches [.jobs, .ports] s (runJob j r s) :=
  (modJob_touches s _ _).within.trans (layOut_touches _ _)

theorem failChained_touches (j : Fin 4) (f : ValidationFailure) (s : State) :
    Touches [.jobs, .faults] s (failChained j f s) :=
  (modJob_touches s _ _).within.trans (report_touches _ _ _).within

theorem endJob_touches (j : Fin 4) (e : JobState) (s : State) :
    Touches [.jobs, .ports, .faults] s (endJob j e s) := by
  unfold endJob
  dsimp only
  refine (modJob_touches s j fun x => x.close e).within.trans ?_
  split
  · exact .refl _ _
  · split
    · split
      · exact (modJob_touches _ _ _).within.trans (runJob_touches _ _ _).within
      · exact (modJob_touches _ _ _).within.trans (failChained_touches _ _ _).within
    · exact (modJob_touches _ _ _).within

theorem chunkDone_touches (j : Fin 4) (n : Nat) (d : List Byte) (s : State) :
    Touches [.jobs, .ports, .faults] s (chunkDone j n d s) := by
  unfold chunkDone
  dsimp only
  split
  · exact (modJob_touches _ _ _).within.trans (endJob_touches _ _ _)
  · split
    · exact (modJob_touches _ _ _).within.trans (modJob_touches _ _ _).within
    · exact (modJob_touches _ _ _).within.trans (endJob_touches _ _ _)
    · exact (modJob_touches _ _ _).within.trans (layOut_touches _ _).within

theorem chunkFailed_touches (j p : Fin 4) (o : Offer) (st : Status) (s : State) :
    Touches [.jobs, .ports, .faults] s (chunkFailed j p o st s) :=
  ((modJob_touches s _ _).within.trans (report_touches _ _ _).within).trans
    (endJob_touches _ _ _)

theorem copyReadDone_touches (j : Fin 4) (d : List Byte) (s : State) :
    Touches [.jobs, .ports] s (copyReadDone j d s) := by
  unfold copyReadDone
  dsimp only
  split
  · split
    · exact (modJob_touches _ _ _).within.trans
        (offerChunk_touches _ _ _ _).within
    · exact (modJob_touches _ _ _).within
  · exact .refl _ _

theorem chunkEnded_touches (j p : Fin 4) (o : Offer) (st : Status) (d : List Byte) (s : State) :
    Touches [.jobs, .ports, .faults] s (chunkEnded j p o st d s) := by
  unfold chunkEnded
  dsimp only
  split
  · exact (modJob_touches _ _ _).within
  · split
    · split
      · exact (copyReadDone_touches _ _ _).within
      · exact chunkDone_touches _ _ _ _
    · exact chunkFailed_touches _ _ _ _ _

theorem startJob_touches (j : Fin 4) (s : State) : Touches [.jobs, .ports] s (startJob j s).2 := by
  unfold startJob
  split
  · split
    · exact runJob_touches _ _ _
    · exact .refl _ _
  · exact .refl _ _

theorem loadJob_touches (j : Fin 4) (d : Descriptor) (s : State) :
    Touches [.jobs, .ports] s (loadJob j d s).2.2 := by
  unfold loadJob
  dsimp only
  split
  · exact (modJob_touches _ _ _).within
  · split
    · exact (modJob_touches _ _ _).within.trans (startJob_touches _ _)
    · exact (modJob_touches _ _ _).within

theorem pauseJob_touches (j : Fin 4) (s : State) : Touches [.jobs, .ports] s (pauseJob j s).2 := by
  unfold pauseJob
  dsimp only
  split
  · split
    · exact (modJob_touches _ _ _).within
    · exact (withdrawChunk_touches _ _).within.trans (modJob_touches _ _ _).within
  · exact .refl _ _

theorem resumeJob_touches (j : Fin 4) (s : State) : Touches [.jobs, .ports] s (resumeJob j s).2 := by
  unfold resumeJob
  split
  · exact (modJob_touches _ _ _).within.trans (layOut_touches _ _)
  · exact (modJob_touches _ _ _).within
  · exact .refl _ _

theorem stopJob_touches (j : Fin 4) (s : State) :
    Touches [.jobs, .ports, .faults] s (stopJob j s).2 := by
  unfold stopJob
  dsimp only
  split
  · split
    · exact (modJob_touches _ _ _).within
    · exact ((withdrawChunk_touches _ _).within.trans
        (modJob_touches _ _ _).within).trans (endJob_touches _ _ _)
  · exact (modJob_touches _ _ _).within
  · exact endJob_touches _ _ _
  · exact .refl _ _

/-! ## Starting a transaction -/

theorem startTxn_touches (p : Fin 4) (i : Initiator) (w : Bool) (a : Word) (n : Nat) (d : List Byte)
    (l : Bool) (s : State) : Touches [.ports] s (startTxn p i w a n d l s) := changePort_touches _ _ _

theorem answerFromLine_touches (p : Fin 4) (t : Fin 32) (a : Access) (s : State) :
    Touches [.lists, .tags, .ready, .faults, .ports] s (answerFromLine p t a s) :=
  ((removeEntry_touches _ s).within.trans
    (makeReady_touches _ _ _ _ _).within).trans (fillTest_touches _ _).within

theorem startTagged_touches (p : Fin 4) (t : Fin 32) (x : Tag) (a : Access) (s : State) :
    Touches [.lists, .tags, .ports] s (startTagged p t x a s) := by
  unfold startTagged
  dsimp only
  split <;>
    exact (removeEntry_touches _ _).within.trans ((modTag_touches _ _ _).within.trans
      ((modPort_touches _ _ _).within.trans (startTxn_touches _ _ _ _ _ _ _ _).within))

theorem startHost_touches (p : Fin 4) (e : Entry) (s : State) :
    Touches [.lists, .tags, .ready, .faults, .ports, .pool] s (startHost p e s) := by
  unfold startHost
  dsimp only
  split
  · split
    · split
      · exact (answerFromLine_touches _ _ _ _).within
      · exact (startTagged_touches _ _ _ _ _).within
    · exact .refl _ _
  · split
    · exact (removeEntry_touches _ _).within.trans
        ((setSlot_touches _ _ _).within.trans
          ((modPort_touches _ _ _).within.trans
            (startTxn_touches _ _ _ _ _ _ _ _).within))
    · exact .refl _ _

theorem startChunk_touches (p j : Fin 4) (o : Offer) (s : State) :
    Touches [.ports, .jobs] s (startChunk p j o s) :=
  (modPort_touches s _ _).within.trans
    ((modJob_touches _ _ _).within.trans
      (startTxn_touches _ _ _ _ _ _ _ _).within)

theorem startOperation_touches (p : Fin 4) (op : IrqOp) (s : State) :
    Touches [.ports] s (startOperation p op s) :=
  (modPort_touches s _ _).trans (startTxn_touches _ _ _ _ _ _ _ _)

theorem startWriteHalf_touches (p : Fin 4) (l : Lock) (s : State) :
    Touches [.ports] s (startWriteHalf p l s) := by
  unfold startWriteHalf
  split
  · exact startTxn_touches _ _ _ _ _ _ _ _
  · exact .refl _ _

theorem startFill_touches (p : Fin 4) (a : Word) (s : State) : Touches [.ports] s (startFill p a s) :=
  (modPort_touches s _ _).trans (startTxn_touches _ _ _ _ _ _ _ _)

/-- The blocks that a start at a port may change. -/
abbrev startBlocks : List Block := [.lists, .tags, .ready, .faults, .ports, .pool, .jobs]

theorem startChoice_touches (p : Fin 4) (c : Choice) (s : State) :
    Touches startBlocks s (startChoice p c s) := by
  cases c with
  | lockContinuation l => exact (startWriteHalf_touches _ _ _).within
  | operation op => exact (startOperation_touches _ _ _).within
  | host e => exact (startHost_touches _ _ _).within
  | chunk j o => exact (startChunk_touches _ _ _ _).within
  | fill a => exact (startFill_touches _ _ _).within

/-! ## Ending a transaction -/

theorem closeTxn_touches (p : Fin 4) (l : Option Lock) (s : State) :
    Touches [.ports] s (closeTxn p l s) := changePort_touches _ _ _

theorem requeueTag_touches (p : Fin 4) (t : Fin 32) (x : Txn) (s : State) :
    Touches [.lists, .tags] s (requeueTag p t x s) :=
  (modTag_touches s _ _).within.trans (returnEntry_touches _ _ _).within

theorem endRequest_touches (p : Fin 4) (t : Fin 32) (x : Txn) (o : BusOutcome) (d : List Byte)
    (s : State) :
    Touches [.lists, .tags, .ready, .faults, .ports] s (endRequest p t x o d s) := by
  unfold endRequest
  dsimp only
  split
  · exact (closeTxn_touches _ _ _).within.trans (requeueTag_touches _ _ _ _).within
  · split
    · split
      · exact (closeTxn_touches _ _ _).within.trans
          ((finishRequest_touches _ _ _ _).within.trans
            (fillTest_touches _ _).within)
      · exact (closeTxn_touches _ _ _).within.trans
          (finishRequest_touches _ _ _ _).within
    · exact (closeTxn_touches _ _ _).within.trans
        (finishRequest_touches _ _ _ _).within

theorem takeLock_touches (p : Fin 4) (t : Fin 32) (d : List Byte) (s : State) :
    Touches [.ports, .tags] s (takeLock p t d s) :=
  (closeTxn_touches p _ s).within.trans (modTag_touches _ t _).within

theorem endModifyRead_touches (p : Fin 4) (t : Fin 32) (x : Txn) (o : BusOutcome) (d : List Byte)
    (s : State) :
    Touches [.lists, .tags, .ready, .faults, .ports] s (endModifyRead p t x o d s) := by
  unfold endModifyRead
  split
  · exact (takeLock_touches _ _ _ _).within
  · split
    · exact (closeTxn_touches _ _ _).within.trans
        (requeueTag_touches _ _ _ _).within
    · exact (closeTxn_touches _ _ _).within.trans
        (finishRequest_touches _ _ _ _).within

theorem endModifyWrite_touches (p : Fin 4) (t : Fin 32) (x : Txn) (o : BusOutcome) (s : State) :
    Touches [.tags, .ready, .faults, .ports] s (endModifyWrite p t x o s) := by
  unfold endModifyWrite
  dsimp only
  split
  · exact (closeTxn_touches _ _ _).within.trans (modTag_touches _ _ _).within
  · exact (closeTxn_touches _ _ _).within.trans
      (finishRequest_touches _ _ _ _).within

theorem endPosted_touches (p : Fin 4) (k : Fin 32) (x : Txn) (o : BusOutcome) (s : State) :
    Touches [.pool, .lists, .tags, .ready, .faults, .ports] s (endPosted p k x o s) := by
  unfold endPosted
  dsimp only
  refine (closeTxn_touches p none s).within.trans ?_
  split
  · exact .refl _ _
  · split
    · exact (endPost_touches _ _ _ _).within
    · split
      · exact (setSlot_touches _ _ _).within.trans (returnEntry_touches _ _ _).within
      · split
        · exact (endPost_touches _ _ _ _).within
        · exact (endPost_touches _ _ _ _).within.trans (report_touches _ _ _).within

theorem endChunk_touches (p j : Fin 4) (c : Offer) (x : Txn) (o : BusOutcome) (d : List Byte)
    (s : State) : Touches [.jobs, .ports, .faults] s (endChunk p j c x o d s) := by
  unfold endChunk
  dsimp only
  refine (closeTxn_touches p none s).within.trans ?_
  split
  · exact (offerChunk_touches _ _ _ _).within
  · exact chunkEnded_touches _ _ _ _ _ _

theorem endOperation_touches (p : Fin 4) (op : IrqOp) (x : Txn) (o : BusOutcome) (d : List Byte)
    (s : State) :
    Touches [.ports, .sources, .nextPlace, .faults] s (endOperation p op x o d s) := by
  unfold endOperation
  dsimp only
  refine (closeTxn_touches p none s).within.trans ?_
  split
  · exact (modPort_touches _ _ _).within
  · exact operationEnded_touches _ _ _ _

theorem endFill_touches (p : Fin 4) (x : Txn) (o : BusOutcome) (d : List Byte) (s : State) :
    Touches [.ports] s (endFill p x o d s) := (closeTxn_touches p none s).trans (modPort_touches _ _ _)

/-- The blocks that the end of a local transaction may change. -/
abbrev endBlocks : List Block :=
  [.pool, .lists, .tags, .ready, .faults, .ports, .jobs, .sources, .nextPlace]

theorem endTxn_touches (p : Fin 4) (x : Txn) (o : BusOutcome) (d : List Byte) (s : State) :
    Touches endBlocks s (endTxn p x o d s) := by
  have h : Touches endBlocks s
      (match x.initiator with
        | .request t => endRequest p t x o d s
        | .modifyRead t => endModifyRead p t x o d s
        | .modifyWrite t => endModifyWrite p t x o s
        | .post k => endPosted p k x o s
        | .chunk j c => endChunk p j c x o d s
        | .operation op => endOperation p op x o d s
        | .fill => endFill p x o d s) := by
    split
    · exact (endRequest_touches _ _ _ _ _ _).within
    · exact (endModifyRead_touches _ _ _ _ _ _).within
    · exact (endModifyWrite_touches _ _ _ _ _).within
    · exact (endPosted_touches _ _ _ _ _).within
    · exact (endChunk_touches _ _ _ _ _ _ _).within
    · exact (endOperation_touches _ _ _ _ _ _).within
    · exact (endFill_touches _ _ _ _ _).within
  unfold endTxn
  dsimp only
  split
  · exact h.trans (modPort_touches _ _ _).within
  · exact h

/-! ## Admission -/

theorem guardMiss_touches (a : Word) (id : Option Half) (s : State) :
    Touches [.ports, .faults] s (guardMiss a id s) := by
  unfold guardMiss
  split
  · exact (changeEveryPort_touches _ _).within.trans (report_touches _ _ _).within
  · exact .refl _ _

theorem refuseTagged_touches (k : RequestKind) (id : Half) (b : List Byte) (st : Status) (s : State) :
    Touches [.direct] s (refuseTagged k id b st s) := addReply_touches _ _

theorem admitTagged_touches (k : RequestKind) (id : Half) (b : List Byte) (h : Hit) (t : Fin 32)
    (s : State) : Touches [.tags, .lists, .nextPlace] s (admitTagged k id b h t s) :=
  (setTags_touches s _).within.trans
    ((setList_touches _ _ _).within.trans (bumpPlace_touches _).within)

theorem ownTagged_touches (k : RequestKind) (id : Half) (b : List Byte) (s : State) :
    Touches [.tags, .lists, .nextPlace, .direct, .ports, .faults] s (ownTagged k id b s) := by
  unfold ownTagged
  dsimp only
  split
  · refine Touches.trans ?_ (refuseTagged_touches _ _ _ _ _).within
    split
    · exact (guardMiss_touches _ _ _).within
    · exact .refl _ _
  · split
    · exact (refuseTagged_touches _ _ _ _ _).within
    · exact (admitTagged_touches _ _ _ _ _ _).within

theorem admitPost_touches (b : List Byte) (h : Hit) (k : Fin 32) (s : State) :
    Touches [.pool, .lists, .nextPlace] s (admitPost b h k s) :=
  (setSlot_touches s _ _).within.trans
    ((setList_touches _ _ _).within.trans (bumpPlace_touches _).within)

theorem ownPost_touches (b : List Byte) (s : State) :
    Touches [.pool, .lists, .nextPlace, .ports, .faults] s (ownPost b s) := by
  unfold ownPost
  dsimp only
  split
  · refine Touches.trans ?_ (report_touches _ _ _).within
    split
    · exact (guardMiss_touches _ _ _).within
    · exact .refl _ _
  · split
    · exact (admitPost_touches _ _ _ _).within
    · exact (report_touches _ _ _).within

theorem admitFence_touches (id : Half) (t : Fin 32) (s : State) :
    Touches [.tags, .nextPlace, .ready, .faults, .pool] s (admitFence id t s) := by
  unfold admitFence
  dsimp only
  split
  · exact (setTags_touches s _).within.trans ((bumpPlace_touches _).within.trans
      (makeReady_touches _ _ _ _ _).within)
  · exact (setTags_touches s _).within.trans ((bumpPlace_touches _).within.trans
      (setPool_touches _ _).within)

theorem ownFence_touches (id : Half) (s : State) :
    Touches [.tags, .nextPlace, .ready, .faults, .pool, .direct] s (ownFence id s) := by
  unfold ownFence
  split
  · exact (refuseTagged_touches _ _ _ _ _).within
  · exact (admitFence_touches _ _ _).within

/-! ## Resets -/

/-- A reset leaves the pins, the queue of waiting commands and the count of free choices alone. -/
abbrev resetBlocksOf : List Block :=
  [.settings, .windows, .pool, .lists, .nextPlace, .tags, .ready, .ports, .jobs, .sources, .faults,
   .direct, .link]

theorem resetBlocks_touches (c : ResetCause) (s : State) :
    Touches resetBlocksOf s (resetBlocks c s) := by
  constructor <;> intro h <;> first | rfl | simp at h

theorem holdInReset_touches (s : State) : Touches resetBlocksOf s (holdInReset s) :=
  (resetBlocks_touches _ _).trans (modLink_touches _ _).within

theorem flushTag_touches (t : Fin 32) (s : State) :
    Touches [.pool, .tags, .ready, .faults] s (flushTag t s) := by
  unfold flushTag
  split
  · exact (modTag_touches _ _ _).within.trans (makeReady_touches _ _ _ _ _).within
  · exact readyFromBarrier_touches _ _ _
  · exact (makeReady_touches _ _ _ _ _).within
  · exact .refl _ _

theorem flushRequests_touches (s : State) :
    Touches [.pool, .lists, .tags, .ready, .faults] s (flushRequests s) :=
  (setPool_touches s _).within.trans
    ((setLists_touches _ _).within.trans
      (.foldOver _ _ fun _ _ => (flushTag_touches _ _).within))

theorem flushJobs_touches (s : State) : Touches [.jobs, .ports] s (flushJobs s) :=
  (setJobs_touches s _).within.trans (setPorts_touches _ _).within

theorem flushSources_touches (s : State) :
    Touches [.sources, .ports, .nextPlace, .freeDraws] s (flushSources s) :=
  (setSources_touches s _).within.trans
    ((setFreeDraws_touches _ _).within.trans
      (.foldOver _ _ fun _ _ => (judgeAfterFlush_touches _ _).within))

/-- The blocks that a FLUSH may change: not the windows, settings, direct reply list, host link or
fault unit's place in it (07 R138). -/
abbrev flushBlocks : List Block :=
  [.pool, .lists, .tags, .ready, .faults, .jobs, .ports, .sources, .nextPlace, .freeDraws]

theorem flushPart_touches (s : State) : Touches flushBlocks s (flushPart s) :=
  (flushRequests_touches s).within.trans
    ((flushJobs_touches _).within.trans
      ((changeEveryPort_touches _ _).within.trans
        (flushSources_touches _).within))

end Sys2Proof.Machine
end

