-- ==== Sys2Proof/Laws/LinkBlocks.lean ====
section
/-!
SUPPORT. For each operation of the host link and of intake, the blocks of the state it may change.
-/

-- One theorem after another: the many proofs of this file at once ask for more threads than the check's
-- memory limit holds.
set_option Elab.async false

namespace Sys2Proof.Machine

/-! ## Acknowledgements and sessions -/

/-- The blocks that an acknowledgement may change, a FULL reset included. -/
abbrev ackBlocks : List Block := resetBlocksOf

theorem fullReset_touches (s : State) : Touches resetBlocksOf s (fullReset s) := resetBlocks_touches _ _

theorem reportAck_touches (e : Sent) (s : State) :
    Touches [.link, .faults, .ports, .jobs, .sources] s (reportAck e s) := by
  unfold reportAck
  split
  · exact .refl _ _
  · exact .refl _ _
  · exact .refl _ _
  · exact (modLink_touches _ _).within
  · exact (setFaults_touches _ _).within
  · exact (modPort_touches _ _ _).within
  · exact (modJob_touches _ _ _).within
  · exact (modSource_touches _ _ _).within

theorem reportAcks_touches (es : List Sent) (s : State) : Touches ackBlocks s (reportAcks es s).1 := by
  induction es generalizing s with
  | nil => exact .refl _ _
  | cons e es ih =>
    unfold reportAcks
    split
    · exact fullReset_touches _
    · exact (reportAck_touches _ _).within.trans (ih _)

theorem progress_touches (n : Nat) (s : State) : Touches [.link] s (progress n s) := modLink_touches _ _

theorem takeAck_touches (a : Seq) (s : State) : Touches ackBlocks s (takeAck a s).1 := by
  unfold takeAck
  split
  · exact .refl _ _
  · exact (progress_touches _ _).within.trans (reportAcks_touches _ _)

theorem linkDownRequests_touches (s : State) :
    Touches [.lists, .pool, .tags, .ready] s (linkDownRequests s) :=
  (setLists_touches s _).within.trans ((setPool_touches _ _).within.trans
    ((setTags_touches _ _).within.trans (setReady_touches _ _).within))

theorem linkDownNotices_touches (s : State) :
    Touches [.ports, .jobs, .sources, .faults] s (linkDownNotices s) :=
  (setPorts_touches s _).within.trans ((setJobs_touches _ _).within.trans
    ((setSources_touches _ _).within.trans (setFaults_touches _ _).within))

/-- The blocks that a link down may change: not the windows, settings or place count. -/
abbrev downBlocks : List Block :=
  [.faults, .link, .direct, .lists, .pool, .tags, .ready, .ports, .jobs, .sources]

theorem goDown_touches (c : Status) (s : State) : Touches downBlocks s (goDown c s) :=
  (report_touches _ _ s).within.trans ((modLink_touches _ _).within.trans
    ((setDirect_touches _ _).within.trans ((linkDownRequests_touches _).within.trans
      (linkDownNotices_touches _).within)))

theorem exhaust_touches (s : State) : Touches ackBlocks s (exhaust s) := by
  unfold exhaust
  split
  · exact (goDown_touches _ _).within.trans (fullReset_touches _)
  · exact (goDown_touches _ _).within.trans (modLink_touches _ _).within

theorem takeInit_touches (s : State) : Touches ackBlocks s (takeInit s) := by
  unfold takeInit
  split
  · split
    · exact (goDown_touches _ _).within.trans (fullReset_touches _)
    · exact (goDown_touches _ _).within.trans (modLink_touches _ _).within
  · exact (modLink_touches _ _).within

theorem expireReplay_touches (s : State) : Touches ackBlocks s (expireReplay s) := by
  unfold expireReplay
  dsimp only
  split
  · exact exhaust_touches _
  · exact (modLink_touches _ _).within

theorem takeNak_touches (q : Seq) (s : State) : Touches ackBlocks s (takeNak q s) := by
  unfold takeNak
  split
  · exact (modCounters_touches _ _).within
  · exact (takeAck_touches _ _).trans (modLink_touches _ _).within

/-! ## Frames from the host -/

theorem hostFrame_touches {bs : List Block} {content : List Byte} {act : State → State}
    (hl : [.link] ⊆ bs) (h : ∀ t, Touches bs t (act t)) (s : State) :
    Touches bs s (hostFrame content act s) := by
  unfold hostFrame
  split
  · exact .refl _ _
  · split
    · exact ((modLink_touches _ _).mono hl).trans (h _)
    · exact (modLink_touches _ _).mono hl

theorem placeData_touches {bs : List Block} {act : State → State} (hl : [.link] ⊆ bs)
    (h : ∀ t, Touches bs t (act t)) (q : Seq) (kind : Byte) (s : State) :
    Touches bs s (placeData q kind act s) := by
  unfold placeData
  dsimp only
  split
  · split
    · exact (modLink_touches _ _).mono hl
    · exact ((modLink_touches _ _).mono hl).trans (h _)
  · split
    · exact ((modCounters_touches _ _).mono hl).trans ((modLink_touches _ _).mono hl)
    · exact ((modCounters_touches _ _).mono hl).trans ((modLink_touches _ _).mono hl)

theorem takeData_touches {bs : List Block} {act : State → State} (hl : ackBlocks ⊆ bs)
    (h : ∀ t, Touches bs t (act t)) (f : FrameHead) (kind : Byte) (s : State) :
    Touches bs s (takeData f kind act s) := by
  have hl' : [.link] ⊆ bs := fun b hb => hl (by simp_all)
  unfold takeData
  dsimp only
  split
  · exact .refl _ _
  · split
    · exact (takeAck_touches _ _).mono hl
    · exact ((takeAck_touches _ _).mono hl).trans (placeData_touches hl' h _ _ _)

/-! ## Building frames -/

theorem putFrame_touches (ty : Byte) (q a : Seq) (b : List Byte) (s : State) :
    Touches [.link] s (putFrame ty q a b s) := by
  unfold putFrame
  exact modLink_touches _ _

theorem sendUp_touches (ty : Byte) (q a : Seq) (b : List Byte) (s : State) :
    Touches [.link] s (sendUp ty q a b s) := (putFrame_touches _ _ _ _ _).trans (modLink_touches _ _)

theorem sendReady_touches (s : State) : Touches [.link] s (sendReady s) :=
  (sendUp_touches _ _ _ _ _).trans (modLink_touches _ _)

theorem sendNak_touches (s : State) : Touches [.link] s (sendNak s) :=
  (sendUp_touches _ _ _ _ _).trans (modLink_touches _ _)

theorem sendWait_touches (q : Seq) (s : State) : Touches [.link] s (sendWait q s) :=
  ((sendUp_touches _ _ _ _ _).trans (modLink_touches _ _)).trans (modCounters_touches _ _)

theorem sendAck_touches (s : State) : Touches [.link] s (sendAck s) := sendUp_touches _ _ _ _ _

theorem sendInit_touches (s : State) : Touches [.link] s (sendInit s) :=
  (putFrame_touches _ _ _ _ _).trans (modLink_touches _ _)

theorem resendFrame_touches (e : Sent) (s : State) : Touches [.link] s (resendFrame e s) :=
  ((sendUp_touches _ _ _ _ _).trans (modLink_touches _ _)).trans (modCounters_touches _ _)

theorem buildNotice_touches (c : Carried) (s : State) :
    Touches [.ports, .jobs, .sources, .faults] s (buildNotice c s).2 := by
  cases c <;> unfold buildNotice <;> dsimp only
  case portNotice p => exact (modPort_touches _ _ _).within
  case jobNotice j => exact (modJob_touches _ _ _).within
  case irqNotice i => exact (modSource_touches _ _ _).within
  all_goals exact (setFaults_touches _ _).within

/-- The blocks that the choice of the next frame may change. -/
abbrev sendBlocks : List Block := [.link, .direct, .ready, .tags, .ports, .jobs, .sources, .faults]

theorem takeMessage_touches (c : OutClass) (s : State) (r : Message × State)
    (h : takeMessage c s = some r) : Touches sendBlocks s r.2 := by
  unfold takeMessage at h
  split at h
  · split at h
    · exact absurd h (by simp)
    · cases h; exact (setDirect_touches _ _).within
  · split at h
    · exact absurd h (by simp)
    · cases h
      exact (setReady_touches _ _).within.trans (releaseTag_touches _ _).within
  · obtain ⟨n, -, rfl⟩ := Option.map_eq_some_iff.mp h
    exact (buildNotice_touches _ _).within

theorem sendData_touches (c : OutClass) (m : Message) (s : State) :
    Touches [.link] s (sendData c m s) := (modLink_touches s _).trans (sendUp_touches _ _ _ _ _)

theorem newData_touches (s t : State) (h : newData s = some t) : Touches sendBlocks s t := by
  unfold newData at h
  split at h
  · exact absurd h (by simp)
  · obtain ⟨r, hr, rfl⟩ := Option.map_eq_some_iff.mp h
    exact (takeMessage_touches _ _ _ hr).trans (sendData_touches _ _ _).within

theorem chooseFrame_touches (s : State) : Touches sendBlocks s (chooseFrame s) := by
  unfold chooseFrame
  split
  · split
    · exact (sendReady_touches _).within
    · split
      · exact (sendWait_touches _ _).within
      · exact (sendNak_touches _).within
      · split
        · exact (resendFrame_touches _ _).within
        · split
          · next h => exact newData_touches _ _ h
          · split
            · exact (sendAck_touches _).within
            · exact .refl _ _
  · split
    · exact (sendInit_touches _).within
    · exact .refl _ _

/-! ## Intake and the owners -/

/-- The blocks that a taken message may change: not the pins, the host link or the waiting commands. -/
abbrev messageBlocks : List Block :=
  [.settings, .windows, .pool, .lists, .nextPlace, .tags, .ready, .ports, .jobs, .sources, .faults,
   .direct, .freeDraws]

theorem intake_touches {bs : List Block} {owner : State → State} (hd : [.direct] ⊆ bs)
    (h : ∀ t, Touches bs t (owner t)) (k : RequestKind) (id : Half) (body : List Byte) (s : State) :
    Touches bs s (intake k id body owner s) := by
  unfold intake
  split
  · exact (addReply_touches _ _).mono hd
  · exact h _

theorem intakePost_touches (body : List Byte) (s : State) :
    Touches [.pool, .lists, .nextPlace, .ports, .faults] s (intakePost body s) := by
  unfold intakePost
  split
  · exact (report_touches _ _ _).within
  · exact ownPost_touches _ _

theorem discardLines_touches (p q : Fin 4) (s : State) : Touches [.ports] s (discardLines p q s) :=
  (modPort_touches _ _ _).trans (modPort_touches _ _ _)

theorem takeWindow_touches (i : Fin 16) (w : Window) (s : State) :
    Touches [.windows, .ports] s (takeWindow i w s) :=
  (setWindows_touches s _).within.trans (discardLines_touches _ _ _).within

theorem ownWindowSet_touches (id : Half) (body : List Byte) (s : State) :
    Touches [.windows, .ports, .direct] s (ownWindowSet id body s) := by
  unfold ownWindowSet
  dsimp only
  refine Touches.trans ?_ (addReply_touches _ _).within
  split
  · exact (takeWindow_touches _ _ _).within
  · exact .refl _ _

theorem onNamedPorts_touches (b : Byte) (f : Port → Port) (s : State) :
    Touches [.ports] s (onNamedPorts b f s) := by
  unfold onNamedPorts
  split
  · exact changeEveryPort_touches _ _
  · exact changePort_touches _ _ _

theorem abortTarget_touches (q : Half) (s : State) :
    Touches [.pool, .lists, .tags, .ready, .faults] s (abortTarget q s).2 := by
  unfold abortTarget
  split
  · exact .refl _ _
  · split
    · exact (readyFromQueue_touches _ .aborted s).mono (by simp)
    · exact (readyFromBarrier_touches _ .aborted s).mono (by simp)
    · exact (makeReady_touches _ .aborted true none s).mono (by simp)
    · exact .refl _ _

theorem ownIrqMask_touches (id : Half) (body : List Byte) (s : State) :
    Touches [.ports, .sources, .nextPlace, .freeDraws, .direct] s (ownIrqMask id body s) := by
  unfold ownIrqMask
  dsimp only
  refine Touches.trans ?_ (addReply_touches _ _).within
  split
  · exact (setFreeDraws_touches _ _).within.trans
      (.foldOver _ _ fun _ _ => (maskSource_touches _ _ _).within)
  · exact (maskSource_touches _ _ _).within

theorem owner_touches (k : RequestKind) (id : Half) (body : List Byte) (s : State) :
    Touches messageBlocks s (owner k id body s) := by
  cases k <;> unfold owner <;> dsimp only
  case read => exact (ownTagged_touches _ _ _ _).within
  case write => exact (ownTagged_touches _ _ _ _).within
  case modify => exact (ownTagged_touches _ _ _ _).within
  case post => exact (ownPost_touches _ _).within
  case fence => exact (ownFence_touches _ _).within
  case identify => exact (addReply_touches _ _).within
  case statusGet => exact (addReply_touches _ _).within
  case configSet => exact (modSettings_touches _ _).within.trans (addReply_touches _ _).within
  case configGet => exact (addReply_touches _ _).within
  case linkRate => exact (addReply_touches _ _).within
  case reset =>
    unfold ownReset
    split
    · exact (addReply_touches _ _).within.trans (modSettings_touches _ _).within
    · exact (flushPart_touches _).within.trans (addReply_touches _ _).within
  case windowSet => exact (ownWindowSet_touches _ _ _).within
  case windowGet => exact (addReply_touches _ _).within
  case portSet => exact (modPort_touches _ _ _).within.trans (addReply_touches _ _).within
  case portGet => exact (addReply_touches _ _).within
  case portHold => exact (onNamedPorts_touches _ _ _).within.trans (addReply_touches _ _).within
  case portRelease => exact (onNamedPorts_touches _ _ _).within.trans (addReply_touches _ _).within
  case abort => exact (abortTarget_touches _ _).within.trans (addReply_touches _ _).within
  case jobLoad => exact (loadJob_touches _ _ _).within.trans (addReply_touches _ _).within
  case jobStart =>
    refine Touches.trans ?_ (addReply_touches _ _).within
    split
    · exact (startJob_touches _ _).within
    · exact .refl _ _
  case jobPause => exact (pauseJob_touches _ _).within.trans (addReply_touches _ _).within
  case jobResume => exact (resumeJob_touches _ _).within.trans (addReply_touches _ _).within
  case jobStop => exact (stopJob_touches _ _).within.trans (addReply_touches _ _).within
  case jobGet => exact (addReply_touches _ _).within
  case irqSet =>
    refine Touches.trans ?_ (addReply_touches _ _).within
    dsimp only
    split
    · exact (takeIrqSet_touches _ _ _).within
    · exact .refl _ _
  case irqMask => exact (ownIrqMask_touches _ _ _).within
  case irqDone =>
    refine Touches.trans ?_ (addReply_touches _ _).within
    split
    · exact (closeCycle_touches _ _).within
    · exact .refl _ _
  case irqGet => exact (addReply_touches _ _).within
  case faultGet => exact (addReply_touches _ _).within
  case faultClear => exact (addReply_touches _ _).within.trans (setFaults_touches _ _).within

theorem takenMessage_touches (kind : Byte) (id : Half) (body : List Byte) (s : State) :
    Touches messageBlocks s (takenMessage kind id body s) := by
  unfold takenMessage
  split
  · exact (addReply_touches _ _).within
  · exact (intakePost_touches _ _).within
  · exact intake_touches (by simp) (owner_touches _ _ _) _ _ _ _

end Sys2Proof.Machine
end

