-- ==== Sys2Proof/Laws/Table.lean ====
section
/-!
SUPPORT. The laws of the fixed-size tables: what reading a record gives after each way of changing it.
-/

namespace Sys2Proof.Table

variable {α β : Type} {n : Nat}

@[simp] theorem get_set_self (t : Table α n) (i : Fin n) (a : α) : (t.set i a).get i = a := by
  simp [get, set]

theorem get_set_of_ne (t : Table α n) {i j : Fin n} (a : α) (h : i ≠ j) :
    (t.set i a).get j = t.get j := by
  have : i.val ≠ j.val := fun e => h (Fin.ext e)
  simp [get, set, this]

theorem get_set (t : Table α n) (i j : Fin n) (a : α) :
    (t.set i a).get j = if i = j then a else t.get j := by
  by_cases h : i = j
  · subst h; simp
  · simp [h, get_set_of_ne]

@[simp] theorem get_modify_self (t : Table α n) (i : Fin n) (f : α → α) :
    (t.modify i f).get i = f (t.get i) := by simp [modify]

theorem get_modify (t : Table α n) (i j : Fin n) (f : α → α) :
    (t.modify i f).get j = if i = j then f (t.get j) else t.get j := by
  unfold modify
  rw [get_set]
  split
  · next h => subst h; rfl
  · rfl

theorem get_modify_of_ne (t : Table α n) {i j : Fin n} (f : α → α) (h : i ≠ j) :
    (t.modify i f).get j = t.get j := by simp [get_modify, h]

@[simp] theorem get_map (f : α → β) (t : Table α n) (i : Fin n) : (t.map f).get i = f (t.get i) := by
  simp [get, map]

@[simp] theorem get_fill (a : α) (i : Fin n) : (fill n a).get i = a := by
  simp [get, fill]

/-- The table of a function's values at the indices, in order. -/
theorem get_ofIndices (f : Fin n → α) (h : ((indices n).map f).length = n) (i : Fin n) :
    (⟨(indices n).map f, h⟩ : Table α n).get i = f i := by
  simp [get, indices]

theorem ext_get {t u : Table α n} (h : ∀ i, t.get i = u.get i) : t = u := by
  cases t with
  | mk r hr =>
    cases u with
    | mk q hq =>
      congr
      apply List.ext_getElem (by rw [hr, hq])
      intro k h1 h2
      exact h ⟨k, by omega⟩

/-- A set table is the table when the record is what stood there. -/
theorem set_get_self (t : Table α n) (i : Fin n) : t.set i (t.get i) = t := by
  apply ext_get
  intro j
  rw [get_set]
  split
  · next h => subst h; rfl
  · rfl

/-- Of two replacements of one record the later counts. -/
theorem set_set (t : Table α n) (i : Fin n) (a b : α) : (t.set i a).set i b = t.set i b := by
  simp [set]

theorem mem_indices (i : Fin n) : i ∈ indices n := by simp [indices]

theorem nodup_indices : (indices n).Nodup := List.nodup_finRange n

/-- Every record of a table is read at an index. -/
theorem mem_rows_iff (t : Table α n) (a : α) : a ∈ t.rows ↔ ∃ i, t.get i = a := by
  constructor
  · intro h
    obtain ⟨k, hk, rfl⟩ := List.getElem_of_mem h
    exact ⟨⟨k, by rw [← t.size]; exact hk⟩, rfl⟩
  · rintro ⟨i, rfl⟩
    exact List.getElem_mem _

theorem rows_eq_map_get (t : Table α n) : t.rows = (indices n).map t.get := by
  apply List.ext_getElem
  · simp [indices, t.size]
  · intro k h1 h2
    simp [indices, get]

end Sys2Proof.Table
end

