-- ==== Sys2Proof/Laws/Taking.lean ====
section
/-!
SUPPORT. What judging, acknowledging and placing a frame of the host comes to in the situations of
Safety.lean.
-/

-- One theorem after another: the many proofs of this file at once ask for more threads than the check's
-- memory limit holds.
set_option Elab.async false

namespace Sys2Proof.Machine

open Sys2Proof.Safety

/-! ## Judging a frame -/

theorem judged_empty (wire : List Byte) : judged [] wire = some [] := by
  cases wire <;> simp [judged, hunt]

/-- A frame that comes to a hunting receiver with no byte waiting is judged as a whole. -/
theorem hostFrame_clean (content : List Byte) (act : State → State) (s : State)
    (hr : s.pins.resetLow = false) (hx : s.link.rx = []) : hostFrame content act s = act s := by
  have h : s.modLink (fun l => { l with rx := [] }) = s := by
    obtain ⟨⟩ := s; rename_i link _ _; obtain ⟨⟩ := link; cases hx; rfl
  simp [hostFrame, hr, hx, judged_empty, h]

theorem hostFrame_inReset (content : List Byte) (act : State → State) (s : State)
    (hr : s.pins.resetLow = true) : hostFrame content act s = s := by simp [hostFrame, hr]

/-! ## Acknowledgements -/

theorem replayIndex_none {l : List Sent} {q : Seq} (h : ∀ e ∈ l, e.seq ≠ q) :
    replayIndex l q = none := by
  simpa [replayIndex, List.findIdx?_eq_none_iff] using h

theorem takeAck_nothing {a : Seq} {s : State} (h : ∀ e ∈ s.link.replay, e.seq ≠ a) :
    takeAck a s = (s, false) := by simp [takeAck, replayIndex_none h]

/-! ## Placing a DATA frame -/

/-- An expected DATA frame that needs no place, or finds one, is taken and its message acted on. -/
theorem dataFrame_expected {f : FrameHead} {s : State} (kind : Byte) (id : Half) (body : List Byte)
    (act : State → State) (h : Expected f s) (hp : needsPlace kind = false ∨ Room s) :
    dataFrame f kind id body act s = act (took s) := by
  obtain ⟨⟨hr, hu, hx⟩, hs, ha⟩ := h
  have hp' : (needsPlace kind && decide (Config.directPlaces ≤ s.direct.length)) = false := by
    rcases hp with hp | hp
    · simp [hp]
    · simp [Config.directPlaces, Nat.not_le.mpr (show s.direct.length < 4 from hp)]
  rw [dataFrame, hostFrame_clean _ _ _ hr hx]
  simp [takeData, hu, takeAck_nothing ha, placeData, hs, hp']
  rfl

/-- The same for a message that passes intake. -/
theorem dataFrame_intake {f : FrameHead} {s : State} {k : RequestKind} {id : Half}
    {body : List Byte} {act : State → State} (h : Expected f s) (hp : Room s)
    (hi : intakeRefusal k body = none) :
    dataFrame f k.code id body (intake k id body act) s = act (took s) := by
  rw [dataFrame_expected _ _ _ _ h (.inr hp), intake, hi]

/-- A REPLY at the tail of the direct reply list, in the words of Safety.lean. -/
theorem addReply_plain (s : State) (id : Half) (kind : Byte) (st : Status) (fields : List Byte) :
    s.addReply (plainReply id kind st fields) = answer s id kind st.code fields := rfl

end Sys2Proof.Machine
end

