-- ==== Sys2Proof/Laws/Operations.lean ====
section
/-!
SUPPORT. What the shared operations do, said once, in the words of Safety.lean where it has them.
-/

-- One theorem after another: the many proofs of this file at once ask for more threads than the check's
-- memory limit holds.
set_option Elab.async false

namespace Sys2Proof.Machine

open Sys2Proof.Safety

/-! ## One record changed -/

theorem modSource_eq (s : State) (i : Fin 32) (f : Source → Source) :
    s.modSource i f = { s with sources := s.sources.set i (f (s.sources.get i)) } := rfl

theorem modPort_eq (s : State) (p : Fin 4) (f : Port → Port) :
    s.modPort p f = { s with ports := s.ports.set p (f (s.ports.get p)) } := rfl

theorem modJob_eq (s : State) (j : Fin 4) (f : JobSlot → JobSlot) :
    s.modJob j f = { s with jobs := s.jobs.set j (f (s.jobs.get j)) } := rfl

theorem modTag_eq (s : State) (t : Fin 32) (f : Tag → Tag) :
    s.modTag t f = { s with tags := s.tags.set t (f (s.tags.get t)) } := rfl

/-! ## Lists in the order of a key -/

/-- An inserted index stands behind every smaller or equal key and right before a larger one. -/
theorem insertByKey_split {α : Type} (key : α → Nat) (x : α) (l : List α) :
    ∃ pre post, l = pre ++ post ∧ insertByKey key x l = pre ++ x :: post
      ∧ (∀ e ∈ pre, key e ≤ key x) ∧ ∀ e ∈ post.head?, key x < key e := by
  induction l with
  | nil => exact ⟨[], [], rfl, rfl, by simp, by simp⟩
  | cons y ys ih =>
    unfold insertByKey
    split
    · next h => exact ⟨[], y :: ys, rfl, rfl, by simp, by simpa using h⟩
    · next h =>
      obtain ⟨pre, post, h1, h2, h3, h4⟩ := ih
      refine ⟨y :: pre, post, by simp [h1], by simp [h2], ?_, h4⟩
      intro e he
      rcases List.mem_cons.mp he with rfl | he
      · exact Nat.le_of_not_lt h
      · exact h3 e he

theorem insertByKey_perm {α : Type} (key : α → Nat) (x : α) (l : List α) :
    (insertByKey key x l).Perm (x :: l) := by
  obtain ⟨pre, post, h1, h2, _, _⟩ := insertByKey_split key x l
  rw [h2, h1]
  exact List.perm_middle

theorem sortByKey_perm {α : Type} (key : α → Nat) (l : List α) : (sortByKey key l).Perm l := by
  have h : ∀ (l acc : List α),
      (l.foldl (fun acc x => insertByKey key x acc) acc).Perm (l ++ acc) := by
    intro l
    induction l with
    | nil => exact fun _ => .refl _
    | cons x xs ih =>
      intro acc
      refine (ih _).trans ?_
      refine ((insertByKey_perm key x acc).append_left xs).trans ?_
      exact List.perm_middle
  have := h l []
  rw [List.append_nil] at this
  exact this

/-! ## Ports -/

/-- A change of a port calls for its notice exactly when it enters or leaves HELD (04 R79). -/
theorem change_eq (x : Port) (f : Port → Port) : x.change f = noticed x (f x) := by
  unfold Port.change noticed
  by_cases h1 : x.state = .held <;> by_cases h2 : (f x).state = .held <;>
    cases h3 : (f x).notice <;> simp [h1, h2, h3, Port.call]

theorem closeTxn_eq (p : Fin 4) (l : Option Lock) (s : State) :
    closeTxn p l s = { s with ports := s.ports.set p (ended (s.ports.get p) l) } := by
  unfold closeTxn changePort
  rw [modPort_eq, change_eq]
  rfl

theorem clearLow_toNat (a : Word) (n : Nat) :
    (clearLow a n).toNat = a.toNat / 2 ^ n * 2 ^ n := by
  have h := Nat.lt_of_le_of_lt (Nat.div_mul_le_self a.toNat (2 ^ n)) a.isLt
  simp only [clearLow, BitVec.toNat_shiftLeft, BitVec.toNat_ushiftRight, Nat.shiftLeft_eq,
    Nat.shiftRight_eq_div_pow]
  exact Nat.mod_eq_of_lt h

theorem writeEnded_eq (x : Port) (a : Word) : x.writeEnded a = writeSeen x a := by
  have h : (block64 a == x.lineAddr) = decide (a.toNat / 64 * 64 = x.lineAddr.toNat) := by
    have := clearLow_toNat a 6
    rw [show (2 : Nat) ^ 6 = 64 from rfl] at this
    unfold block64
    rw [← this]
    by_cases h : clearLow a 6 = x.lineAddr
    · simp [h]
    · simp only [beq_eq_false_iff_ne.mpr h]
      symm
      simpa using fun hc => h (BitVec.eq_of_toNat_eq hc)
  unfold Port.writeEnded writeSeen
  rw [h]
  simp

/-- Exactly the bytes an answer carries, when it carries as many as were asked for. -/
theorem exactly_self {n : Nat} {data : List Byte} (h : data.length = n) : exactly n data = data := by
  subst h
  simp [exactly, zeros]

theorem exec_targetAnswer {p : Fin 4} {s : State} {q : Txn} (r : Answer)
    (hr : s.pins.resetLow = false) (hq : (s.ports.get p).txn = some q) :
    exec (.targetAnswer p r) s = .next (endTxn p q (Answer.outcome r) (Answer.bytes q r) s) := by
  simp only [exec, execTargetAnswer]
  rw [if_neg (by simp [hr])]
  simp only [hq]

theorem exec_responseLimitExpiry {p : Fin 4} {s : State} {q : Txn} (hr : s.pins.resetLow = false)
    (hq : (s.ports.get p).txn = some q) :
    exec (.responseLimitExpiry p) s = .next (endTxn p q .silent [] s) := by
  simp only [exec, execResponseLimitExpiry]
  rw [if_neg (by simp [hr])]
  simp only [hq]

/-! ## Interrupt sources (06 R112) -/

theorem fetchOrDue_eq (i : Fin 32) (s : State) :
    fetchOrDue i s = cycleGoesOn s i (s.sources.get i) := by
  unfold fetchOrDue cycleGoesOn
  split
  · next v hv =>
    simp only [hv]
    simp [askPort, asked, modSource_eq, modPort_eq, State.bumpPlace, State.setNextPlace, Table.set_set,
      portOfSource, hv]
  · next hv =>
    simp only [hv]
    simp [modSource_eq, hv]

/-- A source that is judged and is ripe starts its cycle. -/
theorem judgeSource_ripe {i : Fin 32} {s : State} (h : Ripe s i) :
    judgeSource i s = cycleStarted s i := by
  obtain ⟨h1, h2, h3, h4⟩ := h
  have : (s.sources.get i).asks (s.pins.lines.get i) = true := by
    unfold Source.asks Asks at *
    rcases h3 with ⟨a, b⟩ | ⟨a, b⟩ <;> simp [a, b]
  simp only [judgeSource, Source.startsCycle, h1, h2, h4, this, cycleStarted, modSource_eq, Table.get_set_self,
    fetchOrDue_eq, beq_self_eq_true, Bool.not_false, Bool.and_self, if_true]
  split
  · simp [Table.set_set]
  · simp only [cycleGoesOn]
    split <;> simp [Table.set_set, asked]

/-- A source that is judged and is not ripe stays as it is. -/
theorem judgeSource_unripe {i : Fin 32} {s : State} (h : ¬Ripe s i) : judgeSource i s = s := by
  unfold judgeSource Source.startsCycle
  rw [if_neg]
  intro hc
  simp only [Bool.and_eq_true, beq_iff_eq, Bool.not_eq_true'] at hc
  obtain ⟨⟨⟨a, b⟩, c⟩, d⟩ := hc
  refine h ⟨a, b, ?_, d⟩
  unfold Source.asks at c
  unfold Asks
  cases hh : (s.sources.get i).trigger <;> simp [hh] at c <;> simp [c]

/-- What being judged once a FLUSH has been taken does (06 R125). -/
theorem judgeAfterFlush_ripe {i : Fin 32} {s : State} (h : Ripe s i) :
    judgeAfterFlush i s = cycleAfterFlush s i := by
  have hs : (s.sources.get i).startsCycle (s.pins.lines.get i) = true := by
    obtain ⟨h1, h2, h3, h4⟩ := h
    unfold Source.startsCycle Source.asks
    unfold Asks at h3
    rcases h3 with ⟨a, b⟩ | ⟨a, b⟩ <;> simp [h1, h2, h4, a, b]
  unfold judgeAfterFlush cycleAfterFlush
  simp only [hs, Bool.true_and, judgeSource_ripe h, modSource_eq, beq_iff_eq]

theorem judgeAfterFlush_unripe {i : Fin 32} {s : State} (h : ¬Ripe s i) : judgeAfterFlush i s = s := by
  unfold judgeAfterFlush
  rw [if_neg, judgeSource_unripe h]
  intro hc
  simp only [Bool.and_eq_true, Source.startsCycle, beq_iff_eq, Bool.not_eq_true'] at hc
  obtain ⟨⟨⟨⟨a, b⟩, c⟩, d⟩, e⟩ := hc
  refine h ⟨a, b, ?_, d⟩
  simpa [Source.asks, Asks, e] using c

/-- A source that offers its notice, in the words of Safety.lean (06 R115, R125). -/
theorem offersNotice_iff (s : State) (i : Fin 32) :
    (s.sources.get i).offersNotice (flushReplyWaits s) = true ↔ IrqOffered s i := by
  unfold Source.offersNotice IrqOffered flushReplyWaits
  cases (s.sources.get i).behindFlush <;> simp

/-! ## Windows and admission (01 R4, 02 R18) -/

/-- A record whose host base is aligned to its size covers exactly its host range (01 R4). -/
theorem covers_iff {w : Window} (h : w.hostBase.toNat % 2 ^ w.sizeCode.val = 0) (a : Word) :
    w.covers a = true ↔ InRange w a := by
  have hp : 0 < 2 ^ w.sizeCode.val := Nat.two_pow_pos _
  have e : w.covers a = true ↔ a.toNat / 2 ^ w.sizeCode.val * 2 ^ w.sizeCode.val = w.hostBase.toNat := by
    unfold Window.covers
    rw [beq_iff_eq, ← clearLow_toNat]
    exact ⟨congrArg _, BitVec.eq_of_toNat_eq⟩
  rw [e]
  unfold InRange
  generalize 2 ^ w.sizeCode.val = n at *
  obtain ⟨k, hk⟩ := Nat.dvd_of_mod_eq_zero h
  rw [hk]
  constructor
  · intro h'
    rw [Nat.mul_comm n k] at h' ⊢
    have h1 : a.toNat / n = k := Nat.eq_of_mul_eq_mul_right hp h'
    subst h1
    exact ⟨Nat.div_mul_le_self _ _, by
      have := Nat.lt_div_mul_add hp (a := a.toNat)
      exact this⟩
  · rintro ⟨h1, h2⟩
    have : a.toNat / n = k := Nat.div_eq_of_lt_le (by rw [Nat.mul_comm]; exact h1) (by
      rw [Nat.add_mul, Nat.one_mul, Nat.mul_comm k n]; exact h2)
    rw [this, Nat.mul_comm]

theorem isMisaligned_iff (a : Word) (n : Nat) (hit : Option Hit) :
    isMisaligned a n hit = true ↔ Misplaced a n hit := by
  unfold isMisaligned Misplaced
  split
  · simp
  · cases hit <;> simp [inOneBlock]
    omega

/-- A live entry is found for a request id exactly when the id is in use. -/
theorem liveTag_isSome (s : State) (id : Half) :
    (liveTag s.tags id).isSome = true ↔ IdInUse s id := by
  simp only [liveTag, List.find?_isSome, IdInUse]
  constructor
  · rintro ⟨t, _, h⟩
    simp only [Tag.live, Bool.and_eq_true, beq_iff_eq] at h
    refine ⟨t, ?_, h.2⟩
    cases hh : (s.tags.get t).state <;> simp [hh] at h ⊢
  · rintro ⟨t, h, hi⟩
    refine ⟨t, Table.mem_indices _, ?_⟩
    rcases h with h | h | h | h <;> simp [Tag.live, h, hi]

theorem freeTag_lowest {s : State} {t : Fin 32} (h : LowestFree s t) : freeTag s.tags = some t := by
  unfold freeTag
  rw [List.find?_eq_some_iff_getElem]
  obtain ⟨h1, h2⟩ := h
  refine ⟨by simp [h1], t.val, by simp [Table.indices], by simp [Table.indices], fun j hj => ?_⟩
  have := h2 ⟨j, by omega⟩ hj
  simpa [Table.indices] using this

/-! ## Frames of the part -/

theorem putFrame_eq (ftype : Byte) (q a : Seq) (b : List Byte) (s : State) :
    putFrame ftype q a b s =
      { s with link := { s.link with tx := onLine s ftype q a b } } := by
  simp only [putFrame, onLine, frameContent, State.freePosted, State.freeTags, countByte, seqByte,
    State.modLink, State.setLink, byteTime]
  congr 3
  simp [wireFrame, be16]

/-! ## Frames of the host -/

theorem ofCode_code (k : RequestKind) : RequestKind.ofCode k.code = some k := by cases k <;> rfl

/-- The row of a request is a DATA frame whose message intake takes. -/
theorem exec_requestInstr (k : RequestKind) (f : FrameHead) (id : Half) (body : List Byte) (s : State) :
    exec (requestInstr k f id body) s =
      .next (dataFrame f k.code id body (takenMessage k.code id body) s) := by
  cases k
  case reset =>
    unfold requestInstr
    by_cases hb : body = [scopeFull]
    · simp only [hb, if_true]
      rfl
    · simp only [hb, if_false]
      rfl
  all_goals rfl

theorem exec_dataCommand {c : Instr} {f : FrameHead} {kind : Byte} {id : Half} {body : List Byte}
    (h : DataCommand c f kind id body) (s : State) :
    exec c s = .next (dataFrame f kind id body (takenMessage kind id body) s) := by
  rcases h with rfl | ⟨k, rfl, rfl⟩ | ⟨_, rfl⟩
  · rfl
  · exact exec_requestInstr k f id body s
  · rfl

/-- Reporting an acknowledgement to its holder, in the words of Safety.lean (09 R159 step 3). -/
theorem reportAck_eq (e : Sent) (s : State) : reportAck e s = reported s e := by
  unfold reportAck reported
  cases e.message.carries with
  | reply | fullReply | flushReply | rateReply c => rfl
  | faultNotice =>
    simp only [FaultUnit.acknowledged]
    cases h : s.faults.notice <;> simp [State.setFaults]
    cases h2 : s.faults.renewal <;> simp
  | portNotice p =>
    simp only [modPort_eq, Port.acknowledged]
    cases h : (s.ports.get p).notice <;> simp [Table.set_get_self]
    cases h2 : (s.ports.get p).renewal <;> simp
  | jobNotice j =>
    simp only [modJob_eq, JobSlot.acknowledged]
    cases h : (s.jobs.get j).notice <;> simp [Table.set_get_self]
  | irqNotice i =>
    simp only [modSource_eq, Source.acknowledged, Bool.and_eq_true, beq_iff_eq]
    split <;> simp [Table.set_get_self]

/-- Reporting an acknowledgement to its holder leaves the replay list, the receive bytes and UP alone. -/
theorem reportAck_link (e : Sent) (s : State) :
    (reportAck e s).link.replay = s.link.replay ∧ (reportAck e s).link.rx = s.link.rx
      ∧ (reportAck e s).link.up = s.link.up := by
  unfold reportAck
  split <;> exact ⟨rfl, rfl, rfl⟩

/-- Reporting acknowledgements carries out a FULL reset, or leaves the replay list, the receive bytes and
UP alone. -/
theorem reportAcks_cases (l : List Sent) (s : State) :
    (∃ u, reportAcks l s = (fullReset u, true))
      ∨ ((reportAcks l s).2 = false ∧ (reportAcks l s).1.link.replay = s.link.replay
        ∧ (reportAcks l s).1.link.rx = s.link.rx ∧ (reportAcks l s).1.link.up = s.link.up) := by
  induction l generalizing s with
  | nil => simp [reportAcks]
  | cons e l ih =>
    unfold reportAcks
    split
    · exact .inl ⟨_, rfl⟩
    · obtain ⟨h1, h2, h3⟩ := reportAck_link e s
      rcases ih (reportAck e s) with h | ⟨a, b, c, d⟩
      · exact .inl h
      · exact .inr ⟨a, b.trans h1, c.trans h2, d.trans h3⟩

/-- Where a frame stands in the replay list, no frame before it having its number. -/
theorem replayIndex_of {pre rest : List Sent} {e : Sent} {q : Seq} (h : e.seq = q)
    (hp : ∀ x ∈ pre, x.seq ≠ q) : replayIndex (pre ++ e :: rest) q = some pre.length := by
  unfold replayIndex
  rw [List.findIdx?_eq_some_iff_getElem]
  refine ⟨by simp, by simp [h], fun j hj => ?_⟩
  rw [List.getElem_append_left hj]
  simpa using hp _ (List.getElem_mem hj)

end Sys2Proof.Machine
end

