-- ==== Sys2Proof/Laws/PerInstr.lean ====
section
/-!
SUPPORT. What is said of every command one by one (LAWS.json, "per_instruction"): its frame fits the LEN
byte.
-/

-- One theorem after another: the many proofs of this file at once ask for more threads than the check's
-- memory limit holds.
set_option Elab.async false

namespace Sys2Proof.Laws.FrameFits

/-- The frame that a well-formed command is, if it is one, has at most 255 bytes from FTYPE to the last
body byte, so that LEN holds their number (08 R142). -/
def Statement (i : Instr) : Prop :=
  i.wellFormed = true → ∀ content, encodeHostFrame i = some content → content.length ≤ 255

theorem dataContent_length (f : FrameHead) (kind : Byte) (id : Half) (body : List Byte) :
    (dataContent f kind id body).length = body.length + 8 := by
  simp [dataContent, frameContent, Machine.be16]

theorem frameContent_length (ftype : Byte) (f : FrameHead) (extra : List Byte) :
    (frameContent ftype f extra).length = extra.length + 5 := by
  simp [frameContent]

/-- A DATA frame whose body fits. -/
theorem of_body {i : Instr} {f : FrameHead} {kind : Byte} {id : Half} {body : List Byte}
    (he : encodeHostFrame i = some (dataContent f kind id body))
    (hw : i.wellFormed = true → body.length ≤ 247) : Statement i := by
  intro h content hc
  rw [he] at hc
  cases hc
  rw [dataContent_length]
  have := hw h
  omega

/-- A control frame whose further bytes fit. -/
theorem of_extra {i : Instr} {ftype : Byte} {f : FrameHead} {extra : List Byte}
    (he : encodeHostFrame i = some (frameContent ftype f extra))
    (hw : i.wellFormed = true → extra.length ≤ 250) : Statement i := by
  intro h content hc
  rw [he] at hc
  cases hc
  rw [frameContent_length]
  have := hw h
  omega

/-- A command that is no frame. -/
theorem of_none {i : Instr} (he : encodeHostFrame i = none) : Statement i := by
  intro _ content hc
  rw [he] at hc
  cases hc

theorem powerOn : Statement (.powerOn) := of_none rfl

theorem resetNAssert : Statement (.resetNAssert) := of_none rfl

theorem resetNRelease : Statement (.resetNRelease) := of_none rfl

theorem freezeActive : Statement (.freezeActive) := of_none rfl

theorem freezeInactive : Statement (.freezeInactive) := of_none rfl

theorem irqLineRise (source : Fin 32) : Statement (.irqLineRise source) := of_none rfl

theorem irqLineFall (source : Fin 32) : Statement (.irqLineFall source) := of_none rfl

theorem frameCrcFailure (hrx : List Byte) : Statement (.frameCrcFailure hrx) := of_none rfl

theorem malformedFrame (content : List Byte) : Statement (.malformedFrame content) := by
  intro h content' hc
  cases hc
  simp only [Instr.wellFormed, Bool.and_eq_true, decide_eq_true_eq] at h
  exact h.1

theorem hostDataFrameNotTaken (f : FrameHead) (kind : Byte) (id : Half) (body : List Byte) :
    Statement (.hostDataFrameNotTaken f kind id body) :=
  of_body rfl (by simp [Instr.wellFormed, bodyFits])

theorem hostAckFrame (f : FrameHead) (extra : List Byte) : Statement (.hostAckFrame f extra) :=
  of_extra rfl (by simp [Instr.wellFormed, extraFits])

theorem rateChange (f : FrameHead) (extra : List Byte) : Statement (.rateChange f extra) :=
  of_extra rfl (by simp [Instr.wellFormed, extraFits])

theorem fullResetCarriedOut (event : FullResetEvent) : Statement (.fullResetCarriedOut event) := by
  cases event with
  | acknowledged f extra => exact of_extra rfl (by simp [Instr.wellFormed, extraFits])
  | exhausted => exact of_none rfl
  | hostInit f extra => exact of_extra rfl (by simp [Instr.wellFormed, extraFits])

theorem hostNak (f : FrameHead) (extra : List Byte) : Statement (.hostNak f extra) :=
  of_extra rfl (by simp [Instr.wellFormed, extraFits])

theorem hostInit (f : FrameHead) (extra : List Byte) : Statement (.hostInit f extra) :=
  of_extra rfl (by simp [Instr.wellFormed, extraFits])

theorem replayTimerExpiry : Statement (.replayTimerExpiry) := of_none rfl

theorem beaconTimerExpiry : Statement (.beaconTimerExpiry) := of_none rfl

theorem frameTransmitEnd : Statement (.frameTransmitEnd) := of_none rfl

theorem unknownKind (f : FrameHead) (kind : Byte) (id : Half) (body : List Byte) :
    Statement (.unknownKind f kind id body) :=
  of_body rfl (by
    simp only [Instr.wellFormed, bodyFits, Bool.and_eq_true, decide_eq_true_eq]
    exact And.left)

theorem read (f : FrameHead) (id : Half) (body : List Byte) : Statement (.read f id body) :=
  of_body rfl (by simp [Instr.wellFormed, bodyFits])

theorem write (f : FrameHead) (id : Half) (body : List Byte) : Statement (.write f id body) :=
  of_body rfl (by simp [Instr.wellFormed, bodyFits])

theorem post (f : FrameHead) (id : Half) (body : List Byte) : Statement (.post f id body) :=
  of_body rfl (by simp [Instr.wellFormed, bodyFits])

theorem modify (f : FrameHead) (id : Half) (body : List Byte) : Statement (.modify f id body) :=
  of_body rfl (by simp [Instr.wellFormed, bodyFits])

theorem fence (f : FrameHead) (id : Half) (body : List Byte) : Statement (.fence f id body) :=
  of_body rfl (by simp [Instr.wellFormed, bodyFits])

theorem identify (f : FrameHead) (id : Half) (body : List Byte) : Statement (.identify f id body) :=
  of_body rfl (by simp [Instr.wellFormed, bodyFits])

theorem statusGet (f : FrameHead) (id : Half) (body : List Byte) :
    Statement (.statusGet f id body) :=
  of_body rfl (by simp [Instr.wellFormed, bodyFits])

theorem configSet (f : FrameHead) (id : Half) (body : List Byte) :
    Statement (.configSet f id body) :=
  of_body rfl (by simp [Instr.wellFormed, bodyFits])

theorem configGet (f : FrameHead) (id : Half) (body : List Byte) :
    Statement (.configGet f id body) :=
  of_body rfl (by simp [Instr.wellFormed, bodyFits])

theorem linkRate (f : FrameHead) (id : Half) (body : List Byte) : Statement (.linkRate f id body) :=
  of_body rfl (by simp [Instr.wellFormed, bodyFits])

theorem resetFlush (f : FrameHead) (id : Half) (body : List Byte) :
    Statement (.resetFlush f id body) :=
  of_body rfl (by
    simp only [Instr.wellFormed, bodyFits, Bool.and_eq_true, decide_eq_true_eq]
    exact And.left)

theorem resetFull (f : FrameHead) (id : Half) (body : List Byte) :
    Statement (.resetFull f id body) :=
  of_body rfl (by intro h; simp only [Instr.wellFormed, decide_eq_true_eq] at h; simp [h])

theorem windowSet (f : FrameHead) (id : Half) (body : List Byte) :
    Statement (.windowSet f id body) :=
  of_body rfl (by simp [Instr.wellFormed, bodyFits])

theorem windowGet (f : FrameHead) (id : Half) (body : List Byte) :
    Statement (.windowGet f id body) :=
  of_body rfl (by simp [Instr.wellFormed, bodyFits])

theorem portSet (f : FrameHead) (id : Half) (body : List Byte) : Statement (.portSet f id body) :=
  of_body rfl (by simp [Instr.wellFormed, bodyFits])

theorem portGet (f : FrameHead) (id : Half) (body : List Byte) : Statement (.portGet f id body) :=
  of_body rfl (by simp [Instr.wellFormed, bodyFits])

theorem portHold (f : FrameHead) (id : Half) (body : List Byte) : Statement (.portHold f id body) :=
  of_body rfl (by simp [Instr.wellFormed, bodyFits])

theorem portRelease (f : FrameHead) (id : Half) (body : List Byte) :
    Statement (.portRelease f id body) :=
  of_body rfl (by simp [Instr.wellFormed, bodyFits])

theorem abort (f : FrameHead) (id : Half) (body : List Byte) : Statement (.abort f id body) :=
  of_body rfl (by simp [Instr.wellFormed, bodyFits])

theorem jobLoad (f : FrameHead) (id : Half) (body : List Byte) : Statement (.jobLoad f id body) :=
  of_body rfl (by simp [Instr.wellFormed, bodyFits])

theorem jobStart (f : FrameHead) (id : Half) (body : List Byte) : Statement (.jobStart f id body) :=
  of_body rfl (by simp [Instr.wellFormed, bodyFits])

theorem jobPause (f : FrameHead) (id : Half) (body : List Byte) : Statement (.jobPause f id body) :=
  of_body rfl (by simp [Instr.wellFormed, bodyFits])

theorem jobResume (f : FrameHead) (id : Half) (body : List Byte) :
    Statement (.jobResume f id body) :=
  of_body rfl (by simp [Instr.wellFormed, bodyFits])

theorem jobStop (f : FrameHead) (id : Half) (body : List Byte) : Statement (.jobStop f id body) :=
  of_body rfl (by simp [Instr.wellFormed, bodyFits])

theorem jobGet (f : FrameHead) (id : Half) (body : List Byte) : Statement (.jobGet f id body) :=
  of_body rfl (by simp [Instr.wellFormed, bodyFits])

theorem irqSet (f : FrameHead) (id : Half) (body : List Byte) : Statement (.irqSet f id body) :=
  of_body rfl (by simp [Instr.wellFormed, bodyFits])

theorem irqMask (f : FrameHead) (id : Half) (body : List Byte) : Statement (.irqMask f id body) :=
  of_body rfl (by simp [Instr.wellFormed, bodyFits])

theorem irqDone (f : FrameHead) (id : Half) (body : List Byte) : Statement (.irqDone f id body) :=
  of_body rfl (by simp [Instr.wellFormed, bodyFits])

theorem irqGet (f : FrameHead) (id : Half) (body : List Byte) : Statement (.irqGet f id body) :=
  of_body rfl (by simp [Instr.wellFormed, bodyFits])

theorem faultGet (f : FrameHead) (id : Half) (body : List Byte) : Statement (.faultGet f id body) :=
  of_body rfl (by simp [Instr.wellFormed, bodyFits])

theorem faultClear (f : FrameHead) (id : Half) (body : List Byte) :
    Statement (.faultClear f id body) :=
  of_body rfl (by simp [Instr.wellFormed, bodyFits])

theorem portStart (port : Fin 4) : Statement (.portStart port) := of_none rfl

theorem targetAnswer (port : Fin 4) (answer : Answer) :
    Statement (.targetAnswer port answer) := of_none rfl

theorem responseLimitExpiry (port : Fin 4) : Statement (.responseLimitExpiry port) := of_none rfl

theorem holdOffExpiry (item : HoldItem) : Statement (.holdOffExpiry item) := of_none rfl

theorem completionTimerExpiry (tag : Fin 32) : Statement (.completionTimerExpiry tag) := of_none rfl

end Sys2Proof.Laws.FrameFits
end

