-- ==== Sys2Proof/Tests/Slice0.lean ====
section
/-!
SUPPORT. Tests of the model: a refused term for each check of WellFormed, frames and CRCs written out from
the spec, small tests of the commands whose expected results come from the rules cited or from the
spec's worked sequences, and for each statement with hypotheses a witness that meets them.
-/

-- One theorem after another: the many proofs of this file at once ask for more threads than the check's
-- memory limit holds.
set_option Elab.async false

set_option maxRecDepth 20000

namespace Sys2Proof.Tests

open Sys2Proof.Machine Sys2Proof.Safety

/-! ## Small states -/

/-- The first DATA frame of a session: SEQ 0, ACK 63 (10.1, step 3 of the procedure). -/
def first : FrameHead := ⟨0, 63, 0, 0⟩

/-- The part UP with nothing exchanged, READY sent. -/
def up : State := { State.reset with link := { Link.atReset with up := true, beacon := none } }

/-- The part held in reset by RESET_N. -/
def low : State := { State.reset with pins := ⟨false, true, Table.fill 32 false⟩
                                      link := { Link.atReset with beacon := none } }

/-- A window of 4096 bytes at host 0x40000000, local 0x1000, port 1, postable and prefetchable. -/
def win : Window := ⟨true, 0x40000000#32, 12, 1, 0x1000#32, false, true, true, false⟩

/-- `up` with `win` as record 3. -/
def mapped : State := { up with windows := up.windows.set 3 win }

/-- `mapped` under the HOLD miss policy. -/
def guarded : State := { mapped with settings := { mapped.settings with missPolicy := .hold } }

/-- The access of a 4-byte request at host 0x40000010 through `win`. -/
def acc : Access := ⟨3, 1, 0x40000010#32, 0x1010#32, false, true, false, true, 4⟩

/-- A READ of four bytes with id 0x0100 through `win`, in a tag state. -/
def readTag (st : TagState) : Tag :=
  { Tag.zero with state := st, id := 0x100#16, access := some acc, timeLeft := 40000 }

/-- `mapped` with tag 7 in a state. -/
def tagged (x : Tag) : State := { mapped with tags := mapped.tags.set 7 x }

/-- `mapped` with tag 7 QUEUED at the head of list 1. -/
def queued : State :=
  { tagged (readTag .queued) with lists := mapped.lists.set 1 [.tag 7] }

/-- A transaction of `acc`'s size at its local address. -/
def txn (i : Initiator) (w : Bool) : Txn := ⟨i, w, 0x1010#32, 4, [], false, 16, 1, 8, 64⟩

/-- A state with a transaction on port 1. -/
def onPort (q : Txn) (s : State) : State :=
  { s with ports := s.ports.set 1 { s.ports.get 1 with txn := some q } }

/-- `mapped` with a READ of tag 7 on port 1. -/
def reading : State := onPort (txn (.request 7) false) (tagged (readTag .active))

/-- A record of a POST through `win`. -/
def post : Posted :=
  ⟨3, 1, 0x40000010#32, 0x1010#32, 4, [1, 2, 3, 4], false, true, false, true, 0, none, [], 0, false⟩

/-- `mapped` with a POST in slot 0 on port 1. -/
def posting : State :=
  onPort { txn (.post 0) true with data := [1, 2, 3, 4] } { mapped with pool := mapped.pool.set 0 (some post) }

/-- A descriptor of 256 bytes through `win`, the FILL of 10.8. -/
def job (k : JobKind) : Descriptor :=
  ⟨k, 0x40000100#32, 0x40000200#32, 256, 64, 0x11223344#32, false, false⟩

/-- The run decode of `job .fill`. -/
def fillRun : RunDecode := ⟨none, some ⟨3, 1, 0x1200#32, false, true, false, true⟩⟩

/-- A slot that holds a FILL in a state. -/
def slot (st : JobState) : JobSlot :=
  { JobSlot.zero with state := st, active := some (job .fill), bytesLeft := 256 }

/-- `mapped` with slot 2 as given. -/
def withSlot (x : JobSlot) : State := { mapped with jobs := mapped.jobs.set 2 x }

/-- Source 20 of 10.3: EDGE, priority 0, no vector read, an acknowledge write of one byte. -/
def source (st : SourceState) : Source :=
  { Source.zero with enabled := true, trigger := .edge, state := st
                     ackWrite := some ⟨0x1F#32, 0x55#32, 1⟩ }

/-- `up` with source 20 as given. -/
def withSource (x : Source) : State := { up with sources := up.sources.set 20 x }

/-- A hold-off that counts. -/
def held1 : Option Nat := some 4

/-- An interrupt operation of source 8, an offered chunk, a lock. -/
def op1 : IrqOp := ⟨8, true, 0x1F#32, 1, 0x55#32, 0, none, 1, false⟩
def offer1 : Offer := ⟨true, 0x1200#32, 64, List.replicate 64 0, false, 0, none, false⟩
def lock1 : Lock := ⟨7, 0x1234#32, 0x9205#32⟩

/-- `mapped` with port 1 as given. -/
def withPort (f : Port → Port) (s : State) : State := { s with ports := s.ports.set 1 (f (s.ports.get 1)) }

/-- A plain REPLY. -/
def aReply : Message := ⟨[0x80, 0, 0, 0x14, 0], .reply⟩

/-- A link UP with one frame, of number 0, unacknowledged. -/
def oneSent (m : Message) : Link :=
  { up.link with nextSend := 1, replay := [⟨0, m, false⟩], replayTimer := some ⟨80000, 20⟩ }

/-- `up` with one frame unacknowledged. -/
def sent (m : Message) : State := { up with link := oneSent m }

/-- A field of the state that a command leaves. -/
def after {α : Type} (i : Instr) (s : State) (f : State → α) : Option α :=
  match exec i s with
  | .next t => some (f t)
  | _ => none

/-- The direct replies that a command leaves. -/
def replies (i : Instr) (s : State) : Option (List (List Byte)) :=
  after i s fun t => t.direct.map Message.bytes

/-! ## Ill-formed terms (08 R142, R144; spec/opcode_table.json) -/

theorem test_wf_body : (Instr.read first 1 (List.replicate 248 0)).wellFormed = false := by decide
theorem test_wf_body_most : (Instr.read first 1 (List.replicate 247 0)).wellFormed = true := by decide
theorem test_wf_extra : (Instr.hostAckFrame first (List.replicate 251 0)).wellFormed = false := by decide
theorem test_wf_carriedOut :
    (Instr.fullResetCarriedOut (.hostInit first (List.replicate 251 0))).wellFormed = false := by decide
theorem test_wf_malformed_long :
    (Instr.malformedFrame (List.replicate 256 0)).wellFormed = false := by decide
/-- An ACK frame of five bytes is not malformed. -/
theorem test_wf_malformed_good : (Instr.malformedFrame [2, 0, 63, 0, 0]).wellFormed = false := by decide
theorem test_wf_unknownKind : (Instr.unknownKind first 0x10 1 []).wellFormed = false := by decide
theorem test_wf_unknownKind_body :
    (Instr.unknownKind first 0x15 1 (List.replicate 248 0)).wellFormed = false := by decide
theorem test_wf_resetFlush : (Instr.resetFlush first 1 [1]).wellFormed = false := by decide
theorem test_wf_resetFull : (Instr.resetFull first 1 [0]).wellFormed = false := by decide
theorem test_wf_targetAnswer :
    (Instr.targetAnswer 0 (.accept (List.replicate 65 0))).wellFormed = false := by decide

/-! ## Frames and CRCs (08 R142 to R146, 05 R99) -/

/-- R143: over the nine bytes 0x31 to 0x39 the CRC is 0x29B1. -/
theorem test_crc16 :
    crc16 [0x31, 0x32, 0x33, 0x34, 0x35, 0x36, 0x37, 0x38, 0x39] = 0x29B1#16 := by decide +kernel

/-- R99: a job over four bytes of 0 reports 0x2144DF1C. -/
theorem test_crc32 : crcReported (crc32Fold 0xFFFFFFFF#32 [0, 0, 0, 0]) = 0x2144DF1C#32 := by
  decide +kernel

/-- A management request: CONFIG-SET, SEQ 1, ACK 0, timeout 40 ms (10.1 step 6). -/
theorem test_decode_configSet :
    decodeHostFrame [1, 1, 0, 0, 0, 0x22, 0, 2, 0, 0, 40] = .configSet ⟨1, 0, 0, 0⟩ 2 [0, 0, 40] := by
  decide

/-- A RESET is two rows by its scope byte (R147). -/
theorem test_decode_reset :
    decodeHostFrame [1, 0, 63, 0, 0, 0x25, 0, 1, 1] = .resetFull first 1 [1]
      ∧ decodeHostFrame [1, 0, 63, 0, 0, 0x25, 0, 1, 0] = .resetFlush first 1 [0] := by decide

/-- The job and interrupt requests (R144). -/
theorem test_decode_jobPause :
    decodeHostFrame [1, 0, 63, 0, 0, 0x42, 0, 1, 2] = .jobPause first 1 [2] := by decide
theorem test_decode_irqDone :
    decodeHostFrame [1, 0, 63, 0, 0, 0x52, 0, 1, 20] = .irqDone first 1 [20] := by decide

/-- INIT, with bytes beyond its body that are not read (R142). -/
theorem test_decode_init : decodeHostFrame [5, 0, 0, 0, 0, 9] = .hostInit ⟨0, 0, 0, 0⟩ [9] := by decide

/-- A part-to-host kind from the host is a message of an unknown kind (R144). -/
theorem test_decode_unknownKind :
    decodeHostFrame [1, 0, 63, 0, 0, 0x80, 0, 1] = .unknownKind first 0x80 1 [] := by decide

/-- An ACK frame as a whole, its CRC computed by hand with R143. -/
theorem test_wireFrame_ack :
    wireFrame [2, 0, 9, 0, 0] = [0xC3, 5, 2, 0, 9, 0, 0, 0x97, 0x03] := by decide +kernel

/-! ## Resets and pins (07 R139 to R141, 04 R77, 06 R112, R113) -/

/-- R141: the cause is POWER and the link is DOWN, its first INIT due. -/
theorem test_powerOn :
    after .powerOn (withSlot (slot .running)) (fun t => (t.settings.resetCause, t.link.up, t.link.beacon,
      (t.jobs.get 2).state)) = some (.power, false, some 0, .empty) := by decide

/-- R141: a supply that comes up with RESET_N low gives cause POWER when the pin is released. -/
theorem test_powerOn_low :
    (match exec .powerOn low with
     | .next t => after .resetNRelease t fun u => u.settings.resetCause
     | _ => none) = some .power := by decide

/-- R140: no timer runs in reset, and a waiting FULL reset is gone. -/
theorem test_resetNAssert :
    after .resetNAssert { up with settings := { up.settings with fullWaiting := true } }
      (fun t => (t.link.beacon, t.link.up, t.settings.fullWaiting, t.settings.coldStart, t.pins.resetLow)) =
      some (none, false, false, false, true) := by decide

/-- R141: the cause is PIN; R77, R88: FREEZE active at the release leaves every port HELD, notice DUE. -/
theorem test_resetNRelease :
    after .resetNRelease { low with pins := { low.pins with freeze := true } }
      (fun t => (t.settings.resetCause, (t.ports.get 3).state, (t.ports.get 3).notice, t.link.beacon)) =
      some (.pin, .held, .due, some 0) := by decide

/-- R61, R77: a port with a transaction is HOLDING, an idle one HELD. -/
theorem test_freezeActive :
    after .freezeActive reading (fun t => ((t.ports.get 0).state, (t.ports.get 1).state,
      (t.ports.get 0).notice, (t.ports.get 1).notice)) =
      some (.held, .holding, .due, .settled) := by decide

/-- R77, R79: a port that also holds HOST stays HELD, and its notice is not called for. -/
theorem test_freezeInactive :
    after .freezeInactive { up with
        ports := (up.ports.set 0 { up.ports.get 0 with holds := ⟨true, true, false⟩ }).set 1
          { up.ports.get 1 with holds := ⟨false, true, false⟩ } }
      (fun t => ((t.ports.get 0).state, (t.ports.get 0).notice, (t.ports.get 1).state,
        (t.ports.get 1).notice)) = some (.held, .settled, .idle, .due) := by decide

/-- 10.3 step 1: the first edge makes the source DUE, its latch clear. -/
theorem test_irqLineRise_first :
    after (.irqLineRise 20) (withSource (source .idle)) (fun t =>
      ((t.sources.get 20).state, (t.sources.get 20).latch, (t.sources.get 20).coalesced)) =
      some (.due, false, 0) := by decide

/-- 10.3 step 2: an edge in DUE is latched and counted. -/
theorem test_irqLineRise_second :
    after (.irqLineRise 20) (withSource (source .due)) (fun t =>
      ((t.sources.get 20).state, (t.sources.get 20).latch, (t.sources.get 20).coalesced)) =
      some (.due, true, 1) := by decide

/-- R112: a cycle goes on when its line falls. -/
theorem test_irqLineFall :
    after (.irqLineFall 20) { withSource (source .due) with
        pins := { up.pins with lines := up.pins.lines.set 20 true } }
      (fun t => (t.pins.lines.get 20, (t.sources.get 20).state)) = some (false, .due) := by decide

/-! ## Frames of the host (09 R157 to R162) -/

/-- R157: a frame whose CRC bytes do not match is counted, and only its SYNC consumed. -/
theorem test_frameCrcFailure :
    after (.frameCrcFailure [0, 0xC3, 5, 2, 0, 9, 0, 0, 0x97, 0x04, 0xC3, 7]) up
      (fun t => (t.link.counters.crcFailures, t.link.rx)) = some (1, [0xC3, 7]) := by decide +kernel

/-- R157: a good ACK frame that a false SYNC swallowed is found again; it leaves the receive bytes. -/
theorem test_dueReceive :
    let s : State := { sent aReply with
      link := { oneSent aReply with rx := [0xC3, 5, 2, 0, 0, 0, 0, 0x09, 0x92, 0x11], tx := some ⟨[], 9⟩ } }
    dueEvents s = [.hostAckFrame ⟨0, 0, 0, 0⟩ []]
      ∧ after (.hostAckFrame ⟨0, 0, 0, 0⟩ []) s (fun t => (t.link.rx, t.link.replay)) = some ([], []) := by
  decide +kernel

/-- R158: a WAIT from the host is malformed. -/
theorem test_malformedFrame :
    after (.malformedFrame [4, 0, 0, 0, 0]) up (fun t => t.link.counters.malformedFrames) = some 1 := by
  decide +kernel

/-- R160: a frame one ahead is discarded and a NAK owed. -/
theorem test_hostDataFrameNotTaken_ahead :
    after (.hostDataFrameNotTaken { first with seq := 1 } 0x14 7 []) up (fun t =>
      (t.link.control, t.link.counters.outOfSequence, t.link.expected, t.direct)) =
      some (.nak, 1, 0, []) := by decide +kernel

/-- R161: with four direct replies a FENCE is not taken, and a WAIT that names it is owed. -/
theorem test_hostDataFrameNotTaken_full :
    after (.hostDataFrameNotTaken first 0x14 7 []) { up with direct := List.replicate 4 aReply }
      (fun t => (t.link.control, t.link.expected, t.link.ackOwed, t.direct.length)) =
      some (.wait 0, 0, false, 4) := by decide +kernel

/-- R159: the frame leaves the replay list and the timer stops (10.1 step 6). -/
theorem test_hostAckFrame :
    after (.hostAckFrame ⟨0, 0, 0, 0⟩ []) (sent aReply) (fun t =>
      (t.link.replay, t.link.replayTimer)) = some ([], none) := by decide +kernel

/-- R172, 10.1 step 10: the rate changes with the acknowledgement of the REPLY's frame. -/
theorem test_rateChange :
    after (.rateChange ⟨0, 0, 0, 0⟩ []) (sent ⟨[0x80, 0, 2, 0x24, 0, 3], .rateReply 3⟩)
      (fun t => (t.link.rate, t.link.up)) = some (3, true) := by decide +kernel

/-- R139, R141: the acknowledgement of the FULL REPLY's frame resets the part with cause SOFT. -/
theorem test_fullResetCarriedOut :
    after (.fullResetCarriedOut (.acknowledged ⟨0, 0, 0, 0⟩ []))
      { sent ⟨[0x80, 0, 2, 0x25, 0, 1], .fullReply⟩ with
        windows := mapped.windows, settings := { up.settings with fullWaiting := true } }
      (fun t => (t.settings.resetCause, t.link.up, t.windows.get 3)) =
      some (.soft, false, Window.zero) := by decide +kernel

/-- R162: a NAK marks its frame; one that names no frame of the list is stray. -/
theorem test_hostNak :
    after (.hostNak ⟨0, 0, 0, 0⟩ []) (sent aReply) (fun t =>
      (t.link.replay.map Sent.resend, t.link.counters.strayNaks)) = some ([true], 0) := by decide +kernel
theorem test_hostNak_stray :
    after (.hostNak ⟨0, 1, 0, 0⟩ []) (sent aReply) (fun t =>
      (t.link.replay.map Sent.resend, t.link.counters.strayNaks)) = some ([false], 1) := by
  decide +kernel

/-- 10.1 step 2: UP, READY owed, epoch 1. -/
theorem test_hostInit :
    after (.hostInit ⟨0, 0, 0, 0⟩ []) State.reset (fun t =>
      (t.link.up, t.link.readyOwed, t.link.epoch, t.link.beacon)) = some (true, true, 1, none) := by
  decide +kernel

/-! ## The line and its timers (09 R163 to R171) -/

/-- 10.7: the fourth expiry ends the session; source 5's counts add up to 3; the FAULT-NOTICE is DUE. -/
theorem test_replayTimerExpiry :
    after .replayTimerExpiry { sent aReply with
        link := { oneSent aReply with expiryCount := 3, rate := 3 }
        sources := up.sources.set 5 { source .sent with sentCount := some 2, coalesced := 1 } }
      (fun t => (t.link.up, t.link.rate, (t.sources.get 5).state, (t.sources.get 5).coalesced,
        t.faults.notice)) = some (false, 1, .due, 3, .due) := by decide +kernel

/-- R169: an INIT goes to the free line, and the next is 50 ms away; its bytes by R142. -/
theorem test_beaconTimerExpiry :
    after .beaconTimerExpiry State.reset (fun t => (t.link.tx.map OnLine.bytes, t.link.beacon)) =
      some (some [0xC3, 5, 5, 0, 0, 32, 32, 0x4C, 0xC2], some 200000) := by decide +kernel

/-- 10.1 step 3: READY with epoch 1, POWER, ACK 63, 32 free of both. -/
theorem test_frameTransmitEnd_ready :
    after .frameTransmitEnd { up with link := { up.link with readyOwed := true, epoch := 1 } }
      (fun t => t.link.tx.map OnLine.bytes) =
      some (some [0xC3, 7, 6, 0, 63, 32, 32, 1, 0, 0xBC, 0xAD]) := by decide +kernel

/-- 10.1 step 5: DATA 0 carries the direct reply and the acknowledgement 0. -/
theorem test_frameTransmitEnd_direct :
    after .frameTransmitEnd { up with link := { up.link with expected := 1 }, direct := [aReply] }
      (fun t => (t.link.tx.map fun x => x.bytes.take 7, t.link.nextSend, t.direct,
        t.link.replayTimer.map ReplayTimer.timeout)) =
      some (some [0xC3, 10, 1, 0, 0, 32, 32], 1, [], some 20) := by decide +kernel

/-! ## The bytes of replies and notices (03 R47, 08 R152 to R154) -/

/-- R47: the data of a READ goes with OK alone; WRITE has no field. -/
theorem test_readReply :
    ({ readTag .ready with data := [0xDE, 0xAD, 0xBE, 0xEF] } : Tag).reply.bytes =
        [0x80, 1, 0, 0x10, 0, 4, 0xDE, 0xAD, 0xBE, 0xEF]
      ∧ ({ readTag .ready with status := .timeout, data := [1, 2, 3, 4] } : Tag).reply.bytes =
        [0x80, 1, 0, 0x10, 13, 4]
      ∧ ({ readTag .ready with kind := .write } : Tag).reply.bytes = [0x80, 1, 0, 0x11, 0] := by decide

/-- R47: a MODIFY with its values, and one aborted before its read half ended; a FENCE with its counts. -/
theorem test_modifyReply :
    ({ readTag .ready with kind := .modify, oldNew := some (0x1234#32, 0x89009205#32) } : Tag).reply.bytes =
        [0x80, 1, 0, 0x13, 0, 0, 0, 0x12, 0x34, 0x89, 0, 0x92, 5]
      ∧ ({ readTag .ready with kind := .modify, status := .aborted } : Tag).reply.bytes =
        [0x80, 1, 0, 0x13, 14, 0, 0, 0, 0, 0, 0, 0, 0]
      ∧ ({ readTag .ready with kind := .fence, covered := 32, failed := 1 } : Tag).reply.bytes =
        [0x80, 1, 0, 0x14, 0, 32, 1] := by decide

/-- R152: the record of an ACCESS-FAILED with a port, an id and both addresses; an IRQ-ACK-FAILED with a
port, a source and a local address. -/
theorem test_faultBlock :
    faultBlock (some ⟨.accessFailed, ⟨.busError, some 1, some 0x100#16, none, none, some 0x1010#32,
        some 0x40000010#32⟩, 2, 7⟩) =
        [9, 10, 51, 1, 1, 0, 0, 0, 0, 0, 0x10, 0x10, 0x40, 0, 0, 0x10, 2, 7]
      ∧ faultBlock (some ⟨.irqAckFailed, ⟨.noResponse, some 2, none, none, some 20, some 0x1F#32, none⟩, 1, 0⟩) =
        [7, 11, 25, 2, 0, 0, 0, 20, 0, 0, 0, 0x1F, 0, 0, 0, 0, 1, 0] := by decide

/-- R153: a job that is DONE, and one that FAILED with a local address. -/
theorem test_jobNoticeBody :
    jobNoticeBody 2 ⟨.done, 256, 0x2144DF1C#32, none, none⟩ 0 =
        [2, 7, 0, 0, 1, 0, 0x21, 0x44, 0xDF, 0x1C, 0, 0, 0, 0, 0, 0, 0]
      ∧ jobNoticeBody 3 ⟨.failed, 64, 0#32, some .busError, some 0x1240#32⟩ 2 =
        [3, 8, 0, 0, 0, 64, 0, 0, 0, 0, 3, 10, 0, 0, 0x12, 0x40, 2] := by decide

/-- R154: the codes of the statuses, in the order of their codes. -/
theorem test_statusCodes :
    ([.ok, .malformed, .unknownKind, .badField, .unmapped, .isProtected, .notPostable, .misaligned, .noTag,
      .duplicateId, .busError, .noResponse, .retryExhausted, .timeout, .aborted, .notFound, .tooLate,
      .writeFailed, .state, .overlap, .credit] : List Status).map Status.code =
      (List.range 21).map (BitVec.ofNat 8) := by decide

/-! ## Requests (01 to 03, 07, 08) -/

/-- R145: an unknown kind is answered UNKNOWN-KIND with nothing after the status. -/
theorem test_unknownKind :
    replies (.unknownKind first 0x80 0x1234 []) up = some [[0x80, 0x12, 0x34, 0x80, 2]] := by decide +kernel

/-- R19, R21: an admitted READ holds a tag and no direct reply place. -/
theorem test_read :
    after (.read first 0x100 [0x40, 0, 0, 0x10, 4]) mapped (fun t =>
      ((t.tags.get 0).state, (t.tags.get 0).access, t.lists.get 1, t.direct)) =
      some (.queued, some acc, [.tag 0], []) := by decide +kernel

/-- R18: MISALIGNED comes before the miss; the READ's count is echoed. -/
theorem test_read_misaligned :
    replies (.read first 0x100 [0x50, 0, 0, 1, 4]) mapped =
      some [[0x80, 1, 0, 0x10, 7, 4]] := by decide +kernel

/-- R22: the data of a WRITE is kept with its tag. -/
theorem test_write :
    after (.write first 0x100 [0x40, 0, 0, 0x10, 2, 0xAB, 0xCD]) mapped (fun t =>
      ((t.tags.get 0).kind, (t.tags.get 0).data)) = some (.write, [0xAB, 0xCD]) := by decide +kernel

/-- R146: a WRITE with count 4 and 3 data bytes is MALFORMED. -/
theorem test_write_malformed :
    replies (.write first 0x100 [0x40, 0, 0, 0x10, 4, 1, 2, 3]) mapped =
      some [[0x80, 1, 0, 0x11, 1]] := by decide +kernel

/-- R22: a POST takes a slot and sends no reply. -/
theorem test_post :
    after (.post first 0 [0x40, 0, 0, 0x10, 4, 1, 2, 3, 4]) mapped (fun t =>
      (t.pool.get 0, t.lists.get 1, t.direct)) = some (some post, [.post 0], []) := by decide +kernel

/-- R15, R20: a POST that misses under HOLD holds every port, with two faults and no reply. -/
theorem test_post_guard :
    after (.post first 0 [0x50, 0, 0, 0x10, 4, 1, 2, 3, 4]) guarded (fun t =>
      ((t.ports.get 2).state, t.faults.record.map (fun r => (r.kind, r.more)), t.direct)) =
      some (.held, some (.guardMiss, 1), []) := by decide +kernel

/-- R38: the masks of a MODIFY in their order. -/
theorem test_modify :
    after (.modify first 0x200 [0x40, 0, 0, 0x10, 4, 0, 0, 0, 1, 0, 0, 0, 2, 0, 0, 0, 3]) mapped
      (fun t => ((t.tags.get 0).setMask, (t.tags.get 0).clearMask, (t.tags.get 0).invertMask)) =
      some (1, 2, 3) := by decide +kernel

/-- 10.4 step 2: the FENCE waits for what it covers; with nothing to cover it is READY at once (R31). -/
theorem test_fence_waiting :
    after (.fence first 0x40 []) posting (fun t =>
      ((t.tags.get 0).state, (t.tags.get 0).outstanding, t.ready)) = some (.waiting, 1, []) := by
  decide +kernel
theorem test_fence_ready :
    after (.fence first 0x40 []) up (fun t => ((t.tags.get 0).state, t.ready)) =
      some (.ready, [0]) := by decide +kernel

/-- R135, R152: the sixteen bytes of IDENTIFY after power-on. -/
theorem test_identify :
    replies (.identify first 5 []) up =
      some [[0x80, 0, 5, 0x20, 0, 0x4C, 0x17, 0x04, 0x40, 1, 16, 4, 32, 32, 4, 8, 4, 32, 64, 0, 0]] := by
  decide +kernel

/-- R136: STATUS-GET has 40 bytes of fields; port 1 is ACTIVE. -/
theorem test_statusGet :
    (replies (.statusGet first 5 []) reading).map (fun l => l.map fun m => (m.length, (m.drop 5).take 7)) =
      some [(45, [32, 31, 0, 0, 0, 0, 1])] := by decide +kernel

/-- R137. -/
theorem test_configSet :
    after (.configSet first 5 [1, 1, 40]) up (fun t => (t.settings.missPolicy, t.settings.recordMode,
      t.settings.replayTimeout)) = some (.hold, .severe, 40) := by decide +kernel
theorem test_configGet :
    replies (.configGet first 5 []) up = some [[0x80, 0, 5, 0x23, 0, 0, 0, 20]] := by decide +kernel

/-- R172: LINK-RATE changes no rate before its REPLY is acknowledged. -/
theorem test_linkRate :
    after (.linkRate first 5 [3]) up (fun t => (t.link.rate, t.direct.map Message.bytes)) =
      some (1, [[0x80, 0, 5, 0x24, 0, 3]]) := by decide +kernel

/-- R147: a scope above 1 is refused; R139: FULL only waits. -/
theorem test_resetFlush_badScope :
    replies (.resetFlush first 5 [2]) up = some [[0x80, 0, 5, 0x25, 3, 2]] := by decide +kernel
theorem test_resetFull :
    after (.resetFull first 5 [1]) up (fun t => (t.settings.fullWaiting, t.link.up)) =
      some (true, true) := by decide +kernel

/-- R107: what a FLUSH does to a slot with a chunk on its port, and to a waiting one. -/
theorem test_resetFlush_job :
    (flushJob true (slot .running)).state = .stopping ∧ (flushJob false (slot .running)).state = .empty := by
  decide

/-- R125: a LEVEL source whose line is high starts its cycle, whose notice follows the REPLY. -/
theorem test_judgeAfterFlush :
    let s : State := { withSource { source .idle with trigger := .level } with
      pins := { up.pins with lines := up.pins.lines.set 20 true } }
    (let x := (judgeAfterFlush 20 s).sources.get 20
     x.state = .due ∧ x.offersNotice true = false ∧ x.offersNotice false = true) := by decide +kernel

/-- R8, R9: OVERLAP names the record in the way. -/
theorem test_windowSet_overlap :
    replies (.windowSet first 5 [0, 1, 0x40, 0, 0, 0, 13, 0, 0, 0, 0, 0, 0]) mapped =
      some [[0x80, 0, 5, 0x30, 19, 0, 3]] := by decide +kernel

/-- R8: prefetchable and volatile together are refused. -/
theorem test_windowSet_bad :
    replies (.windowSet first 5 [0, 1, 0x50, 0, 0, 0, 12, 0, 0, 0, 0, 0, 12]) mapped =
      some [[0x80, 0, 5, 0x30, 3, 0, 255]] := by decide +kernel

/-- R13. -/
theorem test_windowGet :
    replies (.windowGet first 5 [3]) mapped =
      some [[0x80, 0, 5, 0x31, 0, 3, 1, 0x40, 0, 0, 0, 12, 1, 0, 0, 0x10, 0, 6]] := by decide +kernel

/-- R84. -/
theorem test_portSet :
    after (.portSet first 5 [1, 2, 3, 4, 1, 5, 6]) up (fun t => (t.ports.get 1).settings) =
      some ⟨2, 3, 4, 0x105, 6⟩ := by decide +kernel

/-- R85, R152: the defaults of R84, and an IDLE port with nothing listed. -/
theorem test_portGet :
    replies (.portGet first 5 [0]) up =
      some [[0x80, 0, 5, 0x39, 0, 0, 16, 3, 8, 0, 100, 4, 0, 0, 0, 0, 0, 0, 0, 0, 0, 0, 0, 0, 0, 0]] := by
  decide +kernel

/-- R75: all four ports for 255. -/
theorem test_portHold :
    after (.portHold first 5 [255]) up (fun t => ((t.ports.get 0).state, (t.ports.get 3).state)) =
      some (.held, .held) := by decide +kernel

/-- R76: FREEZE is not removed. -/
theorem test_portRelease :
    after (.portRelease first 5 [1]) { up with
        ports := up.ports.set 1 { up.ports.get 1 with holds := ⟨true, true, true⟩ } }
      (fun t => (t.ports.get 1).holds) = some ⟨false, true, false⟩ := by decide +kernel

/-- R55, 10.5: an ABORT of an ACTIVE entry leaves it READY with bus pending. -/
theorem test_abort :
    after (.abort first 5 [1, 0]) reading (fun t => ((t.tags.get 7).state, (t.tags.get 7).status,
      (t.tags.get 7).busPending, t.direct.map Message.bytes)) =
      some (.ready, .aborted, true, [[0x80, 0, 5, 0x3C, 0, 1, 0]]) := by decide +kernel
theorem test_abort_notFound :
    replies (.abort first 5 [1, 1]) reading = some [[0x80, 0, 5, 0x3C, 15, 1, 1]] := by decide +kernel

/-! ## Jobs and interrupt sources (05, 06) -/

/-- 10.8 step 4: into a started slot the descriptor is staged. -/
theorem test_jobLoad_staged :
    after (.jobLoad first 5 [2, 0, 3, 0, 0, 0, 0, 0, 0, 0, 4, 0, 0, 0, 8, 4, 0, 0, 0, 0])
      (withSlot (slot .pausing)) (fun t => ((t.jobs.get 2).state,
        (t.jobs.get 2).staged.map Descriptor.startOnLoad, t.direct.map Message.bytes)) =
      some (.pausing, some true, [[0x80, 0, 5, 0x40, 0, 2, 0, 3]]) := by decide +kernel

/-- 10.8 step 1: the FILL runs and its first chunk, 64 bytes of pattern, is offered. -/
theorem test_jobStart :
    after (.jobStart first 5 [2]) (withSlot (slot .loaded)) (fun t => ((t.jobs.get 2).state,
      ((t.ports.get 1).offers.get 2).map (fun o => (o.localAddr, o.size, o.data.take 5)))) =
      some (.running, some (0x1200#32, 64, [0x11, 0x22, 0x33, 0x44, 0x11])) := by decide +kernel

/-- R95: in every state but LOADED the start is refused with STATE. -/
theorem test_jobStart_state :
    replies (.jobStart first 5 [2]) (withSlot (slot .done)) =
      some [[0x80, 0, 5, 0x41, 18, 2, 7]] := by decide +kernel

/-- 10.8 step 3. -/
theorem test_jobPause :
    replies (.jobPause first 5 [2])
      (withSlot { slot .running with chunk := some ⟨64, 0, 0x1240#32, .write, true⟩ }) =
      some [[0x80, 0, 5, 0x42, 0, 2, 3]] := by decide +kernel

/-- 10.8 step 6: chunk 3 is laid out at 128 bytes done. -/
theorem test_jobResume :
    after (.jobResume first 5 [2])
      (withSlot { slot .paused with run := some fillRun, bytesDone := 128, bytesLeft := 128 })
      (fun t => ((t.jobs.get 2).state, ((t.ports.get 1).offers.get 2).map Offer.localAddr)) =
      some (.running, some 0x1280#32) := by decide +kernel

/-- R103: a PAUSED job ends STOPPED at once. -/
theorem test_jobStop :
    replies (.jobStop first 5 [2]) (withSlot (slot .paused)) = some [[0x80, 0, 5, 0x44, 0, 2, 6]] := by
  decide +kernel

/-- R106, R99: with no bytes done the CRC is 0. -/
theorem test_jobGet :
    (replies (.jobGet first 5 [2]) (withSlot (slot .loaded))).map (fun l => l.map fun m =>
      ((m.drop 5).take 6, (m.drop 27).take 12)) =
      some [([2, 1, 1, 1, 0, 0x40], [0, 0, 0, 0, 0, 0, 1, 0, 0, 0, 0, 0])] := by decide +kernel

/-- R120: a source that is NOTIFIED is not set. -/
theorem test_irqSet_state :
    replies (.irqSet first 5 [20, 1, 1, 0, 0, 0, 0, 0, 0, 0, 0, 0, 0, 0, 0, 0, 0, 0, 0, 0])
      (withSource (source .notified)) = some [[0x80, 0, 5, 0x50, 18, 20, 5]] := by decide +kernel

/-- R120: a LEVEL source whose line is high starts its cycle at once. -/
theorem test_irqSet_level :
    after (.irqSet first 5 [20, 1, 0, 2, 0, 0, 0, 0, 0, 0, 0, 0, 0, 0, 0, 0, 0, 0, 0, 0])
      { up with pins := { up.pins with lines := up.pins.lines.set 20 true } }
      (fun t => ((t.sources.get 20).state, (t.sources.get 20).priority)) = some (.due, 2) := by
  decide +kernel

/-- 10.3 steps 3 and 4. -/
theorem test_irqMask_due :
    after (.irqMask first 5 [20, 1]) (withSource (source .due)) (fun t => (t.sources.get 20).state) =
      some .pending := by decide +kernel
theorem test_irqMask_pending :
    after (.irqMask first 5 [20, 0]) (withSource { source .pending with masked := true })
      (fun t => (t.sources.get 20).state) = some .due := by decide +kernel

/-- 10.3 step 8: the acknowledge write is asked of port 2. -/
theorem test_irqDone :
    after (.irqDone first 5 [20]) (withSource (source .notified)) (fun t =>
      ((t.sources.get 20).state, (t.ports.get 2).opQueue.map (fun op => (op.isWrite, op.value)),
        t.direct.map Message.bytes)) =
      some (.acking, [(true, 0x55#32)], [[0x80, 0, 5, 0x52, 0, 20, 6]]) := by decide +kernel

/-- R122, R152. -/
theorem test_irqGet :
    replies (.irqGet first 5 [20]) (withSource (source .due)) =
      some [[0x80, 0, 5, 0x53, 0, 20, 1, 1, 0, 0, 0, 0, 0, 0, 0, 1, 0, 0, 0, 0x1F, 0, 0, 0, 0x55, 1,
        0, 3, 0, 0, 0, 255, 0, 0, 0, 0, 255, 0]] := by decide +kernel

/-- R132, R152: an empty unit. -/
theorem test_faultGet :
    replies (.faultGet first 5 []) up =
      some [[0x80, 0, 5, 0x58, 0] ++ List.replicate 41 0] := by decide +kernel

/-- R133: the clear settles a DUE notice and keeps the counters when its flag is no. -/
theorem test_faultClear :
    after (.faultClear first 5 [0]) { up with
        faults := (faulted up .guardMiss ⟨.unmapped, none, none, none, none, none, none⟩) }
      (fun t => (t.faults.record, t.faults.notice, t.faults.counters.get 3)) =
      some (none, .settled, 1) := by decide +kernel

/-! ## Port events (04, 02 R26, 03 R49, R50) -/

/-- R63, R71: a QUEUED READ starts, with the port's response limit captured. -/
theorem test_portStart :
    after (.portStart 1) queued (fun t => ((t.tags.get 7).state, t.lists.get 1,
      (t.ports.get 1).txn.map (fun q => (q.initiator, q.localAddr, q.responseLimit)))) =
      some (.active, [], some (.request 7, 0x1010#32, 16)) := by decide

/-- R80: a READ that the line covers needs no transaction. -/
theorem test_portStart_line :
    after (.portStart 1) { queued with
        ports := queued.ports.set 1 { queued.ports.get 1 with
          lineValid := true, lineAddr := 0x1000#32
          lineData := List.replicate 16 0 ++ [1, 2, 3, 4] ++ List.replicate 44 0 } }
      (fun t => ((t.tags.get 7).data, t.ready, (t.ports.get 1).txn, (t.ports.get 1).pendingFill)) =
      some ([1, 2, 3, 4], [7], none, some 0x1040#32) := by decide

/-- R69: old value 0x1234, new value 0x9205. -/
theorem test_targetAnswer_modify :
    after (.targetAnswer 1 (.accept [0x12, 0x34]))
      (onPort { txn (.modifyRead 7) false with size := 2 } (tagged { readTag .active with
        kind := .modify, access := some { acc with count := 2 }
        setMask := 1, clearMask := 0xF0, invertMask := 0x8000 }))
      (fun t => ((t.tags.get 7).oldNew, (t.ports.get 1).state)) =
      some (some (0x1234#32, 0x9205#32), .locked) := by decide

/-- 10.4 step 6: a RETRY is repeated in hold-off. -/
theorem test_targetAnswer_retry :
    after (.targetAnswer 1 .retry) posting (fun t => (t.lists.get 1,
      (t.pool.get 0).map (fun x => (x.retries, x.holdOff)))) =
      some ([.post 0], some (1, some 32)) := by decide

/-- R64, R65: silence through a volatile window is not repeated. -/
theorem test_responseLimitExpiry :
    after (.responseLimitExpiry 1) (onPort (txn (.request 7) false)
        (tagged { readTag .active with access := some { acc with isVolatile := true } }))
      (fun t => ((t.tags.get 7).state, (t.tags.get 7).status)) = some (.ready, .noResponse) := by decide

/-- R65, R78. -/
theorem test_holdOffExpiry :
    after (.holdOffExpiry (.request 7)) (tagged { readTag .queued with holdOff := some 0 })
      (fun t => (t.tags.get 7).holdOff) = some none := by decide

/-- 10.5 at 500 us: READY with TIMEOUT and bus pending, and an ACCESS-FAILED fault. -/
theorem test_completionTimerExpiry :
    after (.completionTimerExpiry 7) reading (fun t => ((t.tags.get 7).state, (t.tags.get 7).status,
      (t.tags.get 7).busPending, t.faults.record.map FaultRecord.kind)) =
      some (.ready, .timeout, true, some .accessFailed) := by decide

/-- R50: the timer of a QUEUED entry is paused while its port is held. -/
theorem test_completionTimerExpiry_held :
    after (.completionTimerExpiry 7) { queued with
        ports := queued.ports.set 1 { queued.ports.get 1 with holds := ⟨true, false, false⟩ } }
      (fun t => (t.tags.get 7).state) = some .queued := by decide

/-! ## Witnesses: for each statement with hypotheses, states and operands that meet them -/

/-- The first DATA frame of the session is expected in every state with the link and the pins of `up`. -/
theorem expected_of {s : State} (hp : s.pins = up.pins) (hl : s.link = up.link) : Expected first s := by
  unfold Expected Listening AcksNothing
  rw [hp, hl]
  exact ⟨⟨rfl, rfl, rfl⟩, rfl, by simp [up, Link.atReset]⟩

theorem room_of {s : State} (h : s.direct = []) : Room s := by simp [Room, h]

theorem up_taken : Expected first up ∧ Room up := ⟨expected_of rfl rfl, room_of rfl⟩
theorem mapped_taken : Expected first mapped ∧ Room mapped := ⟨expected_of rfl rfl, room_of rfl⟩

/-- A window table with one enabled record, consistent, keeps its law. -/
theorem one_window (i : Fin 16) (w : Window) (hs : 12 ≤ w.sizeCode.val)
    (ha : w.hostBase.toNat % 2 ^ w.sizeCode.val = 0 ∧ w.localBase.toNat % 4 = 0)
    (hp : ¬(w.prefetchable = true ∧ w.isVolatile = true)) :
    WindowLaw ((Table.fill 16 Window.zero).set i w) := by
  have h : ∀ j, ((((Table.fill 16 Window.zero).set i w).get j).enabled = true) → j = i := by
    intro j hj
    rw [Table.get_set] at hj
    split at hj
    · next e => exact e.symm
    · simp [Window.zero] at hj
  refine ⟨fun j hj => ?_, fun j hj => ?_, fun j hj => ?_, fun j k hne hj hk => ?_⟩
  · rw [h j hj]; simpa using hs
  · rw [h j hj]; simpa using ha
  · rw [h j hj]; simpa using hp
  · exact absurd ((h j hj).trans (h k hk).symm) hne

theorem mapped_windowLaw : WindowLaw mapped.windows :=
  one_window 3 win (by decide) (by decide) (by decide)

/-- The end of the host range of `win` begins the range of this one. -/
def nextWin : Window := ⟨true, 0x40001000#32, 12, 2, 0x2000#32, true, false, false, true⟩

/-- `mapped` with `nextWin` as record 0. -/
def mappedTwice : State := { mapped with windows := mapped.windows.set 0 nextWin }

theorem mappedTwice_windowLaw : WindowLaw mappedTwice.windows := by
  have h : ∀ j, (mappedTwice.windows.get j).enabled = true → j = 0 ∨ j = 3 := by decide
  refine ⟨fun j hj => ?_, fun j hj => ?_, fun j hj => ?_, fun j k hne hj hk a => ?_⟩
  · rcases h j hj with rfl | rfl <;> decide
  · rcases h j hj with rfl | rfl <;> decide
  · rcases h j hj with rfl | rfl <;> decide
  · have e0 : mappedTwice.windows.get 0 = nextWin := by decide
    have e3 : mappedTwice.windows.get 3 = win := by decide
    unfold InRange
    rcases h j hj with rfl | rfl <;> rcases h k hk with rfl | rfl <;>
      first
        | exact absurd rfl hne
        | (rw [e0, e3]; simp [nextWin, win]; omega)

/-- A link with one frame unacknowledged keeps its law. -/
theorem sent_linkLaw (m : Message) : LinkLaw (sent m) where
  direct_le := Nat.zero_le 4
  replay_le := by simp [sent, oneSent]
  consecutive := by
    intro n h
    have : n = 0 := by simp [sent, oneSent] at h; omega
    subst this
    rfl
  timer_iff := by simp [sent, oneSent]
  expiry_le := Nat.zero_le 3
  down := fun h => by cases h
  beacon := by simp [sent, oneSent, up]
  inReset := fun h => by cases h

theorem up_linkLaw : LinkLaw up where
  direct_le := Nat.zero_le 4
  replay_le := by decide
  consecutive := fun n h => absurd h (by simp [up, Link.atReset])
  timer_iff := by simp [up, Link.atReset]
  expiry_le := Nat.zero_le 3
  down := fun h => by cases h
  beacon := by simp [up]
  inReset := fun h => by cases h

/-- A state whose timers have all run out: a completion timer, a hold-off of each kind, the response
limit, the replay timer and the frame on HTX. -/
def ranOut : State :=
  { withPort (fun x => { x with
        txn := some { txn .fill false with timeLeft := 0 }
        offers := x.offers.set 3 (some { offer1 with holdOff := some 0 })
        opQueue := [{ op1 with holdOff := some 0 }] })
      (tagged { readTag .active with timeLeft := 0, holdOff := some 0 }) with
    pool := up.pool.set 31 (some { post with holdOff := some 0 })
    link := { up.link with replayTimer := some ⟨0, 20⟩, tx := some ⟨[], 0⟩ } }

/-- The four cases of an empty queue: in reset, nothing due, one event due, two events due. For a quarter
of a microsecond: timers that count and one that is paused on a held port, and every timer at 0. -/
theorem witness_EmptyQueueLetsTheBlockAct :
    (low.pending = [] ∧ low.pins.resetLow = true) ∧ (up.pending = [] ∧ dueEvents up = [])
      ∧ (State.reset.pending = [] ∧ dueEvents State.reset = [.beaconTimerExpiry])
      ∧ (let s := onPort { txn .fill false with timeLeft := 0 } State.reset
        s.pending = [] ∧ 1 < (dueEvents s).length)
      ∧ (queued.pins.resetLow = false ∧ (queued.tags.get 7).state = .queued
        ∧ (queued.ports.get acc.port).holds = ⟨false, false, false⟩)
      ∧ ((withPort (fun x => { x with holds := ⟨true, false, false⟩ }) queued).ports.get acc.port).holds
        ≠ ⟨false, false, false⟩
      ∧ (ranOut.pins.resetLow = false ∧ (ranOut.tags.get 7).state = .active
        ∧ (ranOut.tags.get 7).timeLeft = 0 ∧ (ranOut.tags.get 7).holdOff = some 0
        ∧ (ranOut.pool.get 31).map Posted.holdOff = some (some 0)
        ∧ ((ranOut.ports.get 1).offers.get 3).map Offer.holdOff = some (some 0)
        ∧ (ranOut.ports.get 1).opQueue = [{ op1 with holdOff := some 0 }]
        ∧ (ranOut.ports.get 1).txn.map Txn.timeLeft = some 0
        ∧ ranOut.link.replayTimer.map ReplayTimer.timeLeft = some 0
        ∧ ranOut.link.tx.map OnLine.timeLeft = some 0)
      ∧ (State.reset.link.up = false ∧ State.reset.link.beacon = some 0
        ∧ State.reset.link.tx = none) := by decide +kernel

/-- R50: a quarter of a microsecond counts an ACTIVE entry's timer, and not a QUEUED one's on a held
port; R78: a hold-off counts there all the same. -/
theorem test_tick :
    ((tick reading).tags.get 7).timeLeft = 39999
      ∧ (let t := tick (withPort (fun x => { x with holds := ⟨true, false, false⟩ })
          (tagged { readTag .queued with holdOff := some 8 }))
        (t.tags.get 7).timeLeft = 40000 ∧ (t.tags.get 7).holdOff = some 7) := by decide +kernel

/-- R70, R163, R50: a READ at the head starts, READY goes to the free line, and a timer that has time left
is not due. -/
theorem test_dueEvents :
    dueEvents queued = [.portStart 1]
      ∧ dueEvents { up with link := { up.link with readyOwed := true } } = [.frameTransmitEnd]
      ∧ dueEvents { up with link := { up.link with readyOwed := true, tx := some ⟨[], 1⟩ } } = []
      ∧ dueEvents (tagged { readTag .active with timeLeft := 1, holdOff := some 1 }) = []
      ∧ dueEvents reading = [] := by decide +kernel

/-- A port event and a request: neither is a command of the supply or a pin. -/
theorem witness_EveryCommandAnswersANextState :
    isPinCommand (.portStart 3) = false ∧ isPinCommand (.faultGet first 0 []) = false := by decide

theorem witness_PowerOnAndResetPinLeaveResetValues :
    up.pins.resetLow = false ∧ low.pins.resetLow = true ∧ low.settings.coldStart = false
      ∧ (let s : State := { low with settings := { low.settings with coldStart := true } }
        s.pins.resetLow = true ∧ s.settings.coldStart = true)
      ∧ isPinCommand (.read first 0 []) = false := by decide

/-- The three events, the acknowledged frame behind another one. -/
theorem witness_FullResetIsCarriedOut :
    let full : Sent := ⟨1, ⟨[0x80, 0, 2, 0x25, 0, 1], .fullReply⟩, false⟩
    let s : State :=
      { up with
        settings := { up.settings with fullWaiting := true }
        link := { up.link with nextSend := 2, replay := [⟨0, aReply, false⟩, full], expiryCount := 3
                               replayTimer := some ⟨0, 20⟩ } }
    s.pins.resetLow = false ∧ s.settings.fullWaiting = true ∧ Listening s
      ∧ s.link.replay = [⟨0, aReply, false⟩] ++ full :: [] ∧ full.message.carries = .fullReply
      ∧ (∀ x ∈ [(⟨0, aReply, false⟩ : Sent)], x.seq ≠ (1 : Seq)) ∧ (∃ x ∈ full :: [], x.seq = (1 : Seq))
      ∧ s.link.replayTimer.isSome = true ∧ s.link.expiryCount = 3 := by
  refine ⟨rfl, rfl, ⟨rfl, rfl, rfl⟩, rfl, rfl, by decide, by decide, rfl, rfl⟩

theorem witness_HoldReasonsJoinAndLeave :
    up.pins.resetLow = false ∧ Expected first up ∧ Room up ∧ (3 : Byte).toNat ≤ 3
      ∧ (0 : Byte).toNat ≤ 3 ∧ (255 : Byte) = 255 :=
  ⟨rfl, up_taken.1, up_taken.2, by decide, by decide, rfl⟩

/-- A state for each of the cases of source 20. -/
theorem witness_InterruptLineRisesAndFalls :
    let high : State := { up with pins := { up.pins with lines := up.pins.lines.set 20 true } }
    let off := withSource (source .idle)
    (high.pins.resetLow = false ∧ high.pins.lines.get 20 = true)
      ∧ (up.pins.lines.get 20 = false ∧ (up.sources.get 20).enabled = false)
      ∧ (let x := (withSource { source .due with trigger := .level }).sources.get 20
        x.enabled = true ∧ x.state ≠ .idle ∧ x.trigger = .level)
      ∧ (let x := (withSource (source .acking)).sources.get 20
        x.enabled = true ∧ x.state ≠ .idle ∧ x.trigger = .edge)
      ∧ (let x := (withSource { source .idle with inFlight := true }).sources.get 20
        x.enabled = true ∧ x.state = .idle ∧ x.inFlight = true)
      ∧ (let x := off.sources.get 20
        off.pins.resetLow = false ∧ off.pins.lines.get 20 = false ∧ x.enabled = true
          ∧ x.state = .idle ∧ x.inFlight = false) := by decide

/-- Down; ahead by 1 and by 31; behind by 32 and by 1; expected with the direct replies full. -/
theorem witness_DataFrameNotTaken :
    DataCommand (.fence first 7 []) first 0x14 7 [] ∧ State.reset.pins.resetLow = false
      ∧ State.reset.link.rx = [] ∧ State.reset.link.up = false
      ∧ up.link.up = true ∧ AcksNothing first up
      ∧ ((1 : Seq) - up.link.expected).toNat = 1 ∧ ((31 : Seq) - up.link.expected).toNat = 31
      ∧ ((32 : Seq) - up.link.expected).toNat = 32 ∧ ((63 : Seq) - up.link.expected).toNat = 63
      ∧ (first.seq - up.link.expected).toNat = 0 ∧ (0x14 : Byte) ≠ 0x12
      ∧ 4 ≤ ({ up with direct := List.replicate 4 aReply } : State).direct.length := by
  refine ⟨.inr (.inl ⟨.fence, rfl, rfl⟩), rfl, rfl, rfl, rfl, (expected_of rfl rfl).2.2, ?_⟩
  decide

theorem witness_AcknowledgementIsTakenFirst :
    DataCommand (.unknownKind ⟨0, 0, 0, 0⟩ 0x15 7 []) ⟨0, 0, 0, 0⟩ 0x15 7 [] ∧ LinkLaw (sent aReply)
      ∧ (sent aReply).pins.resetLow = false ∧ (sent aReply).link.rx = []
      ∧ (∃ e ∈ (sent aReply).link.replay, e.seq = (0 : Seq)) :=
  ⟨.inr (.inr ⟨rfl, rfl⟩), sent_linkLaw _, rfl, rfl, _, List.mem_singleton_self _, rfl⟩

/-- Down; naming nothing; and for each holder a frame behind a reply, with the holder's notice SENT. -/
theorem witness_AcknowledgementReportsToTheHolder :
    State.reset.link.up = false ∧ up.link.up = true ∧ AcksNothing first up
      ∧ (∀ c : Carried, let e : Sent := ⟨1, ⟨[], c⟩, false⟩
        let s : State :=
          { up with
            link := { up.link with nextSend := 2, replay := [⟨0, aReply, false⟩, e]
                                   replayTimer := some ⟨80000, 20⟩ }
            faults := { up.faults with notice := .sent }
            ports := up.ports.map fun x => { x with notice := .sent }
            jobs := up.jobs.map fun x => { x with notice := .sent }
            sources := up.sources.map fun x => { x with state := .sent, noticeSeq := some 1 } }
        s.pins.resetLow = false ∧ s.link.rx = [] ∧ s.link.up = true
          ∧ s.link.replay = [⟨0, aReply, false⟩] ++ e :: [] ∧ e.seq = (1 : Seq)
          ∧ (∀ x ∈ [(⟨0, aReply, false⟩ : Sent)], x.seq ≠ (1 : Seq) ∧ x.message.carries = .reply)
          ∧ e.message.carries = c ∧ s.settings.fullWaiting = false ∧ s.faults.notice = .sent
          ∧ (∀ p, (s.ports.get p).notice = .sent) ∧ (∀ j, (s.jobs.get j).notice = .sent)
          ∧ (∀ i, (s.sources.get i).state = .sent)) := by
  refine ⟨rfl, rfl, (expected_of rfl rfl).2.2, fun c => ⟨rfl, rfl, rfl, rfl, rfl, ?_, rfl, rfl, rfl, ?_, ?_, ?_⟩⟩
  · simp [aReply]
  all_goals simp

/-- Three notices and a LINK-RATE REPLY leave at once, and the FULL REPLY of a waiting reset stays. -/
theorem witness_AcknowledgementReports_several :
    let pre : List Sent :=
      [⟨61, ⟨[], .portNotice 3⟩, false⟩, ⟨62, ⟨[], .irqNotice 31⟩, false⟩, ⟨63, ⟨[], .rateReply 4⟩, false⟩]
    let e : Sent := ⟨0, ⟨[], .jobNotice 0⟩, false⟩
    let rest : List Sent := [⟨1, ⟨[], .fullReply⟩, false⟩]
    let s : State :=
      { up with
        settings := { up.settings with fullWaiting := true }
        link := { up.link with nextSend := 2, replay := pre ++ e :: rest, replayTimer := some ⟨9, 20⟩ } }
    s.pins.resetLow = false ∧ s.link.rx = [] ∧ s.link.up = true ∧ s.link.replay = pre ++ e :: rest
      ∧ e.seq = (0 : Seq) ∧ (∀ x ∈ pre, x.seq ≠ (0 : Seq)) ∧ s.settings.fullWaiting = true
      ∧ ∀ x ∈ pre ++ [e], x.message.carries ≠ .fullReply := by decide +kernel

theorem witness_NakMarksFromTheNamedFrame :
    (State.reset.pins.resetLow = false ∧ State.reset.link.rx = [] ∧ State.reset.link.up = false)
      ∧ (up.link.up = true ∧ AcksNothing first up)
      ∧ ((sent aReply).link.up = true ∧ LinkLaw (sent aReply)
        ∧ ∃ e ∈ (sent aReply).link.replay, e.seq = (0 : Seq)) :=
  ⟨⟨rfl, rfl, rfl⟩, ⟨rfl, (expected_of rfl rfl).2.2⟩, rfl, sent_linkLaw _, _, List.mem_singleton_self _, rfl⟩

theorem witness_InitEndsAndOpensASession :
    (State.reset.pins.resetLow = false ∧ State.reset.link.rx = [] ∧ State.reset.link.up = false)
      ∧ (up.pins.resetLow = false ∧ up.link.rx = [] ∧ up.link.up = true
        ∧ up.settings.fullWaiting = false) := by decide

theorem witness_ReplayTimerResendsThenEndsTheLink :
    (up.pins.resetLow = false ∧ up.link.replayTimer = none)
      ∧ (let s : State := { sent aReply with link := { oneSent aReply with expiryCount := 2 } }
        s.pins.resetLow = false ∧ s.link.replayTimer.isSome = true ∧ s.link.expiryCount < 3)
      ∧ (let s : State := { sent aReply with link := { oneSent aReply with expiryCount := 3 } }
        s.link.replayTimer.isSome = true ∧ s.link.expiryCount = 3
          ∧ s.settings.fullWaiting = false) := by decide

/-- The frame of `test_frameCrcFailure`; the shortest malformed contents and each fault of a header. -/
theorem witness_BadFramesAreCountedAndDiscarded :
    up.pins.resetLow = false
      ∧ hunt (up.link.rx ++ [0, 0xC3, 5, 2, 0, 9, 0, 0, 0x97, 0x04, 0xC3, 7])
        = 0xC3 :: 5 :: [2, 0, 9, 0, 0] ++ [0x97, 0x04] ++ [0xC3, 7]
      ∧ ([2, 0, 9, 0, 0] : List Byte).length = (5 : Byte).toNat ∧ ([0x97, 0x04] : List Byte).length = 2
      ∧ ([0x97, 0x04] : List Byte) ≠ be16 (crc16 (5 :: [2, 0, 9, 0, 0])) ∧ up.link.rx = []
      ∧ ([] : List Byte).length < 5 ∧ ([1, 2, 3, 4] : List Byte).length < 5
      ∧ ((4 : Byte) ≠ 1 ∧ (4 : Byte) ≠ 2 ∧ (4 : Byte) ≠ 3 ∧ (4 : Byte) ≠ 5)
      ∧ ([0x14, 0] : List Byte).length < 3 ∧ 63 < (64 : Byte).toNat := by decide +kernel

/-- `up` with what an outbound frame can be made from: a direct reply, a READY tag, and DUE notices. -/
def offering : State :=
  { tagged (readTag .ready) with
    direct := [aReply], ready := [7]
    faults := { faulted up .guardMiss ⟨.unmapped, none, none, none, none, none, none⟩ with notice := .due }
    ports := up.ports.set 3 { up.ports.get 3 with notice := .due }
    jobs := up.jobs.set 3 { up.jobs.get 3 with
      notice := .due, latest := some ⟨.done, 256, 0, none, none⟩ }
    sources := (up.sources.set 20 { source .due with priority := 1 }).set 31 (source .due) }

/-- `s` with the class last served. -/
def served (c : OutClass) (s : State) : State := { s with link := { s.link with lastClass := c } }

/-- A state for each choice of the line and each case of the beacon timer. -/
theorem witness_LineChoosesControlAndResendFrames :
    (let s : State := { up with link := { up.link with readyOwed := true } }
     s.pins.resetLow = false ∧ s.link.up = true ∧ s.link.readyOwed = true)
    ∧ (let s : State := { up with link := { up.link with control := .wait 63 } }
     s.link.up = true ∧ s.link.readyOwed = false ∧ s.link.control = .wait 63)
    ∧ (let s : State := { up with link := { up.link with control := .nak } }
     s.link.up = true ∧ s.link.readyOwed = false ∧ s.link.control = .nak)
    ∧ (LineForData up ∧ up.direct = [] ∧ up.ready = [] ∧ NoNoticeDue up)
    ∧ (let s : State := { up with link := { up.link with replay := List.replicate 8 ⟨0, aReply, false⟩ } }
     LineForData s ∧ 8 ≤ s.link.replay.length)
    ∧ (State.reset.link.up = false ∧ State.reset.link.beacon = some 0
      ∧ State.reset.link.beacon.isSome = true ∧ State.reset.link.tx = none)
    ∧ (let s : State := { State.reset with link := { State.reset.link with tx := some ⟨[], 0⟩ } }
     s.link.up = false ∧ s.link.beacon.isSome = true ∧ s.link.tx.isSome = true)
    ∧ (up.link.up = true ∧ low.link.beacon = none) := by
  unfold LineForData NoNoticeDue IrqOffered
  decide

/-- The second of two unacknowledged frames is the oldest marked resend due. -/
theorem witness_LineChooses_resend :
    let e : Sent := ⟨1, aReply, true⟩
    let s : State :=
      { up with link := { up.link with nextSend := 2, replay := [⟨0, aReply, false⟩, e]
                                       replayTimer := some ⟨80000, 20⟩ } }
    s.link.up = true ∧ s.link.readyOwed = false ∧ s.link.control = .none ∧ LinkLaw s
      ∧ s.link.replay = [⟨0, aReply, false⟩] ++ e :: []
      ∧ (∀ x ∈ [(⟨0, aReply, false⟩ : Sent)], x.resend = false) ∧ e.resend = true := by
  refine ⟨rfl, rfl, rfl, ⟨by decide, by decide, fun n h => ?_, by simp, by decide, by decide, by decide,
    by decide⟩, rfl, by decide, rfl⟩
  have : n = 0 ∨ n = 1 := by simp at h; omega
  rcases this with rfl | rfl <;> rfl

/-- `offering` without its FAULT-NOTICE, then without its PORT-NOTICE, then without its JOB-NOTICE. -/
def offering1 : State := { offering with faults := up.faults }
def offering2 : State := { offering1 with ports := up.ports }
def offering3 : State := { offering2 with jobs := up.jobs }

/-- A direct reply and nothing else. -/
def replying : State := { up with direct := [aReply] }

/-- Source 20 is DUE in a cycle that a FLUSH started, with these direct replies waiting. -/
def sentFlush (l : List Message) : State :=
  { withSource { source .due with trigger := .level, behindFlush := true } with direct := l }

/-- A state for each class, and the notice of a cycle after a FLUSH, which the REPLY holds back until it
is sent. -/
theorem witness_OutboundArbiterServesTheClassesInTurn :
    (LineForData offering ∧ offering.link.replay.length < 8 ∧ offering.direct = aReply :: []
        ∧ offering.link.lastClass = .notice)
      ∧ (LineForData (served .ready replying) ∧ NoNoticeDue replying ∧ replying.ready = []
        ∧ LineForData (served .direct replying))
      ∧ (LineForData (served .direct offering) ∧ offering.ready = 7 :: [])
      ∧ (LineForData (served .ready offering) ∧ offering.faults.notice = .due)
      ∧ (offering1.faults.notice ≠ .due ∧ (offering1.ports.get 3).notice = .due
        ∧ ∀ q, q < 3 → (offering1.ports.get q).notice ≠ .due)
      ∧ ((∀ q, (offering2.ports.get q).notice ≠ .due) ∧ (offering2.jobs.get 3).notice = .due
        ∧ (offering2.jobs.get 3).latest = some ⟨.done, 256, 0, none, none⟩
        ∧ ∀ q, q < 3 → (offering2.jobs.get q).notice ≠ .due)
      ∧ (IrqOffered (sentFlush []) 20 ∧ ¬IrqOffered (sentFlush [⟨[], .flushReply⟩]) 20
        ∧ NoNoticeDue (sentFlush [⟨[], .flushReply⟩]))
      ∧ ((∀ q, (offering3.jobs.get q).notice ≠ .due) ∧ IrqOffered offering3 31
        ∧ (∀ k, IrqOffered offering3 k →
          (offering3.sources.get 31).priority < (offering3.sources.get k).priority
            ∨ ((offering3.sources.get 31).priority = (offering3.sources.get k).priority ∧ 31 ≤ k))) := by
  unfold LineForData NoNoticeDue IrqOffered
  refine ⟨?_, ?_, ?_, ?_, ?_, ?_, ?_, ?_⟩ <;> decide +kernel

/-- An unknown kind; a body one byte short and one byte long; the encodings just outside. -/
theorem witness_IntakeRefusesBadMessages :
    Expected first up ∧ Room up ∧ RequestKind.ofCode 0x15 = none ∧ RequestKind.read ≠ .post
      ∧ ([0, 0, 0, 0] : List Byte).length ≠ requiredLength .read [0, 0, 0, 0]
      ∧ ([0] : List Byte).length ≠ requiredLength .fence [0]
      ∧ (([0, 0, 0, 0, 65] : List Byte).length = requiredLength .read [0, 0, 0, 0, 65]
        ∧ fieldsOk .read [0, 0, 0, 0, 65] = false)
      ∧ ([16] : List Byte).length = requiredLength .windowGet [16] ∧ fieldsOk .windowGet [16] = false
      ∧ ([] : List Byte).length ≠ requiredLength .post []
      ∧ (([0, 0, 0, 0, 3, 1, 2, 3] : List Byte).length = requiredLength .post [0, 0, 0, 0, 3, 1, 2, 3]
        ∧ fieldsOk .post [0, 0, 0, 0, 3, 1, 2, 3] = false) :=
  ⟨up_taken.1, up_taken.2, by decide⟩

/-- The first and the last address of two adjoining windows, and the addresses just outside. -/
theorem witness_DecodeFindsTheOneWindow :
    WindowLaw mappedTwice.windows ∧ (mappedTwice.windows.get 3).enabled = true
      ∧ InRange (mappedTwice.windows.get 3) 0x40000000#32
      ∧ InRange (mappedTwice.windows.get 3) 0x40000FFF#32
      ∧ (mappedTwice.windows.get 0).enabled = true
      ∧ InRange (mappedTwice.windows.get 0) 0x40001000#32
      ∧ (∀ i, (mappedTwice.windows.get i).enabled = true → ¬InRange (mappedTwice.windows.get i) 0x3FFFFFFF#32)
      ∧ (∀ i, (mappedTwice.windows.get i).enabled = true →
        ¬InRange (mappedTwice.windows.get i) 0x40002000#32) := by
  refine ⟨mappedTwice_windowLaw, ?_⟩
  unfold InRange
  decide

theorem witness_TranslationKeepsOffsetAndAlignment :
    WindowLaw mapped.windows
      ∧ decodeAddr mapped.windows 0x40000FFE#32 = some ⟨3, 1, 0x1FFE#32, false, true, true, false⟩
      ∧ InRange (mapped.windows.get 3) (0x40000FFE#32 + BitVec.ofNat 32 1)
      ∧ (0x40000FFE#32).toNat + 1 < 2 ^ 32 ∧ (0x40000FFE#32).toNat % 2 = 0 := by
  refine ⟨mapped_windowLaw, ?_⟩
  unfold InRange
  decide

/-- A record that disables, one of each inconsistency, one that meets record 3 alone, one that meets
none. -/
theorem witness_WindowSetIsTakenOrRefusedWhole :
    let bad := fun w : Window => w.hostBase.toNat % 2 ^ w.sizeCode.val ≠ 0 ∨ w.localBase.toNat % 4 ≠ 0
      ∨ (w.prefetchable = true ∧ w.isVolatile = true)
    let meets := fun (w : Window) (i j : Fin 16) => j ≠ i ∧ (mapped.windows.get j).enabled = true
      ∧ ∃ a, InRange w a ∧ InRange (mapped.windows.get j) a
    Expected first mapped ∧ Room mapped ∧ WindowLaw mapped.windows ∧ 12 ≤ nextWin.sizeCode.val
      ∧ (nextWin.enabled = true ∧ ¬bad nextWin ∧ ∀ j, ¬meets nextWin 0 j)
      ∧ bad { nextWin with hostBase := 0x40001001#32 } ∧ bad { nextWin with localBase := 2#32 }
      ∧ bad { nextWin with prefetchable := true }
      ∧ (let w := { nextWin with hostBase := 0x40000000#32, sizeCode := 13 }
        ¬bad w ∧ meets w 0 3 ∧ ∀ k, k < 3 → ¬meets w 0 k)
      ∧ ({ nextWin with enabled := false } : Window).enabled = false := by
  intro bad meets
  have only : ∀ j, (mapped.windows.get j).enabled = true → j = 3 := by decide
  have e3 : mapped.windows.get 3 = win := by decide
  refine ⟨mapped_taken.1, mapped_taken.2, mapped_windowLaw, by decide, ⟨rfl, by decide, ?_⟩, by decide,
    by decide, by decide, ⟨by decide, ⟨by decide, by decide, 0x40000FFF#32, ?_⟩, ?_⟩, rfl⟩
  · rintro j ⟨_, he, a, h1, h2⟩
    rw [only j he, e3] at h2
    simp [InRange, nextWin, win] at h1 h2
    omega
  · rw [e3]
    unfold InRange
    decide
  · rintro k hk ⟨_, he, _⟩
    exact absurd (only k he) (by omega)

theorem witness_WindowGetReportsTheRecord :
    Expected first mapped ∧ Room mapped ∧ (15 : Byte) = BitVec.ofNat 8 (15 : Fin 16).val
      ∧ 15 < (16 : Byte).toNat := ⟨mapped_taken.1, mapped_taken.2, by decide⟩

/-- A line to fill; the same line valid; the last line of the window, with no next one; a record that
is no longer enabled. -/
theorem witness_FillTestAsksForTheNextLine :
    acc.prefetchable = true
      ∧ (let w := mapped.windows.get acc.window
        w.enabled = true ∧ w.prefetchable = true ∧ w.port = acc.port
          ∧ w.hostBase.toNat = acc.hostAddr.toNat / 2 ^ w.sizeCode.val * 2 ^ w.sizeCode.val
          ∧ w.localBase + (acc.hostAddr - w.hostBase) = acc.localAddr ∧ 64 ≤ 2 ^ w.sizeCode.val
          ∧ (BitVec.ofNat 32 (acc.localAddr.toNat / 64 * 64 + 64) - w.localBase).toNat
              ≤ 2 ^ w.sizeCode.val - 64
          ∧ (BitVec.ofNat 32 (0x1FBF / 64 * 64 + 64) - w.localBase).toNat = 2 ^ w.sizeCode.val - 64
          ∧ ¬(BitVec.ofNat 32 (0x1FC0 / 64 * 64 + 64) - w.localBase).toNat ≤ 2 ^ w.sizeCode.val - 64)
      ∧ (mapped.ports.get 1).lineValid = false ∧ (mapped.ports.get 1).pendingFill = none
      ∧ (mapped.ports.get 1).txn = none ∧ (up.windows.get acc.window).enabled = false := by decide

/-- A misaligned access, a miss, and a hit that is read-only, has its id in use, or finds no tag. -/
theorem witness_AccessIsRefusedAtTheFirstFailingCheck :
    let body : List Byte := [0x40, 0, 0, 0x10, 4]
    let write : List Byte := [0x40, 0, 0x10, 0x10, 4, 1, 2, 3, 4]
    let hit : Hit := ⟨3, 1, 0x1010#32, false, true, true, false⟩
    (Expected first queued ∧ Room queued ∧ body.length = requiredLength .read body
        ∧ fieldsOk .read body = true ∧ decodeAddr queued.windows (u32 body 0) = some hit
        ∧ ¬Misplaced (u32 body 0) 4 (some hit) ∧ IdInUse queued 0x100#16)
      ∧ Misplaced 0x40000012#32 4 none ∧ ¬Misplaced 0x40000012#32 2 none
      ∧ Misplaced 0x4000003C#32 8 none ∧ ¬Misplaced 0x4000003C#32 4 none
      ∧ decodeAddr mapped.windows 0x40001010#32 = none ∧ mapped.settings.missPolicy = .reply
      ∧ (Expected first guarded ∧ Room guarded ∧ guarded.settings.missPolicy = .hold)
      ∧ (Expected first mappedTwice ∧ write.length = requiredLength .write write
        ∧ (decodeAddr mappedTwice.windows (u32 write 0)).map Hit.readOnly = some true
        ∧ RequestKind.write ≠ .read)
      ∧ (let s : State := { mapped with tags := Table.fill 32 (readTag .discarding) }
        Expected first s ∧ ¬IdInUse s 0x100#16 ∧ ∀ t, (s.tags.get t).state ≠ .free) := by
  intro body write hit
  refine ⟨⟨expected_of rfl rfl, room_of rfl, ?_⟩, ?_, ?_, ?_, ?_, by decide, rfl,
    ⟨expected_of rfl rfl, room_of rfl, rfl⟩, ⟨expected_of rfl rfl, by decide⟩, ⟨expected_of rfl rfl, ?_⟩⟩
  all_goals (try unfold Misplaced)
  all_goals (try unfold IdInUse)
  all_goals decide +kernel

/-- A READ, the lowest FREE tag being 1; a WRITE and a MODIFY of other sizes. -/
theorem witness_AccessIsAdmittedWithATag :
    let s : State := { mapped with tags := mapped.tags.set 0 (readTag .active) }
    let body : List Byte := [0x40, 0, 0, 0x10, 4]
    (Expected first s ∧ Room s)
      ∧ (body.length = requiredLength .read body ∧ fieldsOk .read body = true
        ∧ decodeAddr s.windows (u32 body 0) = some ⟨3, 1, 0x1010#32, false, true, true, false⟩
        ∧ ¬Misplaced (u32 body 0) (u8 body 4).toNat (some ⟨3, 1, 0x1010#32, false, true, true, false⟩)
        ∧ ¬IdInUse s 0x101#16 ∧ LowestFree s 1) := by
  refine ⟨⟨expected_of rfl rfl, room_of rfl⟩, ?_⟩
  unfold Misplaced IdInUse LowestFree
  refine ⟨?_, ?_, ?_, ?_, ?_, ?_, ?_⟩ <;> decide +kernel

/-- A POST that is misplaced, that misses, whose window is read-only, whose window is not postable,
that finds the pool full, and that finds slot 1 the first free one. -/
theorem witness_PostIsAdmittedOrReported :
    let body : List Byte := [0x40, 0, 0, 0x10, 4, 1, 2, 3, 4]
    let full : State := { mapped with pool := Table.fill 32 (some post) }
    Expected first mapped ∧ Expected first guarded ∧ Expected first mappedTwice ∧ Expected first full
      ∧ Expected first posting
      ∧ (body.length = requiredLength .post body ∧ fieldsOk .post body = true
        ∧ (decodeAddr posting.windows (u32 body 0)).map (fun h => (h.readOnly, h.postable)) =
          some (false, true)
        ∧ (∀ k, (full.pool.get k).isSome = true) ∧ posting.pool.get 1 = none
        ∧ (∀ j, j < 1 → (posting.pool.get j).isSome = true))
      ∧ (¬Misplaced 0x40000010#32 4 (decodeAddr posting.windows 0x40000010#32)
        ∧ Misplaced 0x40000011#32 4 none ∧ ¬Misplaced 0x50000000#32 4 none
        ∧ decodeAddr mapped.windows 0x50000000#32 = none ∧ mapped.settings.missPolicy = .reply
        ∧ guarded.settings.missPolicy = .hold)
      ∧ ((decodeAddr mappedTwice.windows 0x40001000#32).map Hit.readOnly = some true
        ∧ (decodeAddr ((up.windows.set 0 { nextWin with readOnly := false })) 0x40001000#32).map
          (fun h => (h.readOnly, h.postable)) = some (false, false)) := by
  refine ⟨expected_of rfl rfl, expected_of rfl rfl, expected_of rfl rfl, expected_of rfl rfl,
    expected_of rfl rfl, ?_⟩
  unfold Misplaced
  refine ⟨⟨?_, ?_, ?_, ?_, ?_, ?_⟩, ⟨?_, ?_, ?_, ?_, ?_, ?_⟩, ?_, ?_⟩ <;> decide +kernel

/-- A live id, no FREE tag, no POST held, a POST held. -/
theorem witness_FenceCoversTheHeldPosts :
    (Expected first queued ∧ Room queued ∧ IdInUse queued 0x100#16)
      ∧ (let s : State := { up with tags := Table.fill 32 (readTag .discarding) }
        ¬IdInUse s 0x100#16 ∧ ∀ t, (s.tags.get t).state ≠ .free)
      ∧ (¬IdInUse up 0x100#16 ∧ LowestFree up 0 ∧ up.pool.rows.countP Option.isSome = 0)
      ∧ (Expected first posting ∧ Room posting ∧ ¬IdInUse posting 0x100#16 ∧ LowestFree posting 0
        ∧ posting.pool.rows.countP Option.isSome ≠ 0) := by
  refine ⟨⟨expected_of rfl rfl, room_of rfl, ?_⟩, ⟨?_, ?_⟩, ⟨?_, ?_, ?_⟩, expected_of rfl rfl, room_of rfl,
    ?_, ?_, ?_⟩
  all_goals (try unfold IdInUse)
  all_goals (try unfold LowestFree)
  all_goals decide +kernel

/-- A READ at the head of list 1 with two POSTs behind it, each in hold-off or not, and a FENCE in WAITING
with its place. -/
def listed (read early : Option Nat) (fence : Nat) : State :=
  { mapped with
    tags := (mapped.tags.set 7 { readTag .queued with holdOff := read }).set 4
      { Tag.zero with state := .waiting, kind := .fence, place := fence }
    pool := (mapped.pool.set 0 (some { post with place := 1, holdOff := early })).set 9
      (some { post with place := 3 })
    lists := mapped.lists.set 1 [.tag 7, .post 0, .post 9], nextPlace := 6 }

/-- A READ that starts from the head of its list, POSTs admitted later behind it; an empty list; a head and
an earliest POST in hold-off and not, a FENCE admitted before the choice and after it; a POST at the head
in hold-off. -/
theorem witness_HostStartsKeepArrivalOrder :
    (let s := listed none none 5
     Entry.tag 7 ∈ s.lists.get 1 ∧ (s.lists.get 1).Pairwise (fun a b => placeOf s a < placeOf s b)
        ∧ (∃ t, exec (.portStart 1) s = .next t ∧ Entry.tag 7 ∉ t.lists.get 1)
        ∧ s.lists.get 0 = [] ∧ ¬HeldOff s (.tag 7) ∧ Unbarred s (.tag 7) ∧ candidate 1 s = some (.tag 7))
    ∧ (let s := listed held1 none 2
      s.lists.get 1 = .tag 7 :: [.post 0, .post 9]
        ∧ (s.lists.get 1).Pairwise (fun a b => placeOf s a < placeOf s b) ∧ HeldOff s (.tag 7)
        ∧ (∀ n, Entry.post n ∈ [Entry.post 0, .post 9] → placeOf s (.post 0) ≤ placeOf s (.post n))
        ∧ Unbarred s (.post 0) ∧ candidate 1 s = some (.post 0))
    ∧ (let s := listed held1 none 0
      HeldOff s (.tag 7) ∧ ¬Unbarred s (.post 0) ∧ candidate 1 s = none)
    ∧ HeldOff (listed held1 held1 5) (.post 0)
    ∧ (let s := { listed held1 held1 5 with lists := mapped.lists.set 1 [.post 0, .post 9] }
      s.lists.get 1 = .post 0 :: [.post 9] ∧ HeldOff s (.post 0))
    ∧ (let s := { listed held1 held1 5 with lists := mapped.lists.set 1 [.tag 7] }
      s.lists.get 1 = .tag 7 :: [] ∧ HeldOff s (.tag 7) ∧ ∀ m, Entry.post m ∉ ([] : List Entry)) := by
  have off : ∀ s k (x : Posted), s.pool.get k = some x → x.holdOff = held1 → HeldOff s (.post k) :=
    fun _ _ x h e => ⟨x, h, by rw [e]; rfl⟩
  unfold Unbarred
  refine ⟨⟨by decide, by decide, ⟨_, rfl, by decide⟩, by decide, by unfold HeldOff; decide, by decide +kernel,
    by decide +kernel⟩, ⟨by decide, by decide, rfl, by decide +kernel, by decide +kernel, by decide +kernel⟩,
    ⟨rfl, by decide +kernel, by decide +kernel⟩, off _ _ _ rfl rfl, ⟨by decide, off _ _ _ rfl rfl⟩, by decide,
    rfl, by simp⟩

theorem witness_AbortActsByTheTargetsState :
    let at_ (st : TagState) : State := tagged (readTag st)
    (Expected first up ∧ Room up ∧ ¬IdInUse up 0x100#16)
      ∧ (∀ st, Expected first (at_ st) ∧ Room (at_ st) ∧ ((at_ st).tags.get 7).state = st)
      ∧ (∀ st ∈ [TagState.queued, .active, .waiting, .ready],
        ((at_ st).tags.get 7).live = true ∧ ((at_ st).tags.get 7).id = 0x100#16
          ∧ ∀ u, ((at_ st).tags.get u).live = true → ((at_ st).tags.get u).id = 0x100#16 → u = 7) := by
  refine ⟨⟨up_taken.1, up_taken.2, ?_⟩, fun st => ⟨expected_of rfl rfl, room_of rfl, rfl⟩, ?_⟩
  · unfold IdInUse; decide +kernel
  · intro st hst
    simp only [List.mem_cons, List.not_mem_nil, or_false] at hst
    rcases hst with rfl | rfl | rfl | rfl <;> decide +kernel

theorem witness_RequestTimersRunOut :
    (tagged (readTag .queued)).pins.resetLow = false
      ∧ (∀ st, ((tagged (readTag st)).tags.get 7).state = st
        ∧ ((tagged (readTag st)).tags.get 7).access = some acc)
      ∧ ((tagged (readTag .queued)).ports.get acc.port).holds = ⟨false, false, false⟩
      ∧ ((up.ports.set 1 { up.ports.get 1 with holds := ⟨false, true, false⟩ }).get acc.port).holds
        ≠ ⟨false, false, false⟩ :=
  ⟨rfl, fun _ => ⟨rfl, rfl⟩, by decide, by decide⟩

theorem witness_ArbiterStartsInOrder :
    ((reading.ports.get 1).txn.isSome = true ∧ reading.pins.resetLow = false)
      ∧ (let x := (withPort (fun x => { x with holds := ⟨true, false, false⟩ }) mapped).ports.get 1
        x.lock = none ∧ x.holds ≠ ⟨false, false, false⟩)
      ∧ (let s := withPort (fun x => { x with lock := some lock1, holds := ⟨true, true, true⟩ })
          (tagged (readTag .active))
        (s.ports.get 1).txn = none ∧ (s.ports.get 1).lock = some lock1
          ∧ (s.tags.get lock1.tag).holdOff = none ∧ (s.tags.get lock1.tag).access = some acc)
      ∧ (let s := withPort (fun x => { x with lock := some lock1 })
          (tagged { readTag .active with holdOff := held1 })
        (s.ports.get 1).txn = none ∧ (s.tags.get lock1.tag).holdOff.isSome = true)
      ∧ (let first := { op1 with source := 9, place := 0, holdOff := held1 }
        let x := (withPort (fun x => { x with opQueue := [first, op1] }) mapped).ports.get 1
        x.txn = none ∧ x.lock = none ∧ x.holds = ⟨false, false, false⟩
          ∧ x.opQueue = [first] ++ op1 :: [] ∧ op1 ∉ [first] ++ [] ∧ (∀ o ∈ [first], o.holdOff.isSome = true)
          ∧ op1.holdOff = none)
      ∧ (let s := withPort (fun x => { x with
            offers := (x.offers.set 0 (some { offer1 with holdOff := held1 })).set 1 (some offer1)
            opQueue := [{ op1 with holdOff := held1 }] }) mapped
        let x := s.ports.get 1
        (∀ o ∈ x.opQueue, o.holdOff.isSome = true) ∧ x.offers.get 1 = some offer1
          ∧ (∀ i : Fin 4, i - (x.lastSlot + 1) < 1 - (x.lastSlot + 1) →
            ∀ o' ∈ x.offers.get i, o'.holdOff.isSome = true)
          ∧ candidate 1 s = none)
      ∧ (let s := withPort (fun x => { x with
            offers := x.offers.set 1 (some offer1), shareCount := 4 }) queued
        candidate 1 s = some (.tag 7)
          ∧ (s.ports.get 1).settings.jobShare.toNat ≤ (s.ports.get 1).shareCount)
      ∧ (let s := withPort (fun x => { x with
            pendingFill := some 0x1040#32
            offers := x.offers.set 1 (some { offer1 with holdOff := held1 }) }) mapped
        let x := s.ports.get 1
        (∀ j, ∀ o ∈ x.offers.get j, o.holdOff.isSome = true) ∧ candidate 1 s = none
          ∧ x.pendingFill = some 0x1040#32)
      ∧ (candidate 1 mapped = none ∧ (mapped.ports.get 1).pendingFill = none) := by
  refine ⟨?_, ?_, ?_, ?_, ?_, ?_, ?_, ?_, ?_⟩ <;> decide

/-- A POST, and a READ, a WRITE and a MODIFY at the head; a chunk waiting with the share count one below
the job share; the line that ends with the READ's last byte, and one that ends before it. -/
theorem witness_HostCandidateStarts :
    let ofKind (k : TagKind) : State := { queued with tags := up.tags.set 7 { readTag .queued with kind := k } }
    let sharing := withPort (fun x => { x with offers := x.offers.set 3 (some offer1), shareCount := 3 }) queued
    let covered (x : Port) : Prop := x.lineValid = true ∧ (acc.localAddr - x.lineAddr).toNat + acc.count ≤ 64
    (let s : State := { mapped with lists := mapped.lists.set 1 [.post 0], pool := mapped.pool.set 0 (some post) }
     candidate 1 s = some (.post 0) ∧ s.pool.get 0 = some post)
    ∧ (∀ k, candidate 1 (ofKind k) = some (.tag 7) ∧ ((ofKind k).tags.get 7).access = some acc
      ∧ ((ofKind k).tags.get 7).kind = k)
    ∧ ((queued.ports.get 1).txn = none ∧ (queued.ports.get 1).lock = none
      ∧ (queued.ports.get 1).holds = ⟨false, false, false⟩ ∧ (queued.ports.get 1).opQueue = []
      ∧ ∀ j, (queued.ports.get 1).offers.get j = none)
    ∧ ((sharing.ports.get 1).offers.get 3 = some offer1 ∧ offer1.holdOff = none
      ∧ (sharing.ports.get 1).shareCount < (sharing.ports.get 1).settings.jobShare.toNat)
    ∧ (covered { up.ports.get 1 with lineValid := true, lineAddr := 0x1010#32 - 60#32 }
      ∧ ¬covered { up.ports.get 1 with lineValid := true, lineAddr := 0x1010#32 - 61#32 }
      ∧ acc.prefetchable = true) := by
  intro ofKind sharing covered
  refine ⟨⟨by decide, by decide⟩, fun k => ⟨?_, rfl, rfl⟩, by decide, by decide, by decide⟩
  cases k <;> decide

/-- A READ with its bytes and a WRITE with none, in every state of the tag. -/
theorem witness_TargetAnswerEndsReadsAndWrites :
    let s (st : TagState) (w : Bool) : State := onPort (txn (.request 7) w)
      (tagged { readTag st with kind := if w then .write else .read })
    let data (w : Bool) : List Byte := if w then [] else [1, 2, 3, 4]
    ∀ st w, (s st w).pins.resetLow = false ∧ ((s st w).ports.get 1).txn = some (txn (.request 7) w)
      ∧ ((s st w).tags.get 7).access = some acc
      ∧ ((txn (.request 7) w).isWrite = false → (data w).length = (txn (.request 7) w).size)
      ∧ ((s st w).tags.get 7).state = st
      ∧ ((s st w).tags.get 7).kind = (if w then .write else .read) := fun _ w => by
  cases w
  · exact ⟨rfl, rfl, rfl, fun _ => rfl, rfl, rfl⟩
  · exact ⟨rfl, rfl, rfl, (fun h => by cases h), rfl, rfl⟩

/-- Retries used one below the captured limit and at it, a silence in a volatile window; a READ, a WRITE
and the halves of a MODIFY in every state of the tag; a POST. -/
theorem witness_RepeatedOutcomesReturnToTheList :
    let s (i : Initiator) (w : Bool) (st : TagState) (n : Nat) (v : Bool) : State :=
      withPort (fun x => { x with txn := some (txn i w), lock := some lock1 })
        (tagged { readTag st with retries := n, access := some { acc with isVolatile := v } })
    (∀ i w st n v, (s i w st n v).pins.resetLow = false
        ∧ ((s i w st n v).ports.get 1).txn = some (txn i w)
        ∧ ((s i w st n v).tags.get 7).access = some { acc with isVolatile := v }
        ∧ ((s i w st n v).tags.get 7).state = st ∧ ((s i w st n v).tags.get 7).retries = n)
    ∧ (∀ i w, 0 < (txn i w).retryLimit.toNat ∧ ¬1 < (txn i w).retryLimit.toNat)
    ∧ ((posting.ports.get 1).txn.map Txn.initiator = some (.post 0) ∧ posting.pool.get 0 = some post
      ∧ post.flushed = false ∧ post.covering = [] ∧ post.isVolatile = false)
    ∧ (let s : State := { posting with pool := up.pool.set 0 (some { post with retries := 1 }) }
      s.pool.get 0 = some { post with retries := 1 }) :=
  ⟨fun _ _ _ _ _ => ⟨rfl, rfl, rfl, rfl, rfl⟩, fun _ _ => ⟨by show 0 < 1; decide, by show ¬1 < 1; decide⟩,
    by decide, by decide⟩

/-- The five commands that end a transaction, against a POST with retries left, with none left, volatile,
and reached by a FLUSH; no FENCE, and two FENCEs, of which one covers a POST more. -/
theorem witness_PostEndsAndFenceCounts :
    let q : Txn := { txn (.post 0) true with data := [1, 2, 3, 4] }
    let fenced (y : Posted) : State :=
      { posting with
        pool := up.pool.set 0 (some { y with covering := [4, 2] })
        tags := (up.tags.set 4 { Tag.zero with state := .waiting, kind := .fence, outstanding := 1 }).set 2
          { Tag.zero with state := .waiting, kind := .fence, outstanding := 2 } }
    (posting.pins.resetLow = false ∧ (posting.ports.get 1).txn = some q ∧ q.initiator = .post 0
      ∧ q.isWrite = true ∧ posting.pool.get 0 = some post ∧ post.flushed = false ∧ post.covering = [])
    ∧ ((∀ r, EndsTxn 1 (.targetAnswer 1 r)) ∧ EndsTxn 1 (.responseLimitExpiry 1))
    ∧ (¬Repeated (.targetAnswer 1 (.accept [])) q false 0 ∧ ¬Repeated (.targetAnswer 1 .error) q false 0
      ∧ Repeated (.targetAnswer 1 .retry) q true 0 ∧ Repeated (.responseLimitExpiry 1) q false 0
      ∧ ¬Repeated (.targetAnswer 1 .retry) q false 1 ∧ ¬Repeated (.responseLimitExpiry 1) q true 0)
    ∧ (∀ y, (fenced y).pool.get 0 = some { y with covering := [4, 2] }
      ∧ ((fenced y).ports.get 1).txn = some q ∧ ((fenced y).tags.get 4).outstanding = 1
      ∧ ((fenced y).tags.get 2).outstanding = 2)
    ∧ ([4, 2] : List (Fin 32)).Nodup
    ∧ (∀ t ∈ ([4, 2] : List (Fin 32)), ((fenced post).tags.get t).state = .waiting
      ∧ 0 < ((fenced post).tags.get t).outstanding)
    ∧ ({ post with flushed := true } : Posted).flushed = true := by
  refine ⟨by decide, ⟨fun r => .inr ⟨r, rfl⟩, .inl rfl⟩, ⟨?_, ?_, ⟨by decide, .inl ⟨1, rfl⟩⟩,
    ⟨by decide, .inr ⟨⟨1, rfl⟩, rfl⟩⟩, fun h => absurd h.1 (by decide), ?_⟩, fun _ => ⟨rfl, rfl, rfl, rfl⟩,
    by decide, by decide, rfl⟩
  all_goals rintro ⟨_, ⟨p, h⟩ | ⟨⟨p, h⟩, hv⟩⟩ <;> first | (cases h; done) | cases hv

/-- Each half of a MODIFY, of every size, with its tag in every state; the read half's bytes. -/
theorem witness_ModifyReadsLocksAndWrites :
    let s (i : Initiator) (w : Bool) (n : Nat) (st : TagState) : State := onPort { txn i w with size := n }
      (tagged { readTag st with kind := .modify, access := some { acc with count := n } })
    ∀ i w n st, (s i w n st).pins.resetLow = false
      ∧ ((s i w n st).ports.get 1).txn = some { txn i w with size := n }
      ∧ ((s i w n st).tags.get 7).access = some { acc with count := n }
      ∧ ((s i w n st).tags.get 7).state = st
      ∧ (List.replicate n (0 : Byte)).length = n := fun _ _ _ _ =>
  ⟨rfl, rfl, rfl, rfl, List.length_replicate⟩

/-- A fill with the void mark and without; a write in the block of the valid line, which it leaves
invalid, and one in the block before it, which leaves it valid. -/
theorem witness_LineIsSetByFillsAndDiscardedByWrites :
    let filling := onPort { txn .fill false with size := 64 } mapped
    let written (a : Word) := withPort (fun x => { x with lineValid := true, lineAddr := a }) posting
    (filling.pins.resetLow = false ∧ (filling.ports.get 1).txn.map Txn.size = some 64
      ∧ (filling.ports.get 1).voidMark = false)
    ∧ ((withPort (fun x => { x with voidMark := true }) filling).ports.get 1).voidMark = true
    ∧ (∀ a, (written a).pins.resetLow = false
      ∧ ((written a).ports.get 1).txn = some { txn (.post 0) true with data := [1, 2, 3, 4] })
    ∧ (∃ t, exec (.targetAnswer 1 .retry) (written 0x1040#32) = .next t ∧ (t.ports.get 1).lineValid = true)
    ∧ (∃ t, exec (.targetAnswer 1 .retry) (written 0x1000#32) = .next t
      ∧ (t.ports.get 1).lineValid = false) :=
  ⟨by decide, by decide, fun _ => ⟨rfl, rfl⟩, ⟨_, rfl, by decide⟩, ⟨_, rfl, by decide⟩⟩

/-- The first chunk of a FILL, of a COPY and of a CHECK. -/
theorem witness_NextChunkIsLaidOutAndOffered :
    let src : RangeDecode := ⟨3, 1, 0x1100#32, false, true, false, true⟩
    let dst : RangeDecode := ⟨3, 1, 0x1200#32, false, true, false, true⟩
    let s (k : JobKind) : State := withSlot
      { slot .running with active := some (job k), run := some ⟨some src, some dst⟩ }
    ∀ k, ((s k).jobs.get 2).state = .running ∧ ((s k).jobs.get 2).chunk = none
      ∧ ((s k).jobs.get 2).active = some (job k) ∧ ((s k).jobs.get 2).run = some ⟨some src, some dst⟩
      ∧ 0 < ((s k).jobs.get 2).bytesLeft ∧ (job k).kind = k := fun _ =>
  ⟨rfl, rfl, rfl, rfl, by show 0 < 256; decide, rfl⟩

/-- A range that ends with its window, one that runs out of it, one in no window, a read-only
destination. -/
theorem witness_JobStartIsValidated :
    let d : Descriptor := { job .copy with source := 0x40000F00#32 }
    let inside := fun (a : Word) (n : Nat) (i : Fin 16) => (mappedTwice.windows.get i).enabled = true
      ∧ InRange (mappedTwice.windows.get i) a
      ∧ a.toNat + n ≤ (mappedTwice.windows.get i).hostBase.toNat + 2 ^ (mappedTwice.windows.get i).sizeCode.val
    WindowLaw mappedTwice.windows ∧ 0 < d.length.toNat ∧ d.kind ≠ .fill
      ∧ inside d.source d.length.toNat 3 ∧ inside d.destination d.length.toNat 3
      ∧ (mappedTwice.windows.get 3).readOnly = false
      ∧ (∀ i, ¬inside 0x40000F01#32 d.length.toNat i) ∧ (∀ i, ¬inside 0x50000000#32 4 i)
      ∧ inside 0x40001000#32 4 0 ∧ (mappedTwice.windows.get 0).readOnly = true := by
  refine ⟨mappedTwice_windowLaw, ?_⟩
  unfold InRange
  refine ⟨?_, ?_, ?_, ?_, ?_, ?_, ?_, ?_, ?_⟩ <;> decide +kernel

/-- A JOB-LOAD without and with start-on-load, into a slot in every state; a JOB-START of a job that
validates and of one that does not. -/
theorem witness_JobLoadAndStart :
    let body : List Byte := [2, 1, 0] ++ be32 0 ++ be32 0x40000200#32 ++ be32 256 ++ [64] ++ be32 0
    let started : List Byte := [2, 1, 1] ++ be32 0 ++ be32 0x40000200#32 ++ be32 256 ++ [64] ++ be32 0
    let bad : List Byte := [2, 1, 1] ++ be32 0 ++ be32 0x50000000#32 ++ be32 256 ++ [64] ++ be32 0
    (∀ st, Expected first (withSlot (slot st)) ∧ Room (withSlot (slot st))
        ∧ ((withSlot (slot st)).jobs.get 2).state = st
        ∧ ((withSlot (slot st)).jobs.get 2).active = some (job .fill))
      ∧ (∀ b ∈ [body, started, bad], b.length = 20 ∧ fieldsOk .jobLoad b = true
        ∧ b.head? = some (BitVec.ofNat 8 (2 : Fin 4).val))
      ∧ ((descriptorOf body).startOnLoad = false ∧ (descriptorOf started).startOnLoad = true
        ∧ (descriptorOf bad).startOnLoad = true)
      ∧ validate mapped.windows (descriptorOf started) = .ok fillRun
      ∧ validate mapped.windows (descriptorOf bad) = .error ⟨.unmapped, 0x50000000#32⟩
      ∧ validate mapped.windows (job .fill) = .ok fillRun
      ∧ validate up.windows (job .fill) = .error ⟨.unmapped, 0x40000200#32⟩ :=
  ⟨fun _ => ⟨expected_of rfl rfl, room_of rfl, rfl, rfl⟩, by decide, by decide, by rfl, by rfl, by rfl, by rfl⟩

/-- A RUNNING slot with its chunk in flight, one with its chunk only offered, and every other state. -/
theorem witness_JobPauseResumeAndStop :
    let chunk (started : Bool) : Chunk := ⟨64, 0, 0x1200#32, .write, started⟩
    (∀ x, Expected first (withSlot x) ∧ Room (withSlot x) ∧ (withSlot x).jobs.get 2 = x)
      ∧ (∃ c, ({ slot .running with chunk := some (chunk true) } : JobSlot).chunk = some c
        ∧ c.started = true)
      ∧ (¬∃ c, ({ slot .running with chunk := some (chunk false) } : JobSlot).chunk = some c
        ∧ c.started = true)
      ∧ ∀ st, (slot st).state = st := by
  refine ⟨fun _ => ⟨expected_of rfl rfl, room_of rfl, rfl⟩, ⟨_, rfl, rfl⟩, ?_, fun _ => rfl⟩
  rintro ⟨c, h, hc⟩
  cases h
  cases hc

/-- Nothing staged; a staged descriptor that is only loaded, one that validates and one that fails. -/
theorem witness_JobEndsInOrder :
    let staged (d : Descriptor) : State := withSlot { slot .running with staged := some d }
    (∀ e : JobState, e = .done ∨ e = .stopped ∨ e = .failed →
        ((withSlot (slot .running)).jobs.get 2).active = some (job .fill))
      ∧ ((withSlot (slot .running)).jobs.get 2).staged = none
      ∧ (∀ d, ((staged d).jobs.get 2).staged = some d ∧ ((staged d).jobs.get 2).active = some (job .fill)
        ∧ (staged d).windows = mapped.windows)
      ∧ (job .fill).startOnLoad = false
      ∧ validate mapped.windows { job .fill with startOnLoad := true } = .ok fillRun
      ∧ validate mapped.windows { job .fill with startOnLoad := true, destination := 0x50000000#32 } =
        .error ⟨.unmapped, 0x50000000#32⟩ :=
  ⟨fun _ _ => rfl, rfl, fun _ => ⟨rfl, rfl, rfl⟩, rfl, by rfl, by rfl⟩

/-- A chunk of 64 bytes on port 1, a read with its bytes or a write with none, in every state of its slot,
with as much left and with more, the flush mark set or not, with and without a staged descriptor; outcomes
that are repeated and outcomes that are not. -/
theorem witness_ChunkEndsAdvanceTheJob :
    let o (w : Bool) : Offer := ⟨w, 0x1200#32, 64, List.replicate 64 0, false, 0, none, true⟩
    let q (w : Bool) : Txn := { txn (.chunk 2 (o w)) w with size := 64, localAddr := 0x1200#32 }
    let c : Chunk := ⟨64, 0x1200#32, 0x1200#32, .write, true⟩
    let range : RangeDecode := ⟨3, 1, 0x1200#32, false, true, false, true⟩
    let run : RunDecode := ⟨some range, some range⟩
    let s (w : Bool) (k : JobKind) (st : JobState) (n : Nat) (m : Bool) (d : Option Descriptor) : State :=
      onPort (q w) (withSlot { slot st with
        active := some (job k), run := some run, chunk := some c, bytesLeft := n, flushMark := m
        staged := d })
    (∀ w k st n m d, let t := s w k st n m d
      t.pins.resetLow = false ∧ (t.ports.get 1).txn = some (q w)
      ∧ (q w).isWrite = (o w).isWrite ∧ (q w).size = (o w).size ∧ (q w).localAddr = (o w).localAddr
      ∧ (t.jobs.get 2).active = some (job k) ∧ (t.jobs.get 2).chunk = some c
      ∧ (t.jobs.get 2).flushMark = m ∧ (t.jobs.get 2).run = some run
      ∧ (t.jobs.get 2).state = st ∧ (t.jobs.get 2).bytesLeft = n
      ∧ (t.jobs.get 2).staged = d ∧ (job k).notify = false ∧ (job k).kind = k)
    ∧ ((q false).isWrite = false → (List.replicate 64 (0 : Byte)).length = (q false).size)
    ∧ ((q true).isWrite = false → ([] : List Byte).length = (q true).size) ∧ 64 < 68
    ∧ (∀ w, (EndsTxn 1 (.targetAnswer 1 .retry) ∧ Repeated (.targetAnswer 1 .retry) (q w) false 0)
      ∧ (EndsTxn 1 (.responseLimitExpiry 1) ∧ endsOk (.responseLimitExpiry 1) = false
        ∧ ¬Repeated (.responseLimitExpiry 1) (q w) false 1)
      ∧ (EndsTxn 1 (.targetAnswer 1 .error) ∧ ¬Repeated (.targetAnswer 1 .error) (q w) false 0)) := by
  refine ⟨fun _ _ _ _ _ _ => ⟨rfl, rfl, rfl, rfl, rfl, rfl, rfl, rfl, rfl, rfl, rfl, rfl, rfl, rfl⟩,
    fun _ => List.length_replicate, (fun h => by cases h), by decide, fun w =>
    ⟨⟨.inr ⟨_, rfl⟩, ?_, .inl ⟨1, rfl⟩⟩, ⟨.inl rfl, rfl, fun h => absurd h.1 ?_⟩, .inr ⟨_, rfl⟩, ?_⟩⟩
  · show 0 < 1
    decide
  · show ¬1 < 1
    decide
  · rintro ⟨_, ⟨p, h⟩ | ⟨⟨p, h⟩, _⟩⟩ <;> cases h

/-- An enabling request, one with an address that is no multiple of its size, and a disabling one, each
with the source in every state; with the line high the IDLE source is ripe. -/
theorem witness_IrqSetReplacesTheConfiguration :
    let enabling : List Byte := [20, 1, 0, 2, 1, 0, 0, 0, 0x10, 4, 1, 0, 0, 0, 0x20, 0, 0, 0, 1, 2]
    let odd : List Byte := [20, 1, 0, 2, 1, 0, 0, 0, 0x12, 4, 0, 0, 0, 0, 0, 0, 0, 0, 0, 0]
    let disabling : List Byte := [20, 0, 0, 0, 0, 0, 0, 0, 0, 0, 0, 0, 0, 0, 0, 0, 0, 0, 0, 0]
    (∀ st, Expected first (withSource (source st)) ∧ Room (withSource (source st))
        ∧ ((withSource (source st)).sources.get 20).state = st)
      ∧ (∀ b ∈ [enabling, odd, disabling], b.length = 20 ∧ fieldsOk .irqSet b = true
        ∧ b.head? = some (BitVec.ofNat 8 (20 : Fin 32).val))
      ∧ (u8 enabling 1 = 1 ∧ u8 enabling 2 = 0 ∧ (u32 enabling 5).toNat % (u8 enabling 9).toNat = 0
        ∧ (u32 enabling 11).toNat % (u8 enabling 19).toNat = 0)
      ∧ (u8 odd 1 = 1 ∧ u8 odd 4 = 1 ∧ (u32 odd 5).toNat % (u8 odd 9).toNat ≠ 0)
      ∧ u8 disabling 1 ≠ 1
      ∧ (let s : State := { withSource { source .idle with trigger := .level } with
            pins := { up.pins with lines := up.pins.lines.set 20 true } }
        Ripe s 20)
      ∧ ¬Ripe (withSource (source .idle)) 20 := by
  refine ⟨fun _ => ⟨expected_of rfl rfl, room_of rfl, rfl⟩, by decide, by decide, by decide, by decide, ?_, ?_⟩
  all_goals
    unfold Ripe
    decide

theorem witness_IrqMaskActsByTheSourcesState :
    (∀ st, Expected first (withSource (source st)) ∧ Room (withSource (source st))
        ∧ ((withSource (source st)).sources.get 20).state = st)
      ∧ Ripe (withSource { source .idle with latch := true }) 20
      ∧ ¬Ripe (withSource (source .idle)) 20
      ∧ (let s := withSource { source .pending with vectorRead := some ⟨0x40#32, 4⟩ }
        (s.sources.get 20).state = .pending ∧ (s.sources.get 20).vectorRead.isSome = true)
      ∧ (let s := withSource (source .pending)
        (s.sources.get 20).state = .pending ∧ (s.sources.get 20).vectorRead = none) := by
  refine ⟨fun _ => ⟨expected_of rfl rfl, room_of rfl, rfl⟩, ?_, ?_, by decide, by decide⟩
  all_goals
    unfold Ripe
    decide

theorem witness_IrqDoneClosesTheCycle :
    (∀ x, Expected first (withSource x) ∧ Room (withSource x) ∧ (withSource x).sources.get 20 = x)
      ∧ (source .notified).state = .notified ∧ (source .notified).ackWrite = some ⟨0x1F#32, 0x55#32, 1⟩
      ∧ (source .due).state ≠ .notified
      ∧ (let x : Source := { source .notified with ackWrite := none }
        x.state = .notified ∧ x.ackWrite = none
          ∧ Ripe (withSource { x with state := .idle, latch := true }) 20
          ∧ ¬Ripe (withSource { x with state := .idle }) 20) := by
  refine ⟨fun _ => ⟨expected_of rfl rfl, room_of rfl, rfl⟩, ?_⟩
  unfold Ripe
  decide

/-- A vector read with its bytes and an acknowledge write with none, of source 8, of every size, reached by
a FLUSH or not; outcomes that are repeated and outcomes that are not; a source that is ripe once its
operation is over, and one that is not. -/
theorem witness_InterruptOperationEnds :
    let op (w m : Bool) (n : Nat) : IrqOp := { op1 with isWrite := w, size := n, flushed := m }
    let q (w m : Bool) (n : Nat) : Txn := { txn (.operation (op w m n)) w with size := n }
    let s (w m : Bool) (n : Nat) : State := onPort (q w m n) up
    (∀ w m n, (s w m n).pins.resetLow = false ∧ ((s w m n).ports.get 1).txn = some (q w m n)
        ∧ (op w m n).flushed = m ∧ (q w m n).isWrite = (op w m n).isWrite
        ∧ (q w m n).size = (op w m n).size ∧ (q w m n).initiator = .operation (op w m n))
      ∧ (∀ m, ∀ n ∈ [1, 2, 4], (q false m n).isWrite = false →
        (List.replicate n (0 : Byte)).length = (op false m n).size ∧ (List.replicate n (0 : Byte)).length ≤ 4)
      ∧ (∀ m n, (q true m n).isWrite = false →
        ([] : List Byte).length = (op true m n).size ∧ ([] : List Byte).length ≤ 4)
      ∧ (∀ w m n, (EndsTxn 1 (.targetAnswer 1 .retry) ∧ Repeated (.targetAnswer 1 .retry) (q w m n) true 0)
        ∧ ¬Repeated (.targetAnswer 1 .retry) (q w m n) true 1
        ∧ (EndsTxn 1 (.responseLimitExpiry 1) ∧ ¬Repeated (.responseLimitExpiry 1) (q w m n) true 0))
      ∧ ¬Ripe up 8
      ∧ (let t : State := { up with
            pins := { up.pins with lines := up.pins.lines.set 8 true }
            sources := up.sources.set 8 { Source.zero with enabled := true } }
        Ripe t 8) := by
  refine ⟨fun _ _ _ => ⟨rfl, rfl, rfl, rfl, rfl, rfl⟩, fun _ n hn _ => ⟨List.length_replicate, ?_⟩,
    (fun _ _ h => by cases h), fun w m n => ⟨⟨.inr ⟨_, rfl⟩, ?_, .inl ⟨1, rfl⟩⟩, fun h => absurd h.1 ?_,
      .inl rfl, ?_⟩, ?_, ?_⟩
  · rw [List.length_replicate]
    simp at hn
    omega
  · show 0 < 1
    decide
  · show ¬1 < 1
    decide
  · rintro ⟨_, ⟨p, h⟩ | ⟨_, hv⟩⟩
    · cases h
    · cases hv
  all_goals
    unfold Ripe
    decide

theorem witness_QueriesReportAndChangeNothing : Expected first reading ∧ Room reading :=
  ⟨expected_of rfl rfl, room_of rfl⟩

/-- Port settings at both ends of their ranges. -/
theorem witness_SettingsRequestsTakeTheirFields :
    Expected first up ∧ Room up ∧ (1 : Byte) ≠ 0
      ∧ (∀ v ∈ [(⟨1, 0, 1, 1, 1⟩ : PortSettings), ⟨255, 15, 255, 65535, 15⟩], v.responseLimit ≠ 0
        ∧ v.retryLimit.toNat ≤ 15 ∧ v.retryDelay ≠ 0 ∧ v.completionLimit ≠ 0 ∧ v.jobShare ≠ 0
        ∧ v.jobShare.toNat ≤ 15) := ⟨up_taken.1, up_taken.2, by decide⟩

/-- A queued POST and one on its port, tags in every state, a fill in progress; a chunk on its port and one
that is only offered; LEVEL sources whose line is high, masked, with a vector read and without, and one
whose operation is in progress. -/
theorem witness_FlushClearsTheTransactionState :
    let s : State :=
      { onPort (txn (.post 0) true) queued with
        pool := (mapped.pool.set 0 (some post)).set 1 (some post)
        lists := queued.lists.set 1 [.tag 7, .post 1] }
    let chunk (b : Bool) : Offer := { offer1 with started := b }
    let busy : State := onPort (txn (.chunk 2 (chunk true)) true) (withSlot (slot .running))
    let lines (x : Source) : State :=
      { onPort (txn (.operation { op1 with source := 9 }) true) up with
        pins := { up.pins with lines := Table.fill 32 true }
        sources := Table.fill 32 { x with enabled := true } }
    (Expected first s ∧ Room s)
      ∧ ((∃ p, Entry.post 1 ∈ s.lists.get p) ∧ (∀ p, Entry.post 0 ∉ s.lists.get p))
      ∧ (∀ st, ((tagged (readTag st)).tags.get 7).state = st)
      ∧ ((onPort (txn .fill false) up).ports.get 1).txn.map Txn.initiator = some .fill
      ∧ ((busy.jobs.get 2).state = .running ∧ (busy.ports.get 1).txn = some (txn (.chunk 2 (chunk true)) true))
      ∧ (let t := withPort (fun x => { x with offers := x.offers.set 2 (some (chunk false)) })
          (withSlot (slot .running))
        (t.jobs.get 2).state = .running ∧ (t.ports.get 1).txn = none
          ∧ ((t.ports.get 1).offers.get 2).map Offer.started = some false)
      ∧ (∀ x i, let y := (lines x).sources.get i
        y = { x with enabled := true } ∧ (lines x).pins.lines.get i = true)
      ∧ ((lines Source.zero).ports.get 1).txn.map Txn.initiator = some (.operation { op1 with source := 9 }) := by
  refine ⟨⟨expected_of rfl rfl, room_of rfl⟩, ?_, fun _ => rfl, by decide, by decide, by decide,
    fun x i => ⟨by simp, ?_⟩, by decide⟩
  · decide
  · show (Table.fill 32 true).get i = true
    simp

/-- An empty record, a full one; a mode that does not admit ACCESS-FAILED. -/
theorem witness_ReportedFaultIsCountedAndCaptured :
    (up.settings.recordMode = .all ∧ up.faults.record = none)
      ∧ (∃ r, (faulted up .linkDown ⟨.timeout, none, none, none, none, none, none⟩).record = some r)
      ∧ ¬(({ up.settings with recordMode := .severe } : Settings).recordMode = .all
        ∨ FaultKind.accessFailed ≠ .accessFailed) :=
  ⟨by decide, ⟨_, rfl⟩, by decide⟩

/-- A full record with its notice in every state, the frame of a FAULT-NOTICE, and the least flag that is
refused. -/
theorem witness_FaultGetReportsAndFaultClearClears :
    (∀ n : NoticeState, let s : State := { up with
        faults := { faulted up .linkDown ⟨.timeout, none, none, none, none, none, none⟩ with notice := n } }
      Expected first s ∧ Room s ∧ s.faults.notice = n ∧ s.faults.record.isSome = true)
    ∧ (∀ u, (⟨0, ⟨[], .faultNotice⟩, false⟩ : Sent).message.carries = .faultNotice
      ∧ ({ up with faults := u } : State).faults = u)
    ∧ 1 < (2 : Byte).toNat :=
  ⟨fun _ => ⟨expected_of rfl rfl, room_of rfl, rfl, rfl⟩, fun _ => ⟨rfl, rfl⟩, by decide⟩

/-- A READ with the largest SEQ, and a RESET of each scope. -/
theorem witness_HostFramesRoundTrip :
    let i : Instr := .read ⟨63, 63, 255, 255⟩ 0xFFFF#16 [0x40, 0, 0, 0x10, 64]
    (i.wellFormed = true ∧ encodeHostFrame i =
        some [1, 63, 63, 255, 255, 0x10, 255, 255, 0x40, 0, 0, 0x10, 64]
      ∧ (∀ f k id b, i ≠ .hostDataFrameNotTaken f k id b) ∧ (∀ f x, i ≠ .rateChange f x)
      ∧ ∀ e, i ≠ .fullResetCarriedOut e)
    ∧ ((Instr.resetFull first 1 [1]).wellFormed = true
      ∧ encodeHostFrame (.resetFull first 1 [1]) = some [1, 0, 63, 0, 0, 0x25, 0, 1, 1])
    ∧ ((Instr.resetFlush first 1 [0]).wellFormed = true
      ∧ encodeHostFrame (.resetFlush first 1 [0]) = some [1, 0, 63, 0, 0, 0x25, 0, 1, 0]) := by
  refine ⟨⟨by decide, by decide, ?_, ?_, ?_⟩, by decide, by decide⟩
  all_goals
    intros
    exact Instr.noConfusion

/-! ## Witnesses of the laws: states with something in them, and a step that they take -/

theorem witness_WindowLawIsKeptByEveryStep :
    WindowLaw mappedTwice.windows ∧ ∃ t, step mappedTwice = .next t :=
  ⟨mappedTwice_windowLaw, _, rfl⟩

/-- A READ queued, one READY, one whose result is dropped. -/
theorem witness_TagLawIsKeptByEveryStep :
    let s : State :=
      { queued with
        tags := (queued.tags.set 9 { readTag .ready with id := 0x101#16 }).set 0 (readTag .discarding)
        ready := [9], pending := [.portStart 1] }
    TagLaw s ∧ ∃ t, step s = .next t := by
  refine ⟨⟨by decide, by decide +kernel, by decide +kernel, by decide +kernel, by decide +kernel⟩, _, rfl⟩

/-- A POST on its port, one in its list with a READ behind it, and a FENCE that covers both POSTs. -/
def fenced2 : State :=
  { posting with
    pool := (up.pool.set 0 (some { post with covering := [4] })).set 5
      (some { post with covering := [4], place := 1 })
    tags := (up.tags.set 7 { readTag .queued with place := 3 }).set 4
      { Tag.zero with
        state := .waiting, kind := .fence, covered := 2, outstanding := 2, place := 2 }
    lists := up.lists.set 1 [.post 5, .tag 7], nextPlace := 4
    pending := [.targetAnswer 1 (.accept [])] }

theorem fenced2_order : OrderLaw fenced2 := by
  have below : ∀ k, ∀ x ∈ fenced2.pool.get k, x.place < fenced2.nextPlace := by decide +kernel
  have posts : ∀ k l, ∀ x ∈ fenced2.pool.get k, ∀ y ∈ fenced2.pool.get l, x.place = y.place → k = l := by
    decide +kernel
  have apart : ∀ t k, (fenced2.tags.get t).state ≠ .free → ∀ x ∈ fenced2.pool.get k,
      (fenced2.tags.get t).place ≠ x.place := by decide +kernel
  exact ⟨by decide +kernel, by decide +kernel, below, by decide +kernel,
    fun k l x y hx hy => posts k l x hx y hy, fun t k x ht hx => apart t k ht x hx⟩

theorem fenced2_fence : FenceLaw fenced2 := by
  have waiting : ∀ k, ∀ x ∈ fenced2.pool.get k, ∀ t ∈ x.covering,
      (fenced2.tags.get t).state = .waiting := by decide +kernel
  have ordered : ∀ k, ∀ x ∈ fenced2.pool.get k, x.covering.Pairwise fun t u =>
      (fenced2.tags.get t).place < (fenced2.tags.get u).place := by decide +kernel
  exact ⟨waiting, ordered, by decide +kernel, by decide +kernel⟩

theorem witness_PostLawIsKeptByEveryStep :
    TagLaw fenced2 ∧ PostLaw fenced2 ∧ OrderLaw fenced2 ∧ FenceLaw fenced2
      ∧ ∃ t, step fenced2 = .next t := by
  refine ⟨⟨by decide, by decide +kernel, by decide +kernel, by decide +kernel, by decide +kernel⟩, ?_,
    fenced2_order, fenced2_fence, _, rfl⟩
  unfold PostLaw
  decide +kernel

theorem witness_LinkLawIsKeptByEveryStep :
    LinkLaw (sent aReply) ∧ ∃ t, step (sent aReply) = .next t := ⟨sent_linkLaw _, _, rfl⟩

/-- A COPY whose chunk is in flight, and a FILL whose chunk is offered. -/
def jobs2 : State :=
  { withPort (fun x => { x with
      txn := some { txn (.chunk 2 ⟨false, 0x1100#32, 64, [], false, 0, none, true⟩) false with
        size := 64, localAddr := 0x1100#32 }
      offers := x.offers.set 0 (some offer1) }) mapped with
    jobs := (mapped.jobs.set 2 { slot .pausing with
        active := some (job .copy), bytesDone := 192, bytesLeft := 64
        chunk := some ⟨64, 0x1100#32, 0x1200#32, .read, true⟩ }).set 0 { slot .running with
      chunk := some ⟨64, 0, 0x1200#32, .write, false⟩, run := some fillRun }
    pending := [.targetAnswer 1 .retry] }

theorem witness_JobLawIsKeptByEveryStep : JobLaw jobs2 ∧ ∃ t, step jobs2 = .next t := by
  have progress : ∀ j, ∀ d ∈ (jobs2.jobs.get j).active,
      (jobs2.jobs.get j).bytesDone + (jobs2.jobs.get j).bytesLeft = d.length.toNat := by decide
  have chunk : ∀ j, ∀ c ∈ (jobs2.jobs.get j).chunk,
      c.length ≤ (jobs2.jobs.get j).bytesLeft ∧ (jobs2.jobs.get j).state.isStarted = true := by decide
  have size : ∀ j, ∀ o ∈ outstanding jobs2 j, ∃ c ∈ (jobs2.jobs.get j).chunk, c.length = o.size := by
    decide +kernel
  have started : ∀ j p, ∀ o ∈ runningChunk j (jobs2.ports.get p),
      ∃ c ∈ (jobs2.jobs.get j).chunk, c.started = true := by decide +kernel
  exact ⟨⟨progress, chunk, by decide, by decide, by decide +kernel, size, started⟩, _, rfl⟩

/-- Source 8 FETCHING with its read queued, source 9 ACKING with its write on the port, source 16 IDLE with
an operation that a FLUSH has reached, source 31 SENT. -/
theorem witness_JobLawIsKept_sources :
    let s : State :=
      { withPort (fun x => { x with
            opQueue := [{ op1 with isWrite := false }]
            txn := some (txn (.operation { op1 with source := 9 }) true) }) up with
        sources := (((up.sources.set 8 { source .fetching with inFlight := true }).set 9
          { source .acking with inFlight := true }).set 16 { source .idle with inFlight := true }).set 31
          { source .sent with sentCount := some 1 }
        pending := [.targetAnswer 1 (.accept [])] }
    let t : State := { s with ports := s.ports.set 2 { s.ports.get 2 with
      txn := some (txn (.operation { op1 with source := 16, flushed := true }) true) } }
    SourceLaw t ∧ ∃ u, step t = .next u := by
  refine ⟨⟨by decide +kernel, by decide +kernel, by decide +kernel, by decide +kernel, by decide +kernel,
    by decide +kernel, by decide +kernel⟩, _, rfl⟩

/-- A captured fault whose notice was sent, with another one captured since. -/
theorem witness_FaultLawIsKeptByEveryStep :
    let s : State :=
      { up with
        faults := { faulted up .linkDown ⟨.timeout, none, none, none, none, none, none⟩ with
          notice := .sent, renewal := true } }
    FaultLaw s.faults ∧ ∃ t, step s = .next t := by
  refine ⟨⟨by decide, by decide, fun r h => ?_⟩, _, rfl⟩
  cases h
  decide

end Sys2Proof.Tests
end

/-! # Address windows (01): translation and WINDOW-GET

What a decode answers under the window law, what translation keeps of an address, and what WINDOW-GET
reports. -/

namespace Sys2Proof.Proofs.AddressWindows

open Sys2Proof.Machine Sys2Proof.Safety

/-! ## Decode (01 R4) -/

theorem hits_iff {t : Table Window 16} (law : WindowLaw t) (i : Fin 16) (a : Word) :
    (t.get i).hits a = true ↔ (t.get i).enabled = true ∧ InRange (t.get i) a := by
  rw [Window.hits, Bool.and_eq_true]
  exact and_congr_right fun he => covers_iff (law.aligned i he).1 a

theorem hits_of_decodeIndex {t : Table Window 16} {a : Word} {i : Fin 16}
    (found : decodeIndex t a = some i) : (t.get i).hits a = true :=
  List.find?_some (p := fun j => (t.get j).hits a) found

/-- No two enabled ranges meet (01 R9), so the first record that an address hits is the only one. -/
theorem decodeIndex_eq_some_iff {t : Table Window 16} (law : WindowLaw t) (i : Fin 16) (a : Word) :
    decodeIndex t a = some i ↔ (t.get i).enabled = true ∧ InRange (t.get i) a := by
  rw [← hits_iff law]
  constructor
  · exact hits_of_decodeIndex
  · intro hit
    have isSome : (decodeIndex t a).isSome = true :=
      List.find?_isSome.mpr ⟨i, Table.mem_indices i, hit⟩
    obtain ⟨j, found⟩ := Option.isSome_iff_exists.mp isSome
    obtain ⟨hi, ri⟩ := (hits_iff law i a).mp hit
    obtain ⟨hj, rj⟩ := (hits_iff law j a).mp (hits_of_decodeIndex found)
    have only : j = i := by
      by_contra ne
      exact law.disjoint j i ne hj hi a ⟨rj, ri⟩
    rw [found, only]

/-- The window and the local address of a decode that hits. -/
theorem decodeAddr_hit {t : Table Window 16} {a : Word} {h : Hit} (hit : decodeAddr t a = some h) :
    decodeIndex t a = some h.window ∧ h.localAddr = (t.get h.window).translate a := by
  obtain ⟨i, found, rfl⟩ := Option.map_eq_some_iff.mp hit
  exact ⟨found, rfl⟩

theorem decodeAddr_of_decodeIndex {t : Table Window 16} {a : Word} {i : Fin 16}
    (found : decodeIndex t a = some i) :
    ∃ h, decodeAddr t a = some h ∧ h.localAddr = (t.get i).translate a :=
  ⟨_, Option.map_eq_some_iff.mpr ⟨i, found, rfl⟩, rfl⟩

/-! ## Translation (01 R5) -/

theorem translate_add (w : Window) (a k : Word) : w.translate (a + k) = w.translate a + k := by
  simp only [Window.translate]
  ring

/-- From the host base up, the offset of an address does not wrap. -/
theorem translate_toNat {w : Window} {a : Word} (above : w.hostBase.toNat ≤ a.toNat) :
    (w.translate a).toNat = (w.localBase.toNat + (a.toNat - w.hostBase.toNat)) % 2 ^ 32 := by
  rw [Window.translate, BitVec.toNat_add, BitVec.toNat_sub_of_le above]

/-- A range aligned to a size of four bytes or more begins at a multiple of four. -/
theorem hostBase_mod_four {w : Window} (size : 2 ≤ w.sizeCode.val)
    (aligned : w.hostBase.toNat % 2 ^ w.sizeCode.val = 0) : w.hostBase.toNat % 4 = 0 :=
  Nat.mod_eq_zero_of_dvd
    ((pow_dvd_pow 2 size).trans (Nat.dvd_of_mod_eq_zero aligned))

theorem translate_mod_four {w : Window} {a : Word} (above : w.hostBase.toNat ≤ a.toNat)
    (hostBase : w.hostBase.toNat % 4 = 0) (localBase : w.localBase.toNat % 4 = 0) :
    (w.translate a).toNat % 4 = a.toNat % 4 := by
  rw [translate_toNat above]
  omega

/-- Settles O20: the hit is the record's own translation, which carries sums over and, both bases being
multiples of four, keeps the low two bits. -/
theorem translationKeepsOffsetAndAlignment : Obligations.TranslationKeepsOffsetAndAlignment := by
  intro t a h law hit w
  obtain ⟨found, localAddr⟩ := decodeAddr_hit hit
  obtain ⟨enabled, above, -⟩ := (decodeIndex_eq_some_iff law h.window a).mp found
  have low : h.localAddr.toNat % 4 = a.toNat % 4 := by
    obtain ⟨hostBase, localBase⟩ := law.aligned h.window enabled
    have size := law.size h.window enabled
    rw [localAddr]
    exact translate_mod_four above (hostBase_mod_four (by omega) hostBase) localBase
  refine ⟨?_, ?_, low, by omega⟩
  · rw [localAddr]
    exact translate_toNat above
  · intro k inRange _
    obtain ⟨h', hit', localAddr'⟩ := decodeAddr_of_decodeIndex
      ((decodeIndex_eq_some_iff law h.window _).mpr ⟨enabled, inRange⟩)
    exact ⟨h', hit', by rw [localAddr', translate_add, localAddr]⟩

/-! ## WINDOW-GET (01 R13) -/

/-- The encoding check that intake makes of a WINDOW-GET (08 R147). -/
theorem intakeRefusal_windowGet (b : Byte) :
    intakeRefusal .windowGet [b] = if b.toNat ≤ 15 then none else some .badField := by
  by_cases h : b.toNat ≤ 15 <;>
    simp [intakeRefusal, lengthOk, requiredLength, fieldsOk, atMost, u8, h]

/-- An expected WINDOW-GET comes before intake. -/
theorem exec_windowGet_expected {f : FrameHead} {s : State} (id : Half) (body : List Byte)
    (expected : Expected f s) (room : Room s) :
    exec (.windowGet f id body) s =
      .next (intake .windowGet id body (ownWindowGet id body) (took s)) :=
  congrArg Host.Outcome.next (dataFrame_expected _ id body _ expected (.inr room))

/-- An index is read back from the byte that spells it. -/
theorem indexOf_ofNat {n : Nat} (small : n < 256) (i : Fin (n + 1)) :
    indexOf n (BitVec.ofNat 8 i.val) = i := by
  have byte : i.val % 2 ^ 8 = i.val := Nat.mod_eq_of_lt (by omega)
  rw [indexOf, BitVec.toNat_ofNat, byte]
  exact Fin.ofNat_val_eq_self i

/-- The weight of each window flag (08 R154). -/
theorem window_flags_eq (w : Window) :
    w.flags = BitVec.ofNat 8 ((if w.readOnly = true then 1 else 0)
      + (if w.postable = true then 2 else 0) + (if w.prefetchable = true then 4 else 0)
      + (if w.isVolatile = true then 8 else 0)) := by
  simp only [Window.flags, bitsByte, List.foldr]
  congr 1
  split_ifs <;> rfl

/-- The REPLY of a WINDOW-GET of record `i`, which is all that its owner changes. -/
theorem ownWindowGet_eq (id : Half) (i : Fin 16) (s : State) :
    ownWindowGet id [BitVec.ofNat 8 i.val] s =
      answer s id 0x31 0 (BitVec.ofNat 8 i.val :: (s.windows.get i).getFields) := by
  have index : indexOf 15 (u8 [BitVec.ofNat 8 i.val] 0) = i := indexOf_ofNat (by decide) i
  rw [ownWindowGet, index]
  rfl

/-- Settles O22: an index up to 15 passes intake and reads its own record; a larger one fails intake's
encoding check. -/
theorem windowGetReportsTheRecord : Obligations.WindowGetReportsTheRecord := by
  intro f id b s expected room
  rw [exec_windowGet_expected id [b] expected room, intake, intakeRefusal_windowGet]
  constructor
  · rintro i rfl w
    have valid : (BitVec.ofNat 8 i.val).toNat ≤ 15 := by
      rw [BitVec.toNat_ofNat]
      omega
    rw [if_pos valid, ← window_flags_eq]
    exact congrArg Host.Outcome.next (ownWindowGet_eq id i (took s))
  · intro large
    rw [if_neg (by omega)]
    rfl

end Sys2Proof.Proofs.AddressWindows

/-! # Faults (07): FAULT-GET and FAULT-CLEAR

What the fault unit reports, and what a clear leaves of it and of its notice. -/

namespace Sys2Proof.Proofs.FaultUnitRequests

open Sys2Proof.Machine Sys2Proof.Safety

/-! ## What the fault unit reports (08 R152) -/

theorem counterBytes_eq_flatMap_get (t : Table Half 9) :
    counterBytes t = (Table.indices 9).flatMap fun k => be16 (t.get k) := by
  rw [counterBytes, Table.rows_eq_map_get, List.flatMap_map]

theorem clearFields_eq (u : FaultUnit) :
    u.clearFields = yesNo u.record.isSome :: faultBlock u.record ++ be16 (summaryBits u.summary)
      ++ (Table.indices 9).flatMap fun k => be16 (u.counters.get k) := by
  rw [FaultUnit.clearFields, counterBytes_eq_flatMap_get]

/-! ## What a clear leaves (07 R133) -/

section

variable (u : FaultUnit) (counters : Bool)

@[simp] theorem clear_record : (u.clear counters).record = none := rfl

@[simp] theorem clear_summary_get (k : Fin 9) : (u.clear counters).summary.get k = false :=
  Table.get_fill false k

@[simp] theorem clear_renewal : (u.clear counters).renewal = false := rfl

theorem clear_counters_get (k : Fin 9) :
    (u.clear counters).counters.get k = if counters = true then 0 else u.counters.get k := by
  cases counters with
  | false => rfl
  | true => exact Table.get_fill 0 k

theorem clear_notice :
    (u.clear counters).notice = if u.notice = .sent then .sent else .settled := by
  rw [FaultUnit.clear]
  cases u.notice <;> rfl

theorem clear_notice_ne_due : (u.clear counters).notice ≠ .due := by
  rw [clear_notice]
  split_ifs <;> exact NoticeState.noConfusion

end

/-- A notice with no renewal owed, and not DUE, is settled once its frame has been acknowledged
(07 R131). -/
theorem reported_faultNotice_settles {t : State} {e : Sent}
    (carries : e.message.carries = .faultNotice) (renewal : t.faults.renewal = false)
    (notice : t.faults.notice ≠ .due) :
    (reported t e).faults.notice = .settled := by
  simp only [reported, carries]
  cases state : t.faults.notice with
  | settled => simp [state]
  | due => exact absurd state notice
  | sent => simp [renewal]

/-! ## The requests (07 R132, R133) -/

/-- The encoding check that intake makes of a FAULT-CLEAR (08 R147). -/
theorem intakeRefusal_faultClear (b : Byte) :
    intakeRefusal .faultClear [b] = if b.toNat ≤ 1 then none else some .badField := by
  by_cases flag : b.toNat ≤ 1 <;>
    simp [intakeRefusal, lengthOk, requiredLength, fieldsOk, isYesNo, u8, flag]

/-- An expected FAULT-GET passes intake, having no body to check. -/
theorem exec_faultGet_expected {f : FrameHead} {s : State} (id : Half) (expected : Expected f s)
    (room : Room s) :
    exec (.faultGet f id []) s = .next (answer (took s) id 0x58 0
      (s.faults.getFields s.settings.recordMode)) :=
  congrArg Host.Outcome.next (dataFrame_intake expected room rfl)

/-- An expected FAULT-CLEAR comes before intake. -/
theorem exec_faultClear_expected {f : FrameHead} {s : State} (id : Half) (body : List Byte)
    (expected : Expected f s) (room : Room s) :
    exec (.faultClear f id body) s =
      .next (intake .faultClear id body (ownFaultClear id body) (took s)) :=
  congrArg Host.Outcome.next (dataFrame_expected _ id body _ expected (.inr room))

/-- The REPLY of a FAULT-CLEAR has the fields from before the clear. -/
theorem ownFaultClear_eq (id : Half) (counters : Bool) (s : State) :
    ownFaultClear id [if counters = true then 1 else 0] s =
      { answer s id 0x59 0 s.faults.clearFields with faults := s.faults.clear counters } := by
  cases counters <;> rfl

theorem exec_faultClear_valid {f : FrameHead} {s : State} (id : Half) (counters : Bool)
    (expected : Expected f s) (room : Room s) :
    exec (.faultClear f id [if counters = true then 1 else 0]) s =
      .next { answer (took s) id 0x59 0 s.faults.clearFields with
        faults := s.faults.clear counters } := by
  have valid : (if counters = true then (1 : Byte) else 0).toNat ≤ 1 := by
    cases counters <;> decide
  rw [exec_faultClear_expected id _ expected room, intake, intakeRefusal_faultClear, if_pos valid]
  exact congrArg Host.Outcome.next (ownFaultClear_eq id counters (took s))

theorem exec_faultClear_badField {f : FrameHead} {s : State} (id : Half) {b : Byte}
    (expected : Expected f s) (room : Room s) (large : 1 < b.toNat) :
    exec (.faultClear f id [b]) s = .next (answer (took s) id 0x59 3 (List.replicate 39 0)) := by
  rw [exec_faultClear_expected id _ expected room, intake, intakeRefusal_faultClear,
    if_neg (Nat.not_le.mpr large)]
  rfl

/-- Settles O52: both requests pass intake and report the fault unit as it stands, a clear leaves
`FaultUnit.clear`, whose notice is never DUE and owes no renewal, and a flag above 1 fails intake's
encoding check. -/
theorem faultGetReportsAndFaultClearClears : Obligations.FaultGetReportsAndFaultClearClears := by
  intro f id s expected room u fields
  have reports : u.clearFields = fields := clearFields_eq u
  refine ⟨?_, fun counters => ⟨u.clear counters, ?_, clear_record u counters,
    clear_summary_get u counters, clear_counters_get u counters, clear_notice u counters,
    clear_renewal u counters, ?_⟩, fun b large => exec_faultClear_badField id expected room large⟩
  · rw [← reports]
    exact exec_faultGet_expected id expected room
  · rw [← reports]
    exact exec_faultClear_valid id counters expected room
  · intro e carries t cleared
    exact reported_faultNotice_settles carries (by rw [cleared, clear_renewal])
      (by rw [cleared]; exact clear_notice_ne_due u counters)

end Sys2Proof.Proofs.FaultUnitRequests

/-! # What a step can do

Every command comes to one of a few events, and every event to a run of moves, each of which changes one
part of the state. A law that every move keeps is kept by every step. -/

namespace Sys2Proof.Proofs.Steps

-- One theorem after another: the proofs of this part at once ask for more threads than the check allows.
set_option Elab.async false

open Sys2Proof.Machine Sys2Proof.Safety

/-! ## Events -/

/-- What the link does with a good frame of the host, once the receiver has judged it (09 R158). -/
inductive FrameAct : (State → State) → Prop where
  | malformed : FrameAct countMalformed
  | ack (f : FrameHead) : FrameAct (takeAckFrame f)
  | nak (f : FrameHead) : FrameAct (takeNakFrame f)
  | init : FrameAct takeInit
  | data (f : FrameHead) (kind : Byte) (id : Half) (body : List Byte) :
      FrameAct (takeData f kind (takenMessage kind id body))

/-- What a command does to the state: nothing, or one of the events of the part. -/
inductive Event (s : State) : State → Prop where
  | nothing : Event s s
  | power : Event s (powerUp s)
  | assert : Event s (holdInReset (setResetLow true s))
  | release (c : ResetCause) : Event s (resetBlocks c (setResetLow false s))
  | freeze (v : Bool) : Event s (setFreezePin v s)
  | level (i : Fin 32) (v : Bool) : Event s (setLine i v s)
  | rise (i : Fin 32) : Event s (judgeSource i ((setLine i true s).modSource i Source.edge))
  | bytes (hrx : List Byte) : Event s (receiveBad hrx s)
  | arrive (x : List Byte) : Event s (s.modLink fun l => { l with rx := x })
  | frame (x : List Byte) {act : State → State} (low : s.pins.resetLow = false) (h : FrameAct act) :
      Event s (act (s.modLink fun l => { l with rx := x }))
  | replay (low : s.pins.resetLow = false) (runs : s.link.replayTimer.isSome = true) :
      Event s (expireReplay s)
  | beacon (low : s.pins.resetLow = false) (down : s.link.up = false)
      (runs : s.link.beacon.isSome = true) : Event s (sendInit s)
  | beaconWaits (low : s.pins.resetLow = false) (down : s.link.up = false)
      (runs : s.link.beacon.isSome = true) : Event s (s.modLink fun l => { l with beacon := some 0 })
  | choose (low : s.pins.resetLow = false) : Event s (chooseFrame (s.modLink fun l => { l with tx := none }))
  | start (p : Fin 4) (c : Choice) (h : arbiterChoice p s = some c) : Event s (startChoice p c s)
  | ends (p : Fin 4) (x : Txn) (o : BusOutcome) (d : List Byte) (h : (s.ports.get p).txn = some x) :
      Event s (endTxn p x o d s)
  | holdOff (item : HoldItem) : Event s (endHoldOff item s)
  | expire (t : Fin 32) : Event s (expireTag t s)

/-- A good frame is acted on by its form and its FTYPE (09 R158). -/
theorem goodFrame_act (content : List Byte) : FrameAct (goodFrame content) := by
  unfold goodFrame
  cases readFrame content with
  | malformed => exact .malformed
  | ack f extra => exact .ack f
  | nak f extra => exact .nak f
  | init f extra => exact .init
  | data f kind id body => exact .data f kind id body

theorem hostFrame_event (content : List Byte) {act : State → State} (h : FrameAct act) (s : State) :
    Event s (hostFrame content act s) := by
  unfold hostFrame
  split
  · exact .nothing
  · next low =>
    split
    · exact .frame _ (by simpa using low) h
    · exact .arrive (hunt s.link.rx ++ wireFrame content)

theorem replayTimerOut_event (s : State) : Event s (replayTimerOut s) := by
  unfold replayTimerOut
  split
  · exact .nothing
  · next h =>
    simp only [Bool.or_eq_true, not_or, Bool.not_eq_true, Option.isNone_eq_false_iff] at h
    exact .replay h.1 h.2

theorem dataFrame_event (f : FrameHead) (kind : Byte) (id : Half) (body : List Byte) (s : State) :
    Event s (dataFrame f kind id body (takenMessage kind id body) s) :=
  hostFrame_event _ (.data f kind id body) s

/-- A request is a DATA frame whose message intake takes. -/
theorem exec_request_event (k : RequestKind) (f : FrameHead) (id : Half) (body : List Byte) (s : State) :
    ∃ t, exec (requestInstr k f id body) s = .next t ∧ Event s t :=
  ⟨_, exec_requestInstr k f id body s, dataFrame_event f k.code id body s⟩

theorem exec_reset_event (f : FrameHead) (id : Half) (body : List Byte) (s : State) :
    Event s (dataFrame f RequestKind.reset.code id body (intake .reset id body (ownReset id body)) s) :=
  dataFrame_event f RequestKind.reset.code id body s

/-- What holds out of reset alone. -/
theorem ite_low {s t : State} (h : s.pins.resetLow = false → Event s t) :
    Event s (if s.pins.resetLow then s else t) := by
  split
  · exact .nothing
  · next low => exact h (by simpa using low)

/-- Every command answers a next state, that of one of the events. -/
theorem exec_event (c : Instr) (s : State) : ∃ t, exec c s = .next t ∧ Event s t := by
  cases c
  case powerOn => exact ⟨_, rfl, .power⟩
  case resetNAssert => exact ⟨_, rfl, ite_low fun _ => .assert⟩
  case resetNRelease =>
    refine ⟨_, rfl, ?_⟩
    split
    · exact .release _
    · exact .nothing
  case freezeActive => exact ⟨_, rfl, .freeze true⟩
  case freezeInactive => exact ⟨_, rfl, .freeze false⟩
  case irqLineRise i =>
    refine ⟨_, rfl, ?_⟩
    split
    · exact .nothing
    · dsimp only
      split
      · exact .level i true
      · exact .rise i
  case irqLineFall i => exact ⟨_, rfl, .level i false⟩
  case frameCrcFailure hrx => exact ⟨_, rfl, ite_low fun _ => .bytes hrx⟩
  case malformedFrame content => exact ⟨_, rfl, hostFrame_event _ (goodFrame_act content) s⟩
  case hostDataFrameNotTaken f kind id body => exact ⟨_, rfl, dataFrame_event f kind id body s⟩
  case hostAckFrame f extra => exact ⟨_, rfl, hostFrame_event _ (.ack f) s⟩
  case rateChange f extra => exact ⟨_, rfl, hostFrame_event _ (.ack f) s⟩
  case fullResetCarriedOut event =>
    refine ⟨_, rfl, ?_⟩
    cases event with
    | acknowledged f extra => exact hostFrame_event _ (.ack f) s
    | exhausted => exact replayTimerOut_event s
    | hostInit f extra => exact hostFrame_event _ .init s
  case hostNak f extra => exact ⟨_, rfl, hostFrame_event _ (.nak f) s⟩
  case hostInit f extra => exact ⟨_, rfl, hostFrame_event _ .init s⟩
  case replayTimerExpiry => exact ⟨_, rfl, replayTimerOut_event s⟩
  case beaconTimerExpiry =>
    refine ⟨_, rfl, ?_⟩
    split
    · exact .nothing
    · next h =>
      simp only [Bool.or_eq_true, not_or, Bool.not_eq_true, Option.isNone_eq_false_iff] at h
      obtain ⟨⟨low, down⟩, runs⟩ := h
      split
      · exact .beacon low down runs
      · exact .beaconWaits low down runs
  case frameTransmitEnd => exact ⟨_, rfl, ite_low .choose⟩
  case unknownKind f kind id body => exact ⟨_, rfl, dataFrame_event f kind id body s⟩
  case resetFlush f id body => exact ⟨_, rfl, exec_reset_event f id body s⟩
  case resetFull f id body => exact ⟨_, rfl, exec_reset_event f id body s⟩
  case portStart p =>
    refine ⟨_, rfl, ite_low fun _ => ?_⟩
    split
    · next c h => exact .start p c h
    · exact .nothing
  case targetAnswer p a =>
    refine ⟨_, rfl, ite_low fun _ => ?_⟩
    split
    · next x h => exact .ends p x _ _ h
    · exact .nothing
  case responseLimitExpiry p =>
    refine ⟨_, rfl, ite_low fun _ => ?_⟩
    split
    · next x h => exact .ends p x _ _ h
    · exact .nothing
  case holdOffExpiry item => exact ⟨_, rfl, ite_low fun _ => .holdOff item⟩
  case completionTimerExpiry t => exact ⟨_, rfl, ite_low fun _ => .expire t⟩
  case read f id body => exact exec_request_event .read f id body s
  case write f id body => exact exec_request_event .write f id body s
  case post f id body => exact exec_request_event .post f id body s
  case modify f id body => exact exec_request_event .modify f id body s
  case fence f id body => exact exec_request_event .fence f id body s
  case identify f id body => exact exec_request_event .identify f id body s
  case statusGet f id body => exact exec_request_event .statusGet f id body s
  case configSet f id body => exact exec_request_event .configSet f id body s
  case configGet f id body => exact exec_request_event .configGet f id body s
  case linkRate f id body => exact exec_request_event .linkRate f id body s
  case windowSet f id body => exact exec_request_event .windowSet f id body s
  case windowGet f id body => exact exec_request_event .windowGet f id body s
  case portSet f id body => exact exec_request_event .portSet f id body s
  case portGet f id body => exact exec_request_event .portGet f id body s
  case portHold f id body => exact exec_request_event .portHold f id body s
  case portRelease f id body => exact exec_request_event .portRelease f id body s
  case abort f id body => exact exec_request_event .abort f id body s
  case jobLoad f id body => exact exec_request_event .jobLoad f id body s
  case jobStart f id body => exact exec_request_event .jobStart f id body s
  case jobPause f id body => exact exec_request_event .jobPause f id body s
  case jobResume f id body => exact exec_request_event .jobResume f id body s
  case jobStop f id body => exact exec_request_event .jobStop f id body s
  case jobGet f id body => exact exec_request_event .jobGet f id body s
  case irqSet f id body => exact exec_request_event .irqSet f id body s
  case irqMask f id body => exact exec_request_event .irqMask f id body s
  case irqDone f id body => exact exec_request_event .irqDone f id body s
  case irqGet f id body => exact exec_request_event .irqGet f id body s
  case faultGet f id body => exact exec_request_event .faultGet f id body s
  case faultClear f id body => exact exec_request_event .faultClear f id body s

theorem event_of_exec {c : Instr} {s t : State} (h : exec c s = .next t) : Event s t := by
  obtain ⟨u, hu, e⟩ := exec_event c s
  rw [hu] at h
  cases h
  exact e

/-- A step is an event on the state with another queue or count of free choices, or time passes. -/
theorem step_cases {s t : State} (h : step s = .next t) :
    (∃ x n, Event ((s.setPending x).setFreeDraws n) t) ∨ t = tick s := by
  have same : (s.setPending s.pending).setFreeDraws s.freeDraws = s := rfl
  unfold step takeCommand at h
  split at h
  · unfold idleStep at h
    split at h
    · cases h; exact .inr rfl
    · exact .inl ⟨s.pending, s.freeDraws, by rw [same]; exact event_of_exec h⟩
    · exact .inl ⟨s.pending, s.freeDraws + 1, event_of_exec h⟩
  · next rest _ => exact .inl ⟨rest, s.freeDraws, event_of_exec h⟩

/-! ## The blocks that the remaining events may change -/

theorem tick_touches (s : State) : Touches [.tags, .pool, .ports, .link] s (tick s) := by
  unfold tick
  split
  · exact .refl _ _
  · exact (setTags_touches s _).within.trans ((setPool_touches _ _).within.trans
      ((setPorts_touches _ _).within.trans (modLink_touches _ _).within))

theorem endHoldOff_touches (item : HoldItem) (s : State) :
    Touches [.tags, .pool, .ports] s (endHoldOff item s) := by
  cases item with
  | request t => exact (modTag_touches _ _ _).within
  | posted k => exact (setSlot_touches _ _ _).within
  | chunk j => exact (setPorts_touches _ _).within
  | operation i => exact (modPort_touches _ _ _).within

theorem expireTag_touches (t : Fin 32) (s : State) :
    Touches [.pool, .lists, .tags, .ready, .faults] s (expireTag t s) := by
  have h : Touches [.pool, .lists, .tags, .ready, .faults] s
      (s.modTag t fun x => { x with timeLeft := 0 }) := (modTag_touches _ _ _).within
  unfold expireTag
  dsimp only
  split
  · split
    · exact .refl _ _
    · exact h.trans (readyFromQueue_touches _ _ _).within
  · exact h.trans (readyFromBarrier_touches _ _ _).within
  · exact h.trans (makeReady_touches _ _ _ _ _).within
  all_goals exact .refl _ _

/-! ## Moves -/

/-- The blocks that no law but that of the host link looks at. -/
abbrev quietBlocks : List Block := [.pins, .settings, .link, .direct, .freeDraws, .pending]

/-- A port with the same work: its transaction, its lock, its queue and its offered chunks. -/
structure SameWork (x y : Port) : Prop where
  txn : y.txn = x.txn
  lock : y.lock = x.lock
  opQueue : y.opQueue = x.opQueue
  offers : y.offers = x.offers

/-- A move of the part: a change of the blocks that the laws do not look at, or one act of one block's
owner. -/
inductive Move (s : State) : State → Prop where
  | quiet {t : State} (h : Touches quietBlocks s t) : Move s t
  | reset (c : ResetCause) : Move s (resetBlocks c s)
  | tick : Move s (tick s)
  | down (c : Status) : Move s (goDown c s)
  | flush : Move s (flushPart s)
  -- fault unit
  | report (k : FaultKind) (d : FaultDetail) : Move s (report k d s)
  | clear (b : Bool) : Move s (s.setFaults (s.faults.clear b))
  | faultSent (h : s.faults.notice = .due) : Move s (s.setFaults { s.faults with notice := .sent })
  | faultAck : Move s (s.setFaults s.faults.acknowledged)
  -- windows
  | window (i : Fin 16) (w : Window) (size : 12 ≤ w.sizeCode.val)
      (h : (checkWindow s.windows i w).1 = .ok) : Move s (s.setWindows (s.windows.set i w))
  -- ports
  | ports (x : Table Port 4) (h : ∀ p, SameWork (s.ports.get p) (x.get p)) : Move s (s.setPorts x)
  | start (p : Fin 4) (c : Choice) (h : arbiterChoice p s = some c) : Move s (startChoice p c s)
  | ends (p : Fin 4) (x : Txn) (o : BusOutcome) (d : List Byte) (h : (s.ports.get p).txn = some x) :
      Move s (endTxn p x o d s)
  | holdOff (item : HoldItem) : Move s (endHoldOff item s)
  -- admission and tags
  | admitTagged (k : RequestKind) (id : Half) (body : List Byte) (h : Hit) (t : Fin 32)
      (ok : checkTag id s.tags = .ok t) : Move s (admitTagged k id body h t s)
  | admitPost (body : List Byte) (h : Hit) (k : Fin 32) (ok : freeSlot s.pool = some k) :
      Move s (admitPost body h k s)
  | admitFence (id : Half) (t : Fin 32) (ok : checkTag id s.tags = .ok t) : Move s (admitFence id t s)
  | abort (target : Half) : Move s (abortTarget target s).2
  | expire (t : Fin 32) : Move s (expireTag t s)
  | release (t : Fin 32) (ts : List (Fin 32)) (h : s.ready = t :: ts) :
      Move s (releaseTag t (s.setReady ts))
  -- jobs
  | loadJob (j : Fin 4) (d : Descriptor) : Move s (loadJob j d s).2.2
  | startJob (j : Fin 4) (h : (s.jobs.get j).state = .loaded) : Move s (startJob j s).2
  | pauseJob (j : Fin 4) : Move s (pauseJob j s).2
  | resumeJob (j : Fin 4) : Move s (resumeJob j s).2
  | stopJob (j : Fin 4) : Move s (stopJob j s).2
  | jobSent (j : Fin 4) : Move s (s.modJob j fun x =>
      { x with sent := x.latest, latest := none, overwritten := 0, notice := .sent })
  | jobAck (j : Fin 4) : Move s (s.modJob j JobSlot.acknowledged)
  -- interrupt sources
  | rise (i : Fin 32) : Move s (judgeSource i (s.modSource i Source.edge))
  | irqSet (i : Fin 32) (body : List Byte) (h : irqSetStatus (s.sources.get i) body = .ok) :
      Move s (takeIrqSet i body s)
  | mask (v : Bool) (i : Fin 32) : Move s (maskSource v i s)
  | done (i : Fin 32) (h : (s.sources.get i).state = .notified) : Move s (closeCycle i s)
  | sourceSent (i : Fin 32) (h : (s.sources.get i).state = .due) : Move s (s.modSource i fun x =>
      { x with state := .sent, sentCount := some x.coalesced, coalesced := 0
               noticeSeq := some s.link.nextSend })
  | sourceAck (i : Fin 32) (q : Seq) : Move s (s.modSource i (Source.acknowledged q))

/-- A run of moves. -/
abbrev Moves : State → State → Prop := Relation.ReflTransGen Move

section

variable {s t : State}

theorem moves_quiet {bs : List Block} (h : Touches bs s t) (sub : bs ⊆ quietBlocks := by simp) :
    Moves s t := .single (.quiet (h.mono sub))

theorem fullReset_moves (s : State) : Moves s (fullReset s) := .single (.reset .soft)

theorem holdInReset_moves (s : State) : Moves s (holdInReset s) :=
  .tail (.single (.reset _)) (.quiet ((modLink_touches _ _).within))

theorem powerUp_moves (s : State) : Moves s (powerUp s) := by
  unfold powerUp
  split
  · exact (holdInReset_moves s).trans (moves_quiet (modSettings_touches _ _))
  · exact .single (.reset _)

/-! ### Ports -/

theorem SameWork.refl (x : Port) : SameWork x x := ⟨rfl, rfl, rfl, rfl⟩

theorem noticed_sameWork {x y z : Port} (h : SameWork x z) : SameWork x (noticed y z) := by
  unfold noticed
  split
  · exact h
  · split
    · exact ⟨h.txn, h.lock, h.opQueue, h.offers⟩
    · exact h
    · exact ⟨h.txn, h.lock, h.opQueue, h.offers⟩

theorem modPort_moves (p : Fin 4) (f : Port → Port) (h : ∀ x, SameWork x (f x)) (s : State) :
    Moves s (s.modPort p f) := by
  refine .single (.ports _ fun q => ?_)
  rw [Table.get_modify]
  split
  · exact h _
  · exact .refl _

theorem changeEveryPort_moves (f : Port → Port) (h : ∀ x, SameWork x (f x)) (s : State) :
    Moves s (changeEveryPort f s) := by
  refine .single (.ports _ fun q => ?_)
  rw [Table.get_map, change_eq]
  exact noticed_sameWork (h _)

theorem changePort_moves (p : Fin 4) (f : Port → Port) (h : ∀ x, SameWork x (f x)) (s : State) :
    Moves s (changePort p f s) :=
  modPort_moves p _ (fun x => by rw [change_eq]; exact noticed_sameWork (h x)) s

theorem onNamedPorts_moves (b : Byte) (f : Port → Port) (h : ∀ x, SameWork x (f x)) (s : State) :
    Moves s (onNamedPorts b f s) := by
  unfold onNamedPorts
  split
  · exact changeEveryPort_moves f h s
  · exact changePort_moves _ f h s

theorem acknowledged_sameWork (x : Port) : SameWork x x.acknowledged := by
  unfold Port.acknowledged
  split
  · split <;> exact ⟨rfl, rfl, rfl, rfl⟩
  · exact .refl x

theorem discardLine_sameWork (x : Port) : SameWork x x.discardLine := ⟨rfl, rfl, rfl, rfl⟩
theorem addHost_sameWork (x : Port) : SameWork x x.addHost := ⟨rfl, rfl, rfl, rfl⟩
theorem release_sameWork (x : Port) : SameWork x x.release := ⟨rfl, rfl, rfl, rfl⟩
theorem setFreeze_sameWork (v : Bool) (x : Port) : SameWork x (x.setFreeze v) := ⟨rfl, rfl, rfl, rfl⟩
theorem addGuard_sameWork (x : Port) : SameWork x x.addGuard := ⟨rfl, rfl, rfl, rfl⟩

theorem discardLines_moves (p q : Fin 4) (s : State) : Moves s (discardLines p q s) :=
  (modPort_moves p _ discardLine_sameWork s).trans
    (modPort_moves q _ discardLine_sameWork _)

theorem guardMiss_moves (a : Word) (id : Option Half) (s : State) : Moves s (guardMiss a id s) := by
  unfold guardMiss
  split
  · exact .tail (changeEveryPort_moves _ addGuard_sameWork s) (.report _ _)
  · exact .refl

theorem setFreezePin_moves (v : Bool) (s : State) : Moves s (setFreezePin v s) := by
  unfold setFreezePin
  dsimp only
  split
  · exact moves_quiet (setPins_touches _ _)
  · exact (moves_quiet (setPins_touches _ _)).trans
      (changeEveryPort_moves _ (setFreeze_sameWork v) _)

theorem receiveBad_moves (hrx : List Byte) (s : State) : Moves s (receiveBad hrx s) := by
  unfold receiveBad
  dsimp only
  split
  · exact moves_quiet ((modCounters_touches _ _).trans (modLink_touches _ _))
  · exact moves_quiet (modLink_touches _ _)

theorem reportAck_moves (e : Sent) (s : State) : Moves s (reportAck e s) := by
  unfold reportAck
  split
  · exact .refl
  · exact .refl
  · exact .refl
  · exact moves_quiet (modLink_touches _ _)
  · exact .single .faultAck
  · exact modPort_moves _ _ acknowledged_sameWork s
  · exact .single (.jobAck _)
  · exact .single (.sourceAck _ _)

theorem reportAcks_moves (es : List Sent) (s : State) : Moves s (reportAcks es s).1 := by
  induction es generalizing s with
  | nil => exact .refl
  | cons e es ih =>
    unfold reportAcks
    split
    · exact fullReset_moves s
    · exact (reportAck_moves e s).trans (ih _)

theorem takeAck_moves (a : Seq) (s : State) : Moves s (takeAck a s).1 := by
  unfold takeAck
  split
  · exact .refl
  · exact (moves_quiet (progress_touches _ s)).trans (reportAcks_moves _ _)

theorem exhaust_moves (s : State) : Moves s (exhaust s) := by
  unfold exhaust
  split
  · exact .head (.down _) (fullReset_moves _)
  · exact .head (.down _) (moves_quiet (modLink_touches _ _))

theorem expireReplay_moves (s : State) : Moves s (expireReplay s) := by
  unfold expireReplay
  dsimp only
  split
  · exact exhaust_moves s
  · exact moves_quiet (modLink_touches _ _)

theorem takeInit_moves (s : State) : Moves s (takeInit s) := by
  unfold takeInit
  split
  · split
    · exact .head (.down _) (fullReset_moves _)
    · exact .head (.down _) (moves_quiet (modLink_touches _ _))
  · exact moves_quiet (modLink_touches _ _)

theorem takeNak_moves (q : Seq) (s : State) : Moves s (takeNak q s) := by
  unfold takeNak
  split
  · exact moves_quiet (modCounters_touches _ _)
  · exact (takeAck_moves _ s).trans (moves_quiet (modLink_touches _ _))

/-! ### Requests -/

theorem addReply_moves (h : Moves s t) (m : Message) : Moves s (t.addReply m) :=
  h.trans (moves_quiet (addReply_touches _ _))

theorem foldOver_moves {α : Type} {f : α → State → State} (xs : List α) (h : ∀ x u, Moves u (f x u))
    (s : State) : Moves s (foldOver xs f s) := by
  induction xs generalizing s with
  | nil => exact .refl
  | cons x xs ih => exact (h x s).trans (ih (f x s))

theorem ownTagged_moves (k : RequestKind) (id : Half) (body : List Byte) (s : State) :
    Moves s (ownTagged k id body s) := by
  unfold ownTagged
  dsimp only
  split
  · refine addReply_moves ?_ _
    split
    · exact guardMiss_moves _ _ s
    · exact .refl
  · split
    · exact addReply_moves .refl _
    · next ok => exact .single (.admitTagged k id body _ _ ok)

theorem ownPost_moves (body : List Byte) (s : State) : Moves s (ownPost body s) := by
  unfold ownPost
  dsimp only
  split
  · refine .tail ?_ (.report _ _)
    split
    · exact guardMiss_moves _ _ s
    · exact .refl
  · split
    · next ok => exact .single (.admitPost body _ _ ok)
    · exact .single (.report _ _)

theorem ownFence_moves (id : Half) (s : State) : Moves s (ownFence id s) := by
  unfold ownFence
  split
  · exact addReply_moves .refl _
  · next ok => exact .single (.admitFence id _ ok)

theorem ownReset_moves (id : Half) (body : List Byte) (s : State) : Moves s (ownReset id body s) := by
  unfold ownReset
  split
  · exact (addReply_moves .refl _).trans (moves_quiet (modSettings_touches _ _))
  · exact addReply_moves (.single .flush) _

theorem ownWindowSet_moves (id : Half) (body : List Byte) (ok : fieldsOk .windowSet body = true)
    (s : State) : Moves s (ownWindowSet id body s) := by
  have size : 12 ≤ (windowOf body).sizeCode.val := by
    simp only [fieldsOk, Bool.and_eq_true, decide_eq_true_eq] at ok
    obtain ⟨⟨⟨-, lo, hi⟩, -⟩, -⟩ := ok
    have : (windowOf body).sizeCode.val = (u8 body 6).toNat :=
      Nat.mod_eq_of_lt (Nat.lt_succ_of_le hi)
    omega
  unfold ownWindowSet
  refine addReply_moves ?_ _
  split
  · next h => exact .head (.window _ _ size (beq_iff_eq.mp h)) (discardLines_moves _ _ _)
  · exact .refl

theorem ownIrqMask_moves (id : Half) (body : List Byte) (s : State) :
    Moves s (ownIrqMask id body s) := by
  unfold ownIrqMask
  refine addReply_moves ?_ _
  split
  · exact (moves_quiet (setFreeDraws_touches s _)).trans
      (foldOver_moves _ (fun i _ => .single (.mask _ i)) _)
  · exact .single (.mask _ _)

theorem owner_moves (k : RequestKind) (id : Half) (body : List Byte) (ok : fieldsOk k body = true)
    (s : State) : Moves s (owner k id body s) := by
  cases k <;> unfold owner <;> dsimp only
  case read => exact ownTagged_moves _ _ _ _
  case write => exact ownTagged_moves _ _ _ _
  case modify => exact ownTagged_moves _ _ _ _
  case post => exact ownPost_moves _ _
  case fence => exact ownFence_moves _ _
  case configSet => exact addReply_moves (moves_quiet (modSettings_touches _ _)) _
  case reset => exact ownReset_moves _ _ _
  case windowSet => exact ownWindowSet_moves _ _ ok _
  case portSet => exact addReply_moves (modPort_moves _ (fun x => { x with settings := portSettingsOf body })
    (fun _ => ⟨rfl, rfl, rfl, rfl⟩) _) _
  case portHold => exact addReply_moves (onNamedPorts_moves _ _ addHost_sameWork _) _
  case portRelease => exact addReply_moves (onNamedPorts_moves _ _ release_sameWork _) _
  case abort => exact addReply_moves (.single (.abort _)) _
  case jobLoad => exact addReply_moves (.single (.loadJob _ _)) _
  case jobStart =>
    refine addReply_moves ?_ _
    split
    · next h => exact .single (.startJob _ (beq_iff_eq.mp h))
    · exact .refl
  case jobPause => exact addReply_moves (.single (.pauseJob _)) _
  case jobResume => exact addReply_moves (.single (.resumeJob _)) _
  case jobStop => exact addReply_moves (.single (.stopJob _)) _
  case irqSet =>
    refine addReply_moves ?_ _
    dsimp only
    split
    · next h => exact .single (.irqSet _ _ (beq_iff_eq.mp h))
    · exact .refl
  case irqMask => exact ownIrqMask_moves _ _ _
  case irqDone =>
    refine addReply_moves ?_ _
    split
    · next h => exact .single (.done _ (beq_iff_eq.mp h))
    · exact .refl
  case faultClear => exact .tail (addReply_moves .refl _) (.clear _)
  all_goals exact addReply_moves .refl _

theorem fieldsOk_of_intakeRefusal {k : RequestKind} {body : List Byte}
    (h : intakeRefusal k body = none) : fieldsOk k body = true := by
  unfold intakeRefusal at h
  split at h
  · cases h
  · split at h
    · cases h
    · next ok => simpa using ok

theorem takenMessage_moves (kind : Byte) (id : Half) (body : List Byte) (s : State) :
    Moves s (takenMessage kind id body s) := by
  unfold takenMessage
  split
  · exact addReply_moves .refl _
  · unfold intakePost
    split
    · exact .single (.report _ _)
    · exact ownPost_moves _ _
  · unfold intake
    split
    · exact addReply_moves .refl _
    · next ok => exact owner_moves _ _ _ (fieldsOk_of_intakeRefusal ok) _

theorem placeData_moves (q : Seq) (kind : Byte) (id : Half) (body : List Byte) (s : State) :
    Moves s (placeData q kind (takenMessage kind id body) s) := by
  unfold placeData
  dsimp only
  split
  · split
    · exact moves_quiet (modLink_touches _ _)
    · exact (moves_quiet (modLink_touches _ _)).trans (takenMessage_moves kind id body _)
  · split
    · exact moves_quiet ((modCounters_touches _ _).trans (modLink_touches _ _))
    · exact moves_quiet ((modCounters_touches _ _).trans (modLink_touches _ _))

theorem FrameAct.moves {act : State → State} (h : FrameAct act) (s : State) : Moves s (act s) := by
  cases h with
  | malformed => exact moves_quiet (modCounters_touches _ _)
  | ack f =>
    unfold takeAckFrame
    split
    · exact takeAck_moves _ s
    · exact .refl
  | nak f =>
    unfold takeNakFrame
    split
    · exact takeNak_moves _ s
    · exact .refl
  | init => exact takeInit_moves s
  | data f kind id body =>
    unfold takeData
    dsimp only
    split
    · exact .refl
    · split
      · exact takeAck_moves _ s
      · exact (takeAck_moves _ s).trans (placeData_moves _ _ _ _ _)

/-! ### The outbound arbiter -/

/-- A notice that the notice class offers is DUE (09 R166). -/
theorem dueNotice_moves {n : Carried} (h : dueNotice s = some n) : Moves s (buildNotice n s).2 := by
  unfold dueNotice at h
  split at h
  · next due => cases h; exact .single (.faultSent (beq_iff_eq.mp due))
  · split at h
    · cases h; exact modPort_moves _ (fun x => { x with notice := .sent }) (fun _ => ⟨rfl, rfl, rfl, rfl⟩) s
    · split at h
      · cases h; exact .single (.jobSent _)
      · obtain ⟨i, hi, rfl⟩ := Option.map_eq_some_iff.mp h
        obtain ⟨pr, _, found⟩ := List.exists_of_findSome?_eq_some hi
        have offers := List.find?_some found
        simp only [Bool.and_eq_true, offersNotice_iff] at offers
        exact .single (.sourceSent i offers.1.1)

theorem takeMessage_moves {c : OutClass} {r : Message × State} (h : takeMessage c s = some r) :
    Moves s r.2 := by
  unfold takeMessage at h
  split at h
  · split at h
    · cases h
    · cases h; exact moves_quiet (setDirect_touches _ _)
  · split at h
    · cases h
    · next ready => cases h; exact .single (.release _ _ ready)
  · obtain ⟨n, due, rfl⟩ := Option.map_eq_some_iff.mp h
    exact dueNotice_moves due

theorem newData_moves (h : newData s = some t) : Moves s t := by
  unfold newData at h
  split at h
  · exact absurd h (by simp)
  · obtain ⟨r, hr, rfl⟩ := Option.map_eq_some_iff.mp h
    exact (takeMessage_moves hr).trans (moves_quiet (sendData_touches _ _ _))

theorem chooseFrame_moves (s : State) : Moves s (chooseFrame s) := by
  unfold chooseFrame
  split
  · split
    · exact moves_quiet (sendReady_touches _)
    · split
      · exact moves_quiet (sendWait_touches _ _)
      · exact moves_quiet (sendNak_touches _)
      · split
        · exact moves_quiet (resendFrame_touches _ _)
        · split
          · next h => exact newData_moves h
          · split
            · exact moves_quiet (sendAck_touches _)
            · exact .refl
  · split
    · exact moves_quiet (sendInit_touches _)
    · exact .refl

/-- Every event is a run of moves. -/
theorem Event.moves (h : Event s t) : Moves s t := by
  cases h with
  | nothing => exact .refl
  | power => exact powerUp_moves s
  | assert => exact (moves_quiet (setPins_touches _ _)).trans (holdInReset_moves _)
  | release c => exact .tail (moves_quiet (setPins_touches _ _)) (.reset c)
  | freeze v => exact setFreezePin_moves v s
  | level i v => exact moves_quiet (setPins_touches _ _)
  | rise i => exact .tail (moves_quiet (setPins_touches _ _)) (.rise i)
  | bytes hrx => exact receiveBad_moves hrx s
  | arrive x => exact moves_quiet (modLink_touches _ _)
  | frame x _ h => exact (moves_quiet (modLink_touches _ _)).trans (h.moves _)
  | replay _ _ => exact expireReplay_moves s
  | beacon _ _ _ => exact moves_quiet (sendInit_touches _)
  | beaconWaits _ _ _ => exact moves_quiet (modLink_touches _ _)
  | choose _ => exact (moves_quiet (modLink_touches _ _)).trans (chooseFrame_moves _)
  | start p c h => exact .single (.start p c h)
  | ends p x o d h => exact .single (.ends p x o d h)
  | holdOff item => exact .single (.holdOff item)
  | expire t => exact .single (.expire t)

/-- Every step is a run of moves. -/
theorem step_moves (h : step s = .next t) : Moves s t := by
  rcases step_cases h with ⟨x, n, e⟩ | rfl
  · have q : Touches quietBlocks s ((s.setPending x).setFreeDraws n) :=
      (setPending_touches _ _).within.trans (setFreeDraws_touches _ _).within
    exact .head (.quiet q) e.moves
  · exact .single .tick

/-- A law that every move keeps is kept by every step. -/
theorem kept_by_step {P : State → Prop} (keeps : ∀ s t, Move s t → P s → P t)
    (h : step s = .next t) (law : P s) : P t :=
  Relation.ReflTransGen.head_induction_on (motive := fun s _ => P s → P t) (step_moves h) id
    (fun m _ ih law => ih (keeps _ _ m law)) law

end

end Sys2Proof.Proofs.Steps

/-! # The window table (01): WINDOW-SET, decode and the law of the windows -/

namespace Sys2Proof.Proofs.WindowTable

-- One theorem after another: the proofs of this part at once ask for more threads than the check allows.
set_option Elab.async false

open Sys2Proof.Machine Sys2Proof.Safety Sys2Proof.Proofs.Steps Sys2Proof.Proofs.AddressWindows

/-! ## Overlap (01 R9) -/

/-- The base is aligned to the size of the record (01 R1). -/
def Aligned (w : Window) : Prop := w.hostBase.toNat % 2 ^ w.sizeCode.val = 0

/-- Two host ranges meet. -/
def Meets (w v : Window) : Prop := ∃ a, InRange w a ∧ InRange v a

theorem Meets.symm {w v : Window} : Meets w v → Meets v w := fun ⟨a, h, k⟩ => ⟨a, k, h⟩

/-- Of two multiples of `d`, one that lies below the other's end lies below its beginning. -/
theorem le_of_dvd_of_lt_add {d b c : Nat} (hb : d ∣ b) (hc : d ∣ c) (h : b < c + d) : b ≤ c := by
  obtain ⟨i, rfl⟩ := hb
  obtain ⟨j, rfl⟩ := hc
  have : i < j + 1 := Nat.lt_of_mul_lt_mul_left (a := d) (by rw [Nat.mul_add, Nat.mul_one]; exact h)
  exact Nat.mul_le_mul_left d (Nat.le_of_lt_succ this)

theorem inRange_base (w : Window) : InRange w w.hostBase :=
  ⟨Nat.le_refl _, Nat.lt_add_of_pos_right (Nat.two_pow_pos _)⟩

/-- A smaller aligned window meets a larger one exactly when its base lies in it. -/
theorem meets_iff_base_inRange {w v : Window} (hw : Aligned w) (hv : Aligned v)
    (smaller : v.sizeCode.val ≤ w.sizeCode.val) : Meets w v ↔ InRange w v.hostBase := by
  constructor
  · rintro ⟨a, ⟨wlo, whi⟩, vlo, vhi⟩
    have dw : 2 ^ v.sizeCode.val ∣ w.hostBase.toNat :=
      (pow_dvd_pow 2 smaller).trans (Nat.dvd_of_mod_eq_zero hw)
    exact ⟨le_of_dvd_of_lt_add dw (Nat.dvd_of_mod_eq_zero hv) (Nat.lt_of_le_of_lt wlo vhi),
      Nat.lt_of_le_of_lt vlo whi⟩
  · exact fun h => ⟨v.hostBase, h, inRange_base v⟩

/-- The overlap test of R9 finds exactly the windows whose ranges meet. -/
theorem overlaps_iff {w v : Window} (hw : Aligned w) (hv : Aligned v) :
    w.overlaps v = true ↔ Meets w v := by
  unfold Window.overlaps
  split
  · next smaller => rw [meets_iff_base_inRange hw hv smaller, ← covers_iff hw]; rfl
  · next larger =>
    have sym : Meets w v ↔ Meets v w := ⟨Meets.symm, Meets.symm⟩
    rw [sym, meets_iff_base_inRange hv hw (by omega), ← covers_iff hv]
    rfl

/-! ## The checks of WINDOW-SET (01 R8) -/

/-- The record is inconsistent (01 R8 checks 2 to 4). -/
def Inconsistent (w : Window) : Prop :=
  w.hostBase.toNat % 2 ^ w.sizeCode.val ≠ 0 ∨ w.localBase.toNat % 4 ≠ 0
    ∨ (w.prefetchable = true ∧ w.isVolatile = true)

/-- The enabled record `j`, another than `i`, whose range meets that of `w`. -/
def Conflicts (t : Table Window 16) (i : Fin 16) (w : Window) (j : Fin 16) : Prop :=
  j ≠ i ∧ (t.get j).enabled = true ∧ Meets w (t.get j)

theorem aligned_iff (w : Window) : clearLow w.hostBase w.sizeCode.val = w.hostBase ↔ Aligned w := by
  have h : (clearLow w.hostBase w.sizeCode.val = w.hostBase) ↔ w.covers w.hostBase = true := by
    simp [Window.covers]
  unfold Aligned
  rw [← BitVec.toNat_inj, clearLow_toNat]
  have := Nat.div_add_mod' w.hostBase.toNat (2 ^ w.sizeCode.val)
  omega

variable {t : Table Window 16}

theorem WindowLaw.aligned' (law : WindowLaw t) {j : Fin 16} (h : (t.get j).enabled = true) :
    Aligned (t.get j) := (law.aligned j h).1

theorem conflicts_iff (law : WindowLaw t) (i : Fin 16) {w : Window} (hw : Aligned w) (j : Fin 16) :
    (j != i && (t.get j).enabled && w.overlaps (t.get j)) = true ↔ Conflicts t i w j := by
  simp only [Bool.and_eq_true, bne_iff_ne, and_assoc, Conflicts]
  refine and_congr_right fun _ => and_congr_right fun he => ?_
  exact overlaps_iff hw (WindowLaw.aligned' law he)

/-- The search for the lowest index: found at `j`. -/
theorem find_indices_eq_some {n : Nat} {p : Fin n → Bool} {j : Fin n} (h : p j = true)
    (low : ∀ k, k < j → p k = false) : (Table.indices n).find? p = some j := by
  rw [List.find?_eq_some_iff_getElem]
  refine ⟨h, j.val, by simp [Table.indices], by simp [Table.indices], fun k hk => ?_⟩
  have := low ⟨k, by omega⟩ hk
  simpa [Table.indices] using this

theorem find_indices_eq_none {n : Nat} {p : Fin n → Bool} :
    (Table.indices n).find? p = none ↔ ∀ k, p k = false := by
  simp [List.find?_eq_none, Table.mem_indices]

/-- What the window table answers to a record of WINDOW-SET (01 R8, R9). -/
theorem checkWindow_disabled (i : Fin 16) {w : Window} (h : w.enabled = false) :
    checkWindow t i w = (.ok, none) := by simp [checkWindow, h]

theorem checkWindow_inconsistent (i : Fin 16) {w : Window} (h : w.enabled = true)
    (bad : Inconsistent w) : checkWindow t i w = (.badField, none) := by
  unfold checkWindow
  simp only [h, Bool.not_true, Bool.false_eq_true, if_false]
  split
  · rfl
  · next hb =>
    split
    · rfl
    · next hl =>
      rcases bad with ha | hc | ⟨hp, hv⟩
      · exact absurd ((aligned_iff w).mp (by simpa using hb)) ha
      · exact absurd hc (by simpa using hl)
      · simp [hp, hv]

/-- What the window table answers to a consistent record, given the lowest record that it meets. -/
def verdict : Option (Fin 16) → Status × Option (Fin 16)
  | some j => (.overlap, some j)
  | none => (.ok, none)

/-- A consistent record is judged by the lowest record that it meets. -/
theorem checkWindow_consistent (i : Fin 16) {w : Window} (h : w.enabled = true)
    (good : ¬Inconsistent w) : checkWindow t i w = verdict (conflictIndex t i w) := by
  simp only [Inconsistent, not_or, not_not] at good
  obtain ⟨ha, hl, hp⟩ := good
  have hb := (aligned_iff w).mpr ha
  have hf : (w.prefetchable && w.isVolatile) = false := by simpa using hp
  unfold checkWindow
  simp only [h, hb, hl, hf, Bool.not_true, bne_self_eq_false, ne_eq, not_true_eq_false,
    decide_false, Bool.false_eq_true, if_false]
  cases conflictIndex t i w <;> rfl

theorem checkWindow_conflict (law : WindowLaw t) (i : Fin 16) {w : Window} (h : w.enabled = true)
    (good : ¬Inconsistent w) {j : Fin 16} (meets : Conflicts t i w j)
    (low : ∀ k, k < j → ¬Conflicts t i w k) : checkWindow t i w = (.overlap, some j) := by
  have hw : Aligned w := by unfold Inconsistent at good; unfold Aligned; omega
  have : conflictIndex t i w = some j :=
    find_indices_eq_some ((conflicts_iff law i hw j).mpr meets)
      fun k hk => Bool.eq_false_iff.mpr (mt (conflicts_iff law i hw k).mp (low k hk))
  rw [checkWindow_consistent i h good, this, verdict]

theorem checkWindow_clear (law : WindowLaw t) (i : Fin 16) {w : Window} (h : w.enabled = true)
    (good : ¬Inconsistent w) (free : ∀ k, ¬Conflicts t i w k) : checkWindow t i w = (.ok, none) := by
  have hw : Aligned w := by unfold Inconsistent at good; unfold Aligned; omega
  have : conflictIndex t i w = none :=
    find_indices_eq_none.mpr fun k => Bool.eq_false_iff.mpr (mt (conflicts_iff law i hw k).mp (free k))
  rw [checkWindow_consistent i h good, this, verdict]

/-- A record that WINDOW-SET takes is consistent and meets no other enabled record, if it is enabled. -/
theorem checkWindow_ok (law : WindowLaw t) {i : Fin 16} {w : Window} (ok : (checkWindow t i w).1 = .ok)
    (h : w.enabled = true) : ¬Inconsistent w ∧ ∀ k, ¬Conflicts t i w k := by
  have good : ¬Inconsistent w := fun bad => by
    rw [checkWindow_inconsistent i h bad] at ok; cases ok
  have hw : Aligned w := by unfold Inconsistent at good; unfold Aligned; omega
  refine ⟨good, fun k hk => ?_⟩
  rw [checkWindow_consistent i h good] at ok
  cases found : conflictIndex t i w with
  | some j => rw [found] at ok; cases ok
  | none =>
    have := find_indices_eq_none.mp found k
    rw [(conflicts_iff law i hw k).mpr hk] at this
    cases this

/-! ## The law of the windows -/

theorem windowLaw_of_disabled (h : ∀ i, (t.get i).enabled = false) : WindowLaw t where
  size i e := by simp [h i] at e
  aligned i e := by simp [h i] at e
  attributes i e := by simp [h i] at e
  disjoint i _ _ e := by simp [h i] at e

/-- A taken WINDOW-SET keeps the law. -/
theorem windowLaw_set (law : WindowLaw t) {i : Fin 16} {w : Window} (size : 12 ≤ w.sizeCode.val)
    (ok : (checkWindow t i w).1 = .ok) : WindowLaw (t.set i w) := by
  have taken := checkWindow_ok law ok
  have apart : ∀ j, j ≠ i → w.enabled = true → (t.get j).enabled = true →
      ∀ a, ¬(InRange w a ∧ InRange (t.get j) a) :=
    fun j hj he hje a ha => (taken he).2 j ⟨hj, hje, a, ha⟩
  constructor
  case size =>
    intro j e
    by_cases h : i = j
    · subst h; rwa [Table.get_set_self]
    · rw [Table.get_set_of_ne _ _ h] at e ⊢; exact law.size j e
  case aligned =>
    intro j e
    by_cases h : i = j
    · subst h
      rw [Table.get_set_self] at e ⊢
      have := (taken e).1
      unfold Inconsistent at this
      omega
    · rw [Table.get_set_of_ne _ _ h] at e ⊢; exact law.aligned j e
  case attributes =>
    intro j e
    by_cases h : i = j
    · subst h
      rw [Table.get_set_self] at e ⊢
      exact fun bad => (taken e).1 (.inr (.inr bad))
    · rw [Table.get_set_of_ne _ _ h] at e ⊢; exact law.attributes j e
  case disjoint =>
    intro j k ne ej ek a
    by_cases h : i = j
    · subst h
      rw [Table.get_set_self] at ej ⊢
      rw [Table.get_set_of_ne _ _ ne] at ek ⊢
      exact apart k ne.symm ej ek a
    · rw [Table.get_set_of_ne _ _ h] at ej ⊢
      by_cases h' : i = k
      · subst h'
        rw [Table.get_set_self] at ek ⊢
        exact fun ha => apart j ne ek ej a ha.symm
      · rw [Table.get_set_of_ne _ _ h'] at ek ⊢
        exact law.disjoint j k ne ej ek a

/-- The moves that leave the window table alone: all but a reset and a taken WINDOW-SET. -/
theorem move_windows {s u : State} (m : Move s u) :
    (∃ c, u = resetBlocks c s)
      ∨ (∃ i w, 12 ≤ w.sizeCode.val ∧ (checkWindow s.windows i w).1 = .ok
          ∧ u.windows = s.windows.set i w)
      ∨ u.windows = s.windows := by
  cases m with
  | reset c => exact .inl ⟨c, rfl⟩
  | window i w size ok => exact .inr (.inl ⟨i, w, size, ok, rfl⟩)
  | quiet h => exact .inr (.inr (h.windows (by simp)))
  | tick => exact .inr (.inr ((tick_touches s).windows (by simp)))
  | down c => exact .inr (.inr ((goDown_touches c s).windows (by simp)))
  | flush => exact .inr (.inr ((flushPart_touches s).windows (by simp)))
  | start p c _ => exact .inr (.inr ((startChoice_touches p c s).windows (by simp)))
  | ends p x o d _ => exact .inr (.inr ((endTxn_touches p x o d s).windows (by simp)))
  | holdOff item => exact .inr (.inr ((endHoldOff_touches item s).windows (by simp)))
  | admitFence id t _ => exact .inr (.inr ((admitFence_touches id t s).windows (by simp)))
  | abort q => exact .inr (.inr ((abortTarget_touches q s).windows (by simp)))
  | expire t => exact .inr (.inr ((expireTag_touches t s).windows (by simp)))
  | release t ts _ => exact .inr (.inr ((releaseTag_touches t (s.setReady ts)).windows (by simp)))
  | loadJob j d => exact .inr (.inr ((loadJob_touches j d s).windows (by simp)))
  | startJob j _ => exact .inr (.inr ((startJob_touches j s).windows (by simp)))
  | pauseJob j => exact .inr (.inr ((pauseJob_touches j s).windows (by simp)))
  | resumeJob j => exact .inr (.inr ((resumeJob_touches j s).windows (by simp)))
  | stopJob j => exact .inr (.inr ((stopJob_touches j s).windows (by simp)))
  | rise i => exact .inr (.inr ((judgeSource_touches i _).windows (by simp)))
  | irqSet i b _ => exact .inr (.inr ((takeIrqSet_touches i b s).windows (by simp)))
  | mask v i => exact .inr (.inr ((maskSource_touches v i s).windows (by simp)))
  | done i _ => exact .inr (.inr ((closeCycle_touches i s).windows (by simp)))
  | _ => exact .inr (.inr rfl)

theorem move_windowLaw {s u : State} (m : Move s u) (law : WindowLaw s.windows) :
    WindowLaw u.windows := by
  rcases move_windows m with ⟨c, rfl⟩ | ⟨i, w, size, ok, h⟩ | h
  · exact windowLaw_of_disabled fun i => by
      rw [show (resetBlocks c s).windows = Table.fill 16 Window.zero from rfl, Table.get_fill]; rfl
  · rw [h]; exact windowLaw_set law size ok
  · rw [h]; exact law

/-- Settles O55: of the moves that make up a step, a reset disables every record, a taken WINDOW-SET has
passed the checks of R8, and every other leaves the table alone. -/
theorem windowLawIsKeptByEveryStep : Obligations.WindowLawIsKeptByEveryStep :=
  fun _ _ law h => kept_by_step (fun _ _ => move_windowLaw) h law

end Sys2Proof.Proofs.WindowTable

/-! # Intake (08 R145 to R149), the queries and the settings (07 R135 to R139) -/

namespace Sys2Proof.Proofs.Requests

-- One theorem after another: the proofs of this part at once ask for more threads than the check allows.
set_option Elab.async false

open Sys2Proof.Machine Sys2Proof.Safety Sys2Proof.Proofs.AddressWindows

/-! ## An expected request -/

section

variable {f : FrameHead} {s : State} {k : RequestKind} {body : List Byte}

theorem needsPlace_post : needsPlace RequestKind.post.code = false := by decide

/-- An expected request with room for its reply comes before intake. -/
theorem exec_request (expected : Expected f s) (room : Room s) (notPost : k ≠ .post) (id : Half)
    (body : List Byte) :
    exec (requestInstr k f id body) s = .next (intake k id body (owner k id body) (took s)) := by
  rw [exec_requestInstr, dataFrame_expected _ _ _ _ expected (.inr room), takenMessage, ofCode_code]
  cases k with
  | post => exact absurd rfl notPost
  | _ => rfl

/-- An expected request that passes intake is its owner's. -/
theorem exec_request_ok (expected : Expected f s) (room : Room s) (notPost : k ≠ .post) (id : Half)
    (ok : intakeRefusal k body = none) :
    exec (requestInstr k f id body) s = .next (owner k id body (took s)) := by
  rw [exec_request expected room notPost, intake, ok]

/-- An expected POST needs no place. -/
theorem exec_post (expected : Expected f s) (id : Half) (body : List Byte) :
    exec (.post f id body) s = .next (intakePost body (took s)) :=
  congrArg Host.Outcome.next (dataFrame_expected _ id body _ expected (.inl needsPlace_post))

/-! ## Intake's checks (08 R145) -/

theorem intakeRefusal_ok (length : body.length = requiredLength k body)
    (fields : fieldsOk k body = true) : intakeRefusal k body = none := by
  simp [intakeRefusal, lengthOk, length, fields]

theorem intakeRefusal_length (h : body.length ≠ requiredLength k body) :
    intakeRefusal k body = some .malformed := by simp [intakeRefusal, lengthOk, h]

theorem intakeRefusal_fields (length : body.length = requiredLength k body)
    (fields : fieldsOk k body = false) : intakeRefusal k body = some .badField := by
  simp [intakeRefusal, lengthOk, length, fields]

theorem exec_unknownKind (expected : Expected f s) (room : Room s) {kind : Byte} (id : Half)
    (body : List Byte) (unknown : RequestKind.ofCode kind = none) :
    exec (.unknownKind f kind id body) s = .next (answer (took s) id kind 2 []) := by
  refine congrArg Host.Outcome.next ((dataFrame_expected _ id body _ expected (.inr room)).trans ?_)
  rw [takenMessage, unknown]
  rfl

/-- A POST of the right length holds its address. -/
theorem four_le_of_requiredLength_post (h : body.length = requiredLength .post body) :
    4 ≤ body.length := by
  rw [requiredLength] at h
  omega

end

/-- Settles O18: an expected message comes before intake, whose checks are those of R145. -/
theorem intakeRefusesBadMessages : Obligations.IntakeRefusesBadMessages := by
  intro f id body s expected
  refine ⟨fun kind unknown room => exec_unknownKind expected room id body unknown,
    fun k notPost room => ⟨fun h => ?_, fun length fields => ?_⟩, fun h => ?_, fun length fields => ?_⟩
  · rw [exec_request expected room notPost, intake, intakeRefusal_length h]; rfl
  · rw [exec_request expected room notPost, intake, intakeRefusal_fields length fields]; rfl
  · rw [exec_post expected, intakePost, intakeRefusal_length h]; rfl
  · rw [exec_post expected, intakePost, intakeRefusal_fields length fields]
    refine congrArg (fun d => Host.Outcome.next (report .postRefused d (took s))) ?_
    rw [postIntakeDetail, if_pos (four_le_of_requiredLength_post length)]

/-! ## Fields read back (08 R146) -/

theorem ofBE_be32 (x : Word) : ofBE (be32 x) = x.toNat := by
  have := x.isLt
  simp only [ofBE, be32, List.foldl_cons, List.foldl_nil, BitVec.extractLsb'_toNat,
    Nat.shiftRight_eq_div_pow]
  omega

theorem wordBE_be32 (x : Word) : wordBE (be32 x) = x := by rw [wordBE, ofBE_be32, BitVec.ofNat_toNat, BitVec.setWidth_eq]

theorem ofBE_be16 (x : Half) : ofBE (be16 x) = x.toNat := by
  have := x.isLt
  simp only [ofBE, be16, List.foldl_cons, List.foldl_nil, BitVec.extractLsb'_toNat,
    Nat.shiftRight_eq_div_pow]
  omega

/-- A 16-bit field is read back from its two bytes. -/
theorem half_ofBE_be16 (x : Half) : BitVec.ofNat 16 (ofBE (be16 x)) = x := by
  rw [ofBE_be16, BitVec.ofNat_toNat, BitVec.setWidth_eq]

theorem indexByte_toNat {n : Nat} (small : n ≤ 256) (i : Fin n) : (BitVec.ofNat 8 i.val).toNat = i.val := by
  rw [BitVec.toNat_ofNat]
  exact Nat.mod_eq_of_lt (by omega)

theorem yesNo_le (b : Bool) : (yesNo b).toNat ≤ 1 := by cases b <;> decide

theorem yesNo_eq_one (b : Bool) : (yesNo b == 1) = b := by cases b <;> rfl

@[simp] theorem yesNo_true : yesNo true = 1 := rfl

@[simp] theorem yesNo_false : yesNo false = 0 := rfl

/-- Two REPLYs with the same fields. -/
theorem next_answer_congr {s : State} {id : Half} {kind st : Byte} {l m : List Byte} (h : l = m) :
    (Host.Outcome.next (answer s id kind st l) : Host.Outcome State Fault Refusal) =
      .next (answer s id kind st m) := by rw [h]

@[simp] theorem took_settings (s : State) : (took s).settings = s.settings := rfl
@[simp] theorem took_ports (s : State) : (took s).ports = s.ports := rfl
@[simp] theorem took_lists (s : State) : (took s).lists = s.lists := rfl
@[simp] theorem took_epoch (s : State) : (took s).link.epoch = s.link.epoch := rfl

/-- Intake's check of a request whose body is the one byte of an index. -/
theorem intakeRefusal_index {k : RequestKind} {hi n : Nat} (small : n ≤ hi) (byte : n < 256)
    (length : ∀ body, requiredLength k body = 1)
    (fields : ∀ b, fieldsOk k [b] = atMost hi b) : intakeRefusal k [BitVec.ofNat 8 n] = none := by
  refine intakeRefusal_ok (by rw [length]; rfl) ?_
  rw [fields, atMost, BitVec.toNat_ofNat, Nat.mod_eq_of_lt byte]
  exact decide_eq_true small

/-! ## Queries -/

section

variable {f : FrameHead} {s : State}

theorem postedEntries_eq (s : State) (p : Fin 4) :
    s.postedEntries p = (s.lists.get p).countP Entry.isPost := by
  refine congrArg (List.countP · _) (funext fun e => ?_)
  cases e <;> rfl

theorem nonPostedEntries_eq (s : State) (p : Fin 4) :
    s.nonPostedEntries p = (s.lists.get p).countP fun e => !e.isPost := by
  refine congrArg (List.countP · _) (funext fun e => ?_)
  cases e <;> rfl

theorem portStatusBytes_eq (s : State) : portStatusBytes s = fun p =>
    [(s.ports.get p).state.code, (s.ports.get p).holds.byte,
      BitVec.ofNat 8 ((s.lists.get p).countP Entry.isPost),
      BitVec.ofNat 8 ((s.lists.get p).countP fun e => !e.isPost)] := by
  funext p
  rw [portStatusBytes, postedEntries_eq, nonPostedEntries_eq]
  rfl

theorem exec_identify (expected : Expected f s) (room : Room s) (id : Half) :
    exec (.identify f id []) s = .next (answer (took s) id 0x20 0 (identifyFields (took s))) :=
  exec_request_ok (k := .identify) expected room (by decide) id rfl

theorem exec_configGet (expected : Expected f s) (room : Room s) (id : Half) :
    exec (.configGet f id []) s = .next (answer (took s) id 0x23 0
      [s.settings.missPolicy.code, s.settings.recordMode.code, s.settings.replayTimeout]) :=
  exec_request_ok (k := .configGet) expected room (by decide) id rfl

theorem exec_statusGet (expected : Expected f s) (room : Room s) (id : Half) :
    exec (.statusGet f id []) s = .next (answer (took s) id 0x21 0 (statusFields (took s))) :=
  exec_request_ok (k := .statusGet) expected room (by decide) id rfl

theorem exec_portGet (expected : Expected f s) (room : Room s) (id : Half) (p : Fin 4) :
    exec (.portGet f id [BitVec.ofNat 8 p.val]) s = .next (answer (took s) id 0x39 0
      (BitVec.ofNat 8 p.val :: portGetFields (took s) p)) := by
  refine (exec_request_ok (k := .portGet) expected room (by decide) id (intakeRefusal_index
    (Nat.le_of_lt_succ p.isLt) (by omega) (fun _ => rfl) (fun _ => rfl))).trans ?_
  have index : indexOf 3 (u8 [BitVec.ofNat 8 p.val] 0) = p := indexOf_ofNat (by decide) p
  rw [owner, ownPortGet, index]
  rfl

theorem exec_jobGet (expected : Expected f s) (room : Room s) (id : Half) (j : Fin 4) :
    exec (.jobGet f id [BitVec.ofNat 8 j.val]) s = .next (answer (took s) id 0x45 0
      (BitVec.ofNat 8 j.val :: (s.jobs.get j).getFields)) := by
  refine (exec_request_ok (k := .jobGet) expected room (by decide) id (intakeRefusal_index
    (Nat.le_of_lt_succ j.isLt) (by omega) (fun _ => rfl) (fun _ => rfl))).trans ?_
  have index : indexOf 3 (u8 [BitVec.ofNat 8 j.val] 0) = j := indexOf_ofNat (by decide) j
  rw [owner, ownJobGet, index]
  rfl

theorem exec_irqGet (expected : Expected f s) (room : Room s) (id : Half) (i : Fin 32) :
    exec (.irqGet f id [BitVec.ofNat 8 i.val]) s = .next (answer (took s) id 0x53 0
      (BitVec.ofNat 8 i.val :: (s.sources.get i).getFields (s.pins.lines.get i))) := by
  refine (exec_request_ok (k := .irqGet) expected room (by decide) id (intakeRefusal_index
    (Nat.le_of_lt_succ i.isLt) (by omega) (fun _ => rfl) (fun _ => rfl))).trans ?_
  have index : indexOf 31 (u8 [BitVec.ofNat 8 i.val] 0) = i := indexOf_ofNat (by decide) i
  rw [owner, ownIrqGet, index]
  rfl

end

/-- Settles O48: each query passes intake and its owner answers with the fields, which are those of the
state as it stands. -/
theorem queriesReportAndChangeNothing : Obligations.QueriesReportAndChangeNothing := by
  intro f id s expected room
  refine ⟨?_, exec_configGet expected room id, ?_, fun p => ?_, fun j => ?_, fun i => ?_⟩
  · refine (exec_identify expected room id).trans (next_answer_congr ?_)
    cases h : s.settings.resetCause <;> simp [identifyFields, h] <;> rfl
  · rw [exec_statusGet expected room, statusFields, portStatusBytes_eq, List.flatMap_def]
    simp only [LinkCounters.bytes, List.append_assoc]
    rfl
  · refine (exec_portGet expected room id p).trans (next_answer_congr ?_)
    rw [portGetFields, postedEntries_eq, nonPostedEntries_eq]
    cases h : (s.ports.get p).pendingFill with
    | none => simp [h, countByte]; rfl
    | some a => simp [h, countByte]
  · refine (exec_jobGet expected room id j).trans (next_answer_congr ?_)
    rw [JobSlot.getFields]
    cases h : (s.jobs.get j).chunk <;> simp [optStatus, crcReported, zeros, countByte]
  · refine (exec_irqGet expected room id i).trans (next_answer_congr ?_)
    rw [Source.getFields]
    cases h : (s.sources.get i).vectorRead <;> cases k : (s.sources.get i).ackWrite <;>
      simp [zeros, countByte]

/-! ## Settings -/

theorem intakeRefusal_configSet {a b c : Byte} (ha : a.toNat ≤ 1) (hb : b.toNat ≤ 1) (hc : c ≠ 0) :
    intakeRefusal .configSet [a, b, c] = none := by
  refine intakeRefusal_ok rfl ?_
  have : 1 ≤ c.toNat := Nat.one_le_iff_ne_zero.mpr fun h => hc (BitVec.eq_of_toNat_eq h)
  simp [fieldsOk, isYesNo, u8, ha, hb, this]

/-- The body of a PORT-SET of port `p` (08 R146). -/
def portSetBody (p : Byte) (v : PortSettings) : List Byte :=
  [p, v.responseLimit, v.retryLimit, v.retryDelay] ++ be16 v.completionLimit ++ [v.jobShare]

theorem u16_portSetBody (p : Byte) (v : PortSettings) : u16 (portSetBody p v) 4 = v.completionLimit :=
  half_ofBE_be16 v.completionLimit

theorem portSettingsOf_portSetBody (p : Byte) (v : PortSettings) :
    portSettingsOf (portSetBody p v) = v := by
  rw [portSettingsOf, u16_portSetBody]
  rfl

/-- A number that is not 0 is at least 1. -/
theorem one_le_toNat {n : Nat} {x : BitVec n} (h : x ≠ 0) : 1 ≤ x.toNat :=
  Nat.one_le_iff_ne_zero.mpr fun e => h (BitVec.eq_of_toNat_eq (by simpa using e))

theorem intakeRefusal_portSet (p : Fin 4) {v : PortSettings} (h1 : v.responseLimit ≠ 0)
    (h2 : v.retryLimit.toNat ≤ 15) (h3 : v.retryDelay ≠ 0) (h4 : v.completionLimit ≠ 0)
    (h5 : v.jobShare ≠ 0) (h6 : v.jobShare.toNat ≤ 15) :
    intakeRefusal .portSet (portSetBody (BitVec.ofNat 8 p.val) v) = none := by
  refine intakeRefusal_ok rfl ?_
  have index : (BitVec.ofNat 8 p.val).toNat ≤ 3 := by rw [indexByte_toNat (by decide) p]; omega
  simp only [fieldsOk, u16_portSetBody, Bool.and_eq_true, atMost, decide_eq_true_eq]
  exact ⟨⟨⟨⟨⟨index, one_le_toNat h1⟩, h2⟩, one_le_toNat h3⟩, one_le_toNat h4⟩, one_le_toNat h5, h6⟩

theorem ownPortSet_eq (id : Half) (p : Fin 4) (v : PortSettings) (s : State) :
    ownPortSet id (portSetBody (BitVec.ofNat 8 p.val) v) s =
      answer { s with ports := s.ports.set p { s.ports.get p with settings := v } } id 0x38 0
        [BitVec.ofNat 8 p.val] := by
  have index : indexOf 3 (u8 (portSetBody (BitVec.ofNat 8 p.val) v) 0) = p :=
    indexOf_ofNat (by decide) p
  rw [ownPortSet, index, portSettingsOf_portSetBody]
  rfl

/-- Settles O49: each request's fields pass intake and are read back as they were given. -/
theorem settingsRequestsTakeTheirFields : Obligations.SettingsRequestsTakeTheirFields := by
  intro f id s expected room
  refine ⟨fun hold severe timeout ht => ?_, fun p v h1 h2 h3 h4 h5 h6 => ?_, fun r => ?_, ?_⟩
  · refine (exec_request_ok (k := .configSet) expected room (by decide) id
      (intakeRefusal_configSet (yesNo_le hold) (yesNo_le severe) ht)).trans ?_
    cases hold <;> cases severe <;> rfl
  · exact (exec_request_ok (k := .portSet) expected room (by decide) id
      (intakeRefusal_portSet p h1 h2 h3 h4 h5 h6)).trans
      (congrArg Host.Outcome.next (ownPortSet_eq id p v (took s)))
  · refine (exec_request_ok (k := .linkRate) expected room (by decide) id (intakeRefusal_index
      (Nat.le_of_lt_succ r.isLt) (by omega) (fun _ => rfl) (fun _ => rfl))).trans ?_
    have index : indexOf 4 (u8 [BitVec.ofNat 8 r.val] 0) = r := indexOf_ofNat (by decide) r
    rw [owner, ownLinkRate, index]
    rfl
  · exact exec_request_ok (k := .reset) (body := [1]) expected room (by decide) id rfl

end Sys2Proof.Proofs.Requests

/-! # The fault unit (07): reports and the law of the fault unit -/

namespace Sys2Proof.Proofs.FaultUnitLaw

-- One theorem after another: the proofs of this part at once ask for more threads than the check allows.
set_option Elab.async false

open Sys2Proof.Machine Sys2Proof.Safety Sys2Proof.Proofs.Steps

/-! ## A reported fault (07 R130) -/

theorem allOnes_iff {n : Nat} (x : BitVec n) : x = BitVec.allOnes n ↔ x.toNat = 2 ^ n - 1 := by
  rw [← BitVec.toNat_inj, BitVec.toNat_allOnes]

/-- A counter that stays at its largest value, by its value. -/
theorem satInc_eq {n : Nat} (x : BitVec n) : satInc x = if x.toNat = 2 ^ n - 1 then x else x + 1 := by
  unfold satInc
  simp only [allOnes_iff]

theorem admits_iff (m : RecordMode) (k : FaultKind) :
    m.admits k = true ↔ m = .all ∨ k ≠ .accessFailed := by
  cases m <;> simp [RecordMode.admits]

/-- The fault unit that has counted a fault and has it in its summary set. -/
def counted (u : FaultUnit) (k : FaultKind) : FaultUnit :=
  { u with counters := u.counters.modify k.index satInc, summary := u.summary.set k.index true }

section

variable {u : FaultUnit} {m : RecordMode} {k : FaultKind} (e : Byte) (d : FaultDetail)

theorem take_refused (h : m.admits k = false) : u.take m e k d = counted u k := by
  simp only [FaultUnit.take, h, Bool.false_eq_true, if_false]
  rfl

theorem take_full (h : m.admits k = true) {r : FaultRecord} (held : u.record = some r) :
    u.take m e k d = { counted u k with record := some { r with more := satInc r.more } } := by
  simp only [FaultUnit.take, h, held, if_true]
  rfl

theorem take_empty (h : m.admits k = true) (empty : u.record = none) :
    u.take m e k d = FaultUnit.call { counted u k with record := some ⟨k, d, e, 0⟩ } := by
  simp only [FaultUnit.take, h, empty, if_true]
  rfl

end

/-- Settles O51: the fault unit counts every report and captures the one that the mode admits. -/
theorem reportedFaultIsCountedAndCaptured : Obligations.ReportedFaultIsCountedAndCaptured := by
  intro k d s u n counted' admitted
  have count : counted u k = counted' := by rw [counted, Table.modify, satInc_eq]; rfl
  refine ⟨fun no => ?_, fun yes r held => ?_, fun yes empty => ?_⟩
  · rw [report, take_refused _ _ (Bool.eq_false_iff.mpr (mt (admits_iff _ _).mp no)), count]
    rfl
  · rw [report, take_full _ _ ((admits_iff _ _).mpr yes) held, count, satInc_eq]
    rfl
  · rw [report, take_empty _ _ ((admits_iff _ _).mpr yes) empty, count, FaultUnit.call]
    have notice : counted'.notice = u.notice := rfl
    simp only [notice]
    cases h : u.notice <;> simp [State.setFaults, counted']

/-! ## The law of the fault unit -/

/-- Whatever the fault unit of `s` is, the law of its fault unit holds of that of `t` too. -/
def Keeps (s t : State) : Prop := FaultLaw s.faults → FaultLaw t.faults

section

variable {s t u : State}

theorem Keeps.refl (s : State) : Keeps s s := id

theorem Keeps.trans (h : Keeps s t) (k : Keeps t u) : Keeps s u := fun law => k (h law)

theorem keeps_of_eq (h : t.faults = s.faults) : Keeps s t := fun law => h ▸ law

theorem Keeps.after (k : Keeps t u) (h : t.faults = s.faults) : Keeps s u := (keeps_of_eq h).trans k

theorem keeps_of_touches {bs : List Block} (h : Touches bs s t) (n : Block.faults ∉ bs := by simp) :
    Keeps s t := keeps_of_eq (h.faults n)

theorem faultLaw_call {u : FaultUnit} {r : FaultRecord} (law : FaultLaw { u with record := none })
    (held : u.record = some r) (kind : u.summary.get r.kind.index = true) : FaultLaw u.call := by
  have summary : ∀ r', u.record = some r' → u.summary.get r'.kind.index = true := by
    intro r' h
    rw [held] at h
    cases h
    exact kind
  unfold FaultUnit.call
  split
  · exact ⟨fun _ => by simp [held], fun h => by simpa using (law.renewal h).2, summary⟩
  · exact ⟨fun _ => by simp [held], fun h => by simpa using (law.renewal h).2, summary⟩
  · next sent => exact ⟨fun h => by simp [sent] at h, fun _ => ⟨sent, by simp [held]⟩, summary⟩

/-- A report keeps the law: it adds to the summary set, and captures only what it adds. -/
theorem faultLaw_take {u : FaultUnit} (law : FaultLaw u) (m : RecordMode) (e : Byte) (k : FaultKind)
    (d : FaultDetail) : FaultLaw (u.take m e k d) := by
  have kept : ∀ r, u.record = some r → (u.summary.set k.index true).get r.kind.index = true := by
    intro r h
    rw [Table.get_set]
    split
    · rfl
    · exact law.summary r h
  unfold FaultUnit.take
  dsimp only
  split
  · split
    · next empty =>
      have noRenewal : u.renewal ≠ true := fun h => by simpa [empty] using (law.renewal h).2
      refine faultLaw_call ⟨fun h => ?_, fun h => absurd h noRenewal, fun _ h => by cases h⟩ rfl
        (Table.get_set_self _ _ _)
      simpa [empty] using law.due h
    · next r held =>
      exact ⟨fun _ => rfl, fun h => ⟨(law.renewal h).1, rfl⟩, fun r' h => by cases h; exact kept r held⟩
  · exact ⟨law.due, law.renewal, kept⟩

/-- LINK-DOWN is admitted in every mode, so that the record is full once it has been reported. -/
theorem take_linkDown_record (u : FaultUnit) (m : RecordMode) (e : Byte) (d : FaultDetail) :
    (u.take m e .linkDown d).record.isSome = true := by
  have : m.admits .linkDown = true := by cases m <;> rfl
  unfold FaultUnit.take
  simp only [this, if_true]
  split
  · unfold FaultUnit.call; split <;> rfl
  · rfl

theorem report_keeps (k : FaultKind) (d : FaultDetail) (s : State) : Keeps s (report k d s) :=
  fun law => faultLaw_take law _ _ _ _

theorem goDown_keeps (c : Status) (s : State) : Keeps s (goDown c s) := by
  intro law
  have taken := faultLaw_take law s.settings.recordMode s.link.epoch .linkDown (linkDownDetail c)
  exact ⟨fun _ => take_linkDown_record _ _ _ _, fun h => Bool.noConfusion h, taken.summary⟩

theorem faultLaw_acknowledged {u : FaultUnit} (law : FaultLaw u) : FaultLaw u.acknowledged := by
  unfold FaultUnit.acknowledged
  split
  · split
    · next r => exact ⟨fun _ => (law.renewal r).2, fun h => Bool.noConfusion h, law.summary⟩
    · next r => exact ⟨fun h => NoticeState.noConfusion h, fun h => absurd h r, law.summary⟩
  · exact law

theorem faultLaw_clear {u : FaultUnit} (b : Bool) : FaultLaw (u.clear b) :=
  ⟨fun h => absurd h (FaultUnitRequests.clear_notice_ne_due u b), fun h => Bool.noConfusion h,
    fun _ h => Option.noConfusion rfl (heq_of_eq h)⟩

theorem faultLaw_zero : FaultLaw FaultUnit.zero :=
  ⟨fun h => NoticeState.noConfusion h, fun h => Bool.noConfusion h, fun _ h => by cases h⟩

/-! ### The operations that report faults -/

theorem makeReady_keeps (t : Fin 32) (st : Status) (b : Bool) (d : Option (List Byte)) (s : State) :
    Keeps s (makeReady t st b d s) := by
  unfold makeReady
  dsimp only
  split
  · exact Keeps.after (report_keeps _ _ _) rfl
  · exact keeps_of_eq rfl

theorem finishRequest_keeps (t : Fin 32) (st : Status) (d : Option (List Byte)) (s : State) :
    Keeps s (finishRequest t st d s) := by
  unfold finishRequest
  split
  · exact makeReady_keeps _ _ _ _ _
  · exact keeps_of_touches (dropResult_touches _ _)

theorem readyFromQueue_keeps (t : Fin 32) (st : Status) (s : State) : Keeps s (readyFromQueue t st s) :=
  Keeps.after (makeReady_keeps _ _ _ _ _) rfl

theorem readyFromBarrier_keeps (t : Fin 32) (st : Status) (s : State) :
    Keeps s (readyFromBarrier t st s) := Keeps.after (makeReady_keeps _ _ _ _ _) rfl

theorem foldOver_keeps {α : Type} {f : α → State → State} (xs : List α) (h : ∀ x u, Keeps u (f x u))
    (s : State) : Keeps s (foldOver xs f s) := by
  induction xs generalizing s with
  | nil => exact .refl _
  | cons x xs ih => exact (h x s).trans (ih (f x s))

theorem countEnd_keeps (b : Bool) (t : Fin 32) (s : State) : Keeps s (countEnd b t s) := by
  unfold countEnd
  dsimp only
  split
  · split
    · exact Keeps.after (makeReady_keeps _ _ _ _ _) rfl
    · exact keeps_of_eq rfl
  · exact .refl _

theorem endPost_keeps (k : Fin 32) (x : Posted) (b : Bool) (s : State) : Keeps s (endPost k x b s) :=
  Keeps.after (foldOver_keeps _ (fun t u => countEnd_keeps b t u) _) rfl

theorem flushTag_keeps (t : Fin 32) (s : State) : Keeps s (flushTag t s) := by
  unfold flushTag
  split
  · exact Keeps.after (makeReady_keeps _ _ _ _ _) rfl
  · exact readyFromBarrier_keeps _ _ _
  · exact makeReady_keeps _ _ _ _ _
  · exact .refl _

theorem flushRequests_keeps (s : State) : Keeps s (flushRequests s) :=
  Keeps.after (foldOver_keeps _ (fun t u => flushTag_keeps t u) _) rfl

theorem flushPart_keeps (s : State) : Keeps s (flushPart s) := by
  unfold flushPart
  exact (flushRequests_keeps s).trans ((keeps_of_touches (flushJobs_touches _)).trans
    ((keeps_of_touches (changeEveryPort_touches _ _)).trans (keeps_of_touches (flushSources_touches _))))

theorem abortTarget_keeps (q : Half) (s : State) : Keeps s (abortTarget q s).2 := by
  unfold abortTarget
  split
  · exact .refl _
  · split
    · exact readyFromQueue_keeps _ _ _
    · exact readyFromBarrier_keeps _ _ _
    · exact makeReady_keeps _ _ _ _ _
    · exact .refl _

theorem expireTag_keeps (t : Fin 32) (s : State) : Keeps s (expireTag t s) := by
  unfold expireTag
  dsimp only
  split
  · split
    · exact .refl _
    · exact Keeps.after (readyFromQueue_keeps _ _ _) rfl
  · exact Keeps.after (readyFromBarrier_keeps _ _ _) rfl
  · exact Keeps.after (makeReady_keeps _ _ _ _ _) rfl
  all_goals exact .refl _

theorem admitFence_keeps (id : Half) (t : Fin 32) (s : State) : Keeps s (admitFence id t s) := by
  unfold admitFence
  dsimp only
  split
  · exact Keeps.after (makeReady_keeps _ _ _ _ _) rfl
  · exact keeps_of_eq rfl

theorem endJob_keeps (j : Fin 4) (e : JobState) (s : State) : Keeps s (endJob j e s) := by
  unfold endJob
  dsimp only
  split
  · exact keeps_of_eq rfl
  · split
    · split
      · exact Keeps.after (keeps_of_touches (runJob_touches _ _ _)) rfl
      · exact Keeps.after (Keeps.after (report_keeps _ _ _) rfl) rfl
    · exact keeps_of_eq rfl

theorem chunkDone_keeps (j : Fin 4) (n : Nat) (d : List Byte) (s : State) :
    Keeps s (chunkDone j n d s) := by
  unfold chunkDone
  dsimp only
  split
  · exact Keeps.after (endJob_keeps _ _ _) rfl
  · split
    · exact keeps_of_eq rfl
    · exact Keeps.after (endJob_keeps _ _ _) rfl
    · exact Keeps.after (keeps_of_touches (layOut_touches _ _)) rfl

theorem chunkFailed_keeps (j p : Fin 4) (o : Offer) (st : Status) (s : State) :
    Keeps s (chunkFailed j p o st s) :=
  Keeps.after ((report_keeps _ _ _).trans (endJob_keeps _ _ _)) rfl

theorem chunkEnded_keeps (j p : Fin 4) (o : Offer) (st : Status) (d : List Byte) (s : State) :
    Keeps s (chunkEnded j p o st d s) := by
  unfold chunkEnded
  dsimp only
  split
  · exact keeps_of_eq rfl
  · split
    · split
      · exact keeps_of_touches (copyReadDone_touches _ _ _)
      · exact chunkDone_keeps _ _ _ _
    · exact chunkFailed_keeps _ _ _ _ _

theorem stopJob_keeps (j : Fin 4) (s : State) : Keeps s (stopJob j s).2 := by
  unfold stopJob
  dsimp only
  split
  · split
    · exact keeps_of_eq rfl
    · exact Keeps.after (endJob_keeps _ _ _) rfl
  · exact keeps_of_eq rfl
  · exact endJob_keeps _ _ _
  · exact .refl _

theorem operationEnded_keeps (op : IrqOp) (st : Status) (d : List Byte) (s : State) :
    Keeps s (operationEnded op st d s) := by
  have judged : ∀ i u, Keeps u (judgeSource i u) := fun i u => keeps_of_touches (judgeSource_touches i u)
  unfold operationEnded
  split
  · exact Keeps.after (keeps_of_touches (judgeAfterFlush_touches _ _)) rfl
  · split
    · refine .trans ?_ (judged _ _)
      split
      · exact keeps_of_eq rfl
      · exact Keeps.after (report_keeps _ _ _) rfl
    · refine .trans ?_ (judged _ _)
      split
      · exact keeps_of_eq rfl
      · exact Keeps.after (report_keeps _ _ _) rfl

theorem startChoice_keeps (p : Fin 4) (c : Choice) (s : State) : Keeps s (startChoice p c s) := by
  cases c with
  | lockContinuation l => exact keeps_of_touches (startWriteHalf_touches _ _ _)
  | operation op => exact keeps_of_touches (startOperation_touches _ _ _)
  | chunk j o => exact keeps_of_touches (startChunk_touches _ _ _ _)
  | fill a => exact keeps_of_touches (startFill_touches _ _ _)
  | host e =>
    show Keeps s (startHost p e s)
    unfold startHost
    dsimp only
    split
    · split
      · split
        · exact Keeps.after (.trans (makeReady_keeps _ _ _ _ _)
            (keeps_of_touches (fillTest_touches _ _))) rfl
        · exact keeps_of_touches (startTagged_touches _ _ _ _ _)
      · exact .refl _
    · split
      · exact keeps_of_eq rfl
      · exact .refl _

theorem endTxn_keeps (p : Fin 4) (x : Txn) (o : BusOutcome) (d : List Byte) (s : State) :
    Keeps s (endTxn p x o d s) := by
  have closed : ∀ l, Keeps s (closeTxn p l s) := fun l => keeps_of_eq rfl
  have written : ∀ u, Keeps s u →
      Keeps s (if x.isWrite then u.modPort p (Port.writeEnded x.localAddr) else u) := by
    intro u h
    split
    · exact h
    · exact h
  unfold endTxn
  refine written _ ?_
  split
  · unfold endRequest
    dsimp only
    split
    · exact keeps_of_eq rfl
    · have ended : ∀ t st b, Keeps s (finishRequest t st b (closeTxn p none s)) := fun t st b =>
        (closed none).trans (finishRequest_keeps t st b _)
      split
      · split
        · exact (ended _ _ _).trans (keeps_of_touches (fillTest_touches _ _))
        · exact ended _ _ _
      · exact ended _ _ _
  · unfold endModifyRead
    split
    · exact keeps_of_eq rfl
    · split
      · exact keeps_of_eq rfl
      · exact (closed none).trans (finishRequest_keeps _ _ _ _)
  · unfold endModifyWrite
    dsimp only
    split
    · exact keeps_of_eq rfl
    · exact (closed none).trans (finishRequest_keeps _ _ _ _)
  · unfold endPosted
    dsimp only
    split
    · exact closed none
    · split
      · exact (closed none).trans (endPost_keeps _ _ _ _)
      · split
        · exact keeps_of_eq rfl
        · split
          · exact (closed none).trans (endPost_keeps _ _ _ _)
          · exact ((closed none).trans (endPost_keeps _ _ _ _)).trans (report_keeps _ _ _)
  · unfold endChunk
    dsimp only
    split
    · exact keeps_of_eq rfl
    · exact (closed none).trans (chunkEnded_keeps _ _ _ _ _ _)
  · unfold endOperation
    dsimp only
    split
    · exact keeps_of_eq rfl
    · exact (closed none).trans (operationEnded_keeps _ _ _ _)
  · exact keeps_of_eq rfl

theorem move_faults (m : Move s t) : Keeps s t := by
  cases m with
  | quiet h => exact keeps_of_touches h
  | reset c => exact fun _ => faultLaw_zero
  | tick => exact keeps_of_touches (tick_touches s)
  | down c => exact goDown_keeps c s
  | flush => exact flushPart_keeps s
  | report k d => exact report_keeps k d s
  | clear b => exact fun _ => faultLaw_clear b
  | faultSent due =>
    exact fun law => ⟨fun h => NoticeState.noConfusion h,
      fun h => ⟨rfl, (law.renewal h).2⟩, law.summary⟩
  | faultAck => exact faultLaw_acknowledged
  | start p c _ => exact startChoice_keeps p c s
  | ends p x o d _ => exact endTxn_keeps p x o d s
  | holdOff item => exact keeps_of_touches (endHoldOff_touches item s)
  | admitFence id t _ => exact admitFence_keeps id t s
  | abort q => exact abortTarget_keeps q s
  | expire t => exact expireTag_keeps t s
  | release t ts _ => exact Keeps.after (keeps_of_touches (releaseTag_touches t _)) rfl
  | loadJob j d => exact keeps_of_touches (loadJob_touches j d s)
  | startJob j _ => exact keeps_of_touches (startJob_touches j s)
  | pauseJob j => exact keeps_of_touches (pauseJob_touches j s)
  | resumeJob j => exact keeps_of_touches (resumeJob_touches j s)
  | stopJob j => exact stopJob_keeps j s
  | rise i => exact Keeps.after (keeps_of_touches (judgeSource_touches i _)) rfl
  | irqSet i b _ => exact keeps_of_touches (takeIrqSet_touches i b s)
  | mask v i => exact keeps_of_touches (maskSource_touches v i s)
  | done i _ => exact keeps_of_touches (closeCycle_touches i s)
  | _ => exact keeps_of_eq rfl

end

/-- Settles O60: every move keeps the law of the fault unit, a report by capturing only what it adds to
the summary set, a link down by reporting LINK-DOWN first. -/
theorem faultLawIsKeptByEveryStep : Obligations.FaultLawIsKeptByEveryStep :=
  fun _ _ law h => kept_by_step (fun _ _ => move_faults) h law

end Sys2Proof.Proofs.FaultUnitLaw

/-! # The law of the host link (09) -/

namespace Sys2Proof.Proofs.HostLinkLaw

-- One theorem after another: the proofs of this part at once ask for more threads than the check allows.
set_option Elab.async false

open Sys2Proof.Machine Sys2Proof.Safety Sys2Proof.Proofs.Steps

/-! ## Consecutive sequence numbers (09 R166) -/

/-- The frames of a list have consecutive numbers, up to the one before `q`. -/
def Numbered (l : List Sent) (q : Seq) : Prop :=
  ∀ n (h : n < l.length), l[n].seq + BitVec.ofNat 6 (l.length - n) = q

theorem numbered_of_seqs {l m : List Sent} {q : Seq} (h : Numbered l q)
    (same : m.map Sent.seq = l.map Sent.seq) : Numbered m q := by
  have length : m.length = l.length := by simpa using congrArg List.length same
  intro n hn
  have seq : m[n].seq = l[n].seq := by
    have := congrArg (·[n]?) same
    simpa [hn, length ▸ hn] using this
  rw [seq, length]
  exact h n (length ▸ hn)

theorem numbered_drop {l : List Sent} {q : Seq} (h : Numbered l q) (k : Nat) :
    Numbered (l.drop k) q := by
  intro n hn
  have hn' : k + n < l.length := by simpa using Nat.add_lt_of_lt_sub' (by simpa using hn)
  have := h (k + n) hn'
  rwa [List.getElem_drop, List.length_drop, Nat.sub_sub]

/-- The next frame has the next number. -/
theorem numbered_append {l : List Sent} {q : Seq} (h : Numbered l q) {e : Sent} (seq : e.seq = q) :
    Numbered (l ++ [e]) (q + 1) := by
  intro n hn
  rw [List.length_append, List.length_singleton] at hn ⊢
  by_cases last : n = l.length
  · subst last
    rw [List.getElem_concat_length rfl, seq, Nat.add_sub_cancel_left]
    rfl
  · have less : n < l.length := by omega
    rw [List.getElem_append_left less, ← h n less, Nat.sub_add_comm (Nat.le_of_lt less), BitVec.add_assoc]
    congr 1
    exact BitVec.ofNat_add _ _

theorem markFrom_seqs (q : Seq) (l : List Sent) : (markFrom q l).map Sent.seq = l.map Sent.seq := by
  unfold markFrom
  split
  · rfl
  · next n _ =>
    have : (Sent.seq ∘ fun e : Sent => { e with resend := true }) = Sent.seq := rfl
    rw [List.map_append, List.map_map, this, ← List.map_append, List.take_append_drop]

theorem unmark_seqs (q : Seq) (l : List Sent) : (unmark q l).map Sent.seq = l.map Sent.seq := by
  rw [unmark, List.map_map]
  refine List.map_congr_left fun e _ => ?_
  simp only [Function.comp]
  split <;> rfl

theorem resendAll_seqs (l : List Sent) :
    (l.map fun e => { e with resend := true }).map Sent.seq = l.map Sent.seq := by
  rw [List.map_map]
  rfl

/-! ## Changes of the link that keep its law -/

section

variable {s t : State}

/-- The law looks at the direct reply list, at the link and at RESET_N alone. -/
theorem linkLaw_congr (law : LinkLaw s) (direct : t.direct = s.direct) (link : t.link = s.link)
    (low : t.pins.resetLow = s.pins.resetLow) : LinkLaw t := by
  constructor
  · rw [direct]; exact law.direct_le
  · rw [link]; exact law.replay_le
  · rw [link]; exact law.consecutive
  · rw [link]; exact law.timer_iff
  · rw [link]; exact law.expiry_le
  · rw [link, direct]; exact law.down
  · rw [link, low]; exact law.beacon
  · rw [link, low]; exact law.inReset

theorem linkLaw_of_touches {bs : List Block} (law : LinkLaw s) (h : Touches bs s t)
    (nd : Block.direct ∉ bs := by simp) (nl : Block.link ∉ bs := by simp)
    (np : Block.pins ∉ bs := by simp) : LinkLaw t :=
  linkLaw_congr law (h.direct nd) (h.link nl) (by rw [h.pins np])

/-- The fields of the link that its law looks at. -/
structure SameSession (l m : Link) : Prop where
  up : m.up = l.up
  nextSend : m.nextSend = l.nextSend
  ackOwed : m.ackOwed = l.ackOwed
  control : m.control = l.control
  readyOwed : m.readyOwed = l.readyOwed
  replay : m.replay = l.replay
  replayTimer : m.replayTimer = l.replayTimer
  expiryCount : m.expiryCount = l.expiryCount
  beacon : m.beacon = l.beacon
  tx : m.tx = l.tx

theorem linkLaw_modLink (law : LinkLaw s) {f : Link → Link} (h : SameSession s.link (f s.link)) :
    LinkLaw (s.modLink f) := by
  obtain ⟨up, nextSend, ackOwed, control, readyOwed, replay, timer, expiry, beacon, tx⟩ := h
  constructor <;> simp only [State.modLink_link, State.modLink_direct, State.modLink_pins]
  · exact law.direct_le
  · rw [replay]; exact law.replay_le
  · simp only [replay, nextSend]; exact law.consecutive
  · rw [timer, replay]; exact law.timer_iff
  · rw [expiry]; exact law.expiry_le
  · rw [up, replay, ackOwed, control, readyOwed]; exact law.down
  · rw [beacon, up]; exact law.beacon
  · rw [up, tx]; exact law.inReset

/-- While UP, out of reset, with the session kept and its replay list renumbered or marked. -/
structure Running (s : State) : Prop where
  law : LinkLaw s
  low : s.pins.resetLow = false
  up : s.link.up = true

/-- A link that is UP with these fields meets the law. -/
theorem linkLaw_of_up (low : s.pins.resetLow = false) (up : s.link.up = true)
    (direct : s.direct.length ≤ 4) (replay : s.link.replay.length ≤ 8)
    (numbered : Numbered s.link.replay s.link.nextSend)
    (timer : s.link.replayTimer.isSome = true ↔ s.link.replay ≠ []) (expiry : s.link.expiryCount ≤ 3)
    (beacon : s.link.beacon = none) : LinkLaw s where
  direct_le := direct
  replay_le := replay
  consecutive := numbered
  timer_iff := timer
  expiry_le := expiry
  down h := by rw [up] at h; cases h
  beacon _ := by rw [beacon, up]; simp
  inReset h := by rw [low] at h; cases h

theorem Running.beacon (r : Running s) : s.link.beacon = none := by
  have := r.law.beacon r.low
  rw [r.up] at this
  simpa using this

/-- The frame on HTX, what is owed, the counters and the like may change freely while UP. -/
theorem Running.modLink (r : Running s) {f : Link → Link} (up : (f s.link).up = s.link.up)
    (nextSend : (f s.link).nextSend = s.link.nextSend)
    (seqs : (f s.link).replay.map Sent.seq = s.link.replay.map Sent.seq)
    (timer : (f s.link).replayTimer = s.link.replayTimer)
    (expiry : (f s.link).expiryCount = s.link.expiryCount)
    (beacon : (f s.link).beacon = s.link.beacon) : Running (s.modLink f) := by
  have length : (f s.link).replay.length = s.link.replay.length := by
    simpa using congrArg List.length seqs
  have empty : (f s.link).replay = [] ↔ s.link.replay = [] := by
    rw [← List.length_eq_zero_iff, length, List.length_eq_zero_iff]
  refine ⟨linkLaw_of_up r.low (up.trans r.up) r.law.direct_le ?_ ?_ ?_ ?_ ?_, r.low, up.trans r.up⟩
  · exact length ▸ r.law.replay_le
  · simp only [State.modLink_link, nextSend]
    exact numbered_of_seqs r.law.consecutive seqs
  · simp only [State.modLink_link, timer, ne_eq, empty]
    exact r.law.timer_iff
  · simp only [State.modLink_link, expiry]
    exact r.law.expiry_le
  · simp only [State.modLink_link, beacon]
    exact r.beacon

theorem Running.modCounters (r : Running s) (f : LinkCounters → LinkCounters) :
    Running (s.modCounters f) :=
  r.modLink (f := fun l => { l with counters := f l.counters }) rfl rfl rfl rfl rfl rfl

/-! ## Resets -/

theorem linkLaw_resetBlocks (c : ResetCause) (s : State) : LinkLaw (resetBlocks c s) where
  direct_le := Nat.zero_le _
  replay_le := Nat.zero_le _
  consecutive n h := absurd h (Nat.not_lt_zero n)
  timer_iff := by simp [resetBlocks, State.reset, Link.atReset]
  expiry_le := Nat.zero_le _
  down _ := ⟨rfl, rfl, rfl, rfl, rfl⟩
  beacon _ := by simp [resetBlocks, State.reset, Link.atReset]
  inReset _ := ⟨rfl, rfl⟩

theorem linkLaw_holdInReset (low : s.pins.resetLow = true) : LinkLaw (holdInReset s) where
  direct_le := Nat.zero_le _
  replay_le := Nat.zero_le _
  consecutive n h := absurd h (Nat.not_lt_zero n)
  timer_iff := by simp [holdInReset, resetBlocks, State.reset, Link.atReset]
  expiry_le := Nat.zero_le _
  down _ := ⟨rfl, rfl, rfl, rfl, rfl⟩
  beacon h := by
    have : (holdInReset s).pins = s.pins := rfl
    rw [this, low] at h
    cases h
  inReset _ := ⟨rfl, rfl⟩

/-! ## Acknowledgements -/

theorem linkLaw_progress (law : LinkLaw s) (n : Nat) : LinkLaw (progress n s) where
  direct_le := law.direct_le
  replay_le := by
    simp only [progress, State.modLink_link, List.length_drop]
    exact Nat.le_trans (Nat.sub_le _ _) law.replay_le
  consecutive := numbered_drop law.consecutive _
  timer_iff := by
    simp only [progress, State.modLink_link]
    cases s.link.replay.drop (n + 1) <;> simp
  expiry_le := Nat.zero_le _
  down h := by
    obtain ⟨replay, rest⟩ := law.down h
    exact ⟨by simp only [progress, State.modLink_link]; rw [replay, List.drop_nil], rest⟩
  beacon := law.beacon
  inReset := law.inReset

theorem linkLaw_reportAck (law : LinkLaw s) (e : Sent) : LinkLaw (reportAck e s) := by
  unfold reportAck
  split
  case h_4 => exact linkLaw_modLink law ⟨rfl, rfl, rfl, rfl, rfl, rfl, rfl, rfl, rfl, rfl⟩
  all_goals exact linkLaw_congr law rfl rfl rfl

theorem linkLaw_reportAcks (law : LinkLaw s) (es : List Sent) : LinkLaw (reportAcks es s).1 := by
  induction es generalizing s with
  | nil => exact law
  | cons e es ih =>
    unfold reportAcks
    split
    · exact linkLaw_resetBlocks _ _
    · exact ih (linkLaw_reportAck law e)

theorem linkLaw_takeAck (law : LinkLaw s) (a : Seq) : LinkLaw (takeAck a s).1 := by
  unfold takeAck
  split
  · exact law
  · exact linkLaw_reportAcks (linkLaw_progress law _) _

/-- An acknowledgement that carries out no FULL reset leaves the part UP and out of reset. -/
theorem Running.takeAck (r : Running s) (a : Seq) (h : (takeAck a s).2 = false) :
    Running (takeAck a s).1 := by
  refine ⟨linkLaw_takeAck r.law a, ?_, ?_⟩
  · rw [(takeAck_touches a s).pins (by simp)]; exact r.low
  · unfold Machine.takeAck at h ⊢
    split at h
    · exact r.up
    · rcases reportAcks_cases _ _ with ⟨u, e⟩ | ⟨-, -, -, up⟩
      · rw [e] at h; cases h
      · exact up.trans r.up

/-! ## The link goes down, a session opens -/

theorem goDown_link (c : Status) (s : State) : (goDown c s).link = s.link.down := rfl

theorem goDown_direct (c : Status) (s : State) : (goDown c s).direct = [] := rfl

theorem goDown_pins (c : Status) (s : State) : (goDown c s).pins = s.pins :=
  (goDown_touches c s).pins (by simp)

/-- A link that has gone down, and whose beacon timer has been started, meets the law. -/
theorem linkLaw_exhaust (low : s.pins.resetLow = false) : LinkLaw (exhaust s) := by
  unfold exhaust
  split
  · exact linkLaw_resetBlocks _ _
  · exact {
      direct_le := Nat.zero_le _
      replay_le := Nat.zero_le _
      consecutive := fun n h => absurd h (Nat.not_lt_zero n)
      timer_iff := by simp [goDown_link, Link.down]
      expiry_le := Nat.zero_le _
      down := fun _ => ⟨rfl, rfl, rfl, rfl, rfl⟩
      beacon := fun _ => by simp [goDown_link, Link.down]
      inReset := fun h => by
        rw [State.modLink_pins, goDown_pins, low] at h
        cases h }

/-- A session that opens over an empty replay list and an empty direct reply list. -/
theorem linkLaw_openSession (low : s.pins.resetLow = false) (direct : s.direct = [])
    (replay : s.link.replay = []) (timer : s.link.replayTimer = none) :
    LinkLaw (s.modLink Link.openSession) := by
  refine linkLaw_of_up low rfl (by simp [direct]) (by simp [Link.openSession, replay]) ?_ ?_
    (Nat.zero_le _) rfl
  · simp only [State.modLink_link, Link.openSession, replay]
    exact fun n h => absurd h (Nat.not_lt_zero n)
  · simp [Link.openSession, replay, timer]

theorem linkLaw_takeInit (law : LinkLaw s) (low : s.pins.resetLow = false) : LinkLaw (takeInit s) := by
  unfold takeInit
  split
  · split
    · exact linkLaw_resetBlocks _ _
    · exact linkLaw_openSession low (goDown_direct _ _) rfl rfl
  · next down =>
    obtain ⟨replay, direct, -⟩ := law.down (by simpa using down)
    refine linkLaw_openSession low direct replay ?_
    have := law.timer_iff
    simpa [replay] using this

theorem linkLaw_expireReplay (law : LinkLaw s) (low : s.pins.resetLow = false)
    (runs : s.link.replayTimer.isSome = true) : LinkLaw (expireReplay s) := by
  have some_ : s.link.replay ≠ [] := law.timer_iff.mp runs
  have up : s.link.up = true := by
    by_contra h
    exact some_ (law.down (by simpa using h)).1
  have r : Running s := ⟨law, low, up⟩
  unfold expireReplay
  dsimp only
  split
  · exact linkLaw_exhaust low
  · next few =>
    refine linkLaw_of_up low up law.direct_le ?_ ?_ ?_ ?_ r.beacon
    · simpa using law.replay_le
    · exact numbered_of_seqs law.consecutive (resendAll_seqs _)
    · simp [some_]
    · simp only [State.modLink_link]
      unfold Config.replayLimit at few
      omega

/-! ## NAK -/

/-- Frames marked or unmarked, none removed, none renumbered. -/
theorem linkLaw_remark (law : LinkLaw s) (f : List Sent → List Sent)
    (seqs : ∀ l, (f l).map Sent.seq = l.map Sent.seq) :
    LinkLaw (s.modLink fun l => { l with replay := f l.replay }) := by
  have length : ∀ l, (f l).length = l.length := fun l => by simpa using congrArg List.length (seqs l)
  have empty : ∀ l, f l = [] ↔ l = [] := fun l => by
    rw [← List.length_eq_zero_iff, length, List.length_eq_zero_iff]
  constructor <;> simp only [State.modLink_link, State.modLink_direct, State.modLink_pins]
  · exact law.direct_le
  · rw [length]; exact law.replay_le
  · exact numbered_of_seqs law.consecutive (seqs _)
  · rw [law.timer_iff, ne_eq, ne_eq, empty]
  · exact law.expiry_le
  · exact fun h => ⟨(empty _).mpr (law.down h).1, (law.down h).2⟩
  · exact law.beacon
  · exact law.inReset

theorem linkLaw_modCounters (law : LinkLaw s) (f : LinkCounters → LinkCounters) :
    LinkLaw (s.modCounters f) :=
  linkLaw_modLink law ⟨rfl, rfl, rfl, rfl, rfl, rfl, rfl, rfl, rfl, rfl⟩

theorem linkLaw_takeNak (law : LinkLaw s) (q : Seq) : LinkLaw (takeNak q s) := by
  unfold takeNak
  split
  · exact linkLaw_modCounters law _
  · exact linkLaw_remark (linkLaw_takeAck law _) (markFrom q) (markFrom_seqs q)

/-! ## A message adds at most its own REPLY to the direct reply list (08 R151) -/

/-- At most one message has joined the direct reply list. -/
def AnsweredOnce (s t : State) : Prop := t.direct.length ≤ s.direct.length + 1

theorem answeredOnce_of_eq (h : t.direct = s.direct) : AnsweredOnce s t := by
  rw [AnsweredOnce, h]
  exact Nat.le_succ _

theorem answeredOnce_addReply (h : t.direct = s.direct) (m : Message) : AnsweredOnce s (t.addReply m) := by
  rw [AnsweredOnce, State.addReply_direct, h, List.length_append, List.length_singleton]

theorem ownTagged_answeredOnce (k : RequestKind) (id : Half) (body : List Byte) (s : State) :
    AnsweredOnce s (ownTagged k id body s) := by
  unfold ownTagged
  dsimp only
  split
  · refine answeredOnce_addReply ?_ _
    split
    · exact (guardMiss_touches _ _ s).direct (by simp)
    · rfl
  · split
    · exact answeredOnce_addReply rfl _
    · exact answeredOnce_of_eq ((admitTagged_touches _ _ _ _ _ s).direct (by simp))

theorem ownFence_answeredOnce (id : Half) (s : State) : AnsweredOnce s (ownFence id s) := by
  unfold ownFence
  split
  · exact answeredOnce_addReply rfl _
  · exact answeredOnce_of_eq ((admitFence_touches id _ s).direct (by simp))

theorem ownReset_answeredOnce (id : Half) (body : List Byte) (s : State) :
    AnsweredOnce s (ownReset id body s) := by
  unfold ownReset
  split
  · exact answeredOnce_addReply (s := s) rfl _
  · exact answeredOnce_addReply ((flushPart_touches s).direct (by simp)) _

theorem ownWindowSet_answeredOnce (id : Half) (body : List Byte) (s : State) :
    AnsweredOnce s (ownWindowSet id body s) := by
  refine answeredOnce_addReply ?_ _
  split
  · exact (takeWindow_touches _ _ s).direct (by simp)
  · rfl

theorem ownIrqMask_answeredOnce (id : Half) (body : List Byte) (s : State) :
    AnsweredOnce s (ownIrqMask id body s) := by
  refine answeredOnce_addReply ?_ _
  split
  · exact (Touches.foldOver (bs := [.ports, .sources, .nextPlace]) _ _
      fun _ _ => maskSource_touches _ _ _).direct (by simp)
  · exact (maskSource_touches _ _ s).direct (by simp)

theorem owner_answeredOnce (k : RequestKind) (id : Half) (body : List Byte) (s : State) :
    AnsweredOnce s (owner k id body s) := by
  cases k <;> unfold owner <;> dsimp only
  case read => exact ownTagged_answeredOnce _ _ _ _
  case write => exact ownTagged_answeredOnce _ _ _ _
  case modify => exact ownTagged_answeredOnce _ _ _ _
  case post => exact answeredOnce_of_eq ((ownPost_touches _ s).direct (by simp))
  case fence => exact ownFence_answeredOnce _ _
  case reset => exact ownReset_answeredOnce _ _ _
  case windowSet => exact ownWindowSet_answeredOnce _ _ _
  case portHold => exact answeredOnce_addReply ((onNamedPorts_touches _ _ s).direct (by simp)) _
  case portRelease => exact answeredOnce_addReply ((onNamedPorts_touches _ _ s).direct (by simp)) _
  case abort => exact answeredOnce_addReply ((abortTarget_touches _ s).direct (by simp)) _
  case jobLoad => exact answeredOnce_addReply ((loadJob_touches _ _ s).direct (by simp)) _
  case jobStart =>
    refine answeredOnce_addReply ?_ _
    split
    · exact (startJob_touches _ s).direct (by simp)
    · rfl
  case jobPause => exact answeredOnce_addReply ((pauseJob_touches _ s).direct (by simp)) _
  case jobResume => exact answeredOnce_addReply ((resumeJob_touches _ s).direct (by simp)) _
  case jobStop => exact answeredOnce_addReply ((stopJob_touches _ s).direct (by simp)) _
  case irqSet =>
    refine answeredOnce_addReply ?_ _
    dsimp only
    split
    · exact (takeIrqSet_touches _ _ s).direct (by simp)
    · rfl
  case irqMask => exact ownIrqMask_answeredOnce _ _ _
  case irqDone =>
    refine answeredOnce_addReply ?_ _
    split
    · exact (closeCycle_touches _ s).direct (by simp)
    · rfl
  all_goals exact answeredOnce_addReply (s := s) rfl _

theorem takenMessage_answeredOnce (kind : Byte) (id : Half) (body : List Byte) (s : State) :
    AnsweredOnce s (takenMessage kind id body s) := by
  unfold takenMessage
  split
  · exact answeredOnce_addReply rfl _
  · exact answeredOnce_of_eq ((intakePost_touches _ s).direct (by simp))
  · unfold intake
    split
    · exact answeredOnce_addReply rfl _
    · exact owner_answeredOnce _ _ _ _

/-- A POST, which reserves no place, adds none (08 R151). -/
theorem takenMessage_direct_post (id : Half) (body : List Byte) (s : State) :
    (takenMessage RequestKind.post.code id body s).direct = s.direct :=
  (intakePost_touches body s).direct (by simp)

/-! ## DATA frames -/

/-- A message is taken with room for its REPLY while UP. -/
theorem linkLaw_takenMessage (r : Running s) (kind : Byte) (id : Half) (body : List Byte)
    (room : needsPlace kind = true → s.direct.length < 4) : LinkLaw (takenMessage kind id body s) := by
  have h := takenMessage_touches kind id body s
  have link : (takenMessage kind id body s).link = s.link := h.link (by simp)
  have pins : (takenMessage kind id body s).pins = s.pins := h.pins (by simp)
  have direct : (takenMessage kind id body s).direct.length ≤ 4 := by
    cases needs : needsPlace kind with
    | true =>
      have := takenMessage_answeredOnce kind id body s
      have := room needs
      unfold AnsweredOnce at *
      omega
    | false =>
      have post : kind = RequestKind.post.code := by simpa [needsPlace] using needs
      rw [post, takenMessage_direct_post]
      exact r.law.direct_le
  refine linkLaw_of_up (by rw [pins]; exact r.low) (by rw [link]; exact r.up) direct ?_ ?_ ?_ ?_ ?_ <;>
    rw [link]
  · exact r.law.replay_le
  · exact r.law.consecutive
  · exact r.law.timer_iff
  · exact r.law.expiry_le
  · exact r.beacon

theorem linkLaw_placeData (r : Running s) (q : Seq) (kind : Byte) (id : Half) (body : List Byte) :
    LinkLaw (placeData q kind (takenMessage kind id body) s) := by
  unfold placeData
  dsimp only
  split
  · split
    · exact (r.modLink (f := fun l => { l with control := .wait q }) rfl rfl rfl rfl rfl rfl).law
    · next free =>
      have r' : Running (s.modLink fun l => { l with expected := l.expected + 1, ackOwed := true }) :=
        r.modLink rfl rfl rfl rfl rfl rfl
      refine linkLaw_takenMessage r' kind id body fun needs => ?_
      refine Nat.lt_of_not_le fun full => free ?_
      rw [needs, Bool.true_and]
      exact decide_eq_true full
  · split
    · exact ((r.modCounters _).modLink
        (f := fun l => { l with control := l.control.addNak }) rfl rfl rfl rfl rfl rfl).law
    · exact ((r.modCounters _).modLink
        (f := fun l => { l with ackOwed := true }) rfl rfl rfl rfl rfl rfl).law

theorem linkLaw_takeData (law : LinkLaw s) (low : s.pins.resetLow = false) (f : FrameHead) (kind : Byte)
    (id : Half) (body : List Byte) : LinkLaw (takeData f kind (takenMessage kind id body) s) := by
  unfold takeData
  dsimp only
  split
  · exact law
  · next up =>
    split
    · exact linkLaw_takeAck law f.ack
    · next reset =>
      exact linkLaw_placeData (Running.takeAck ⟨law, low, by simpa using up⟩ f.ack (by simpa using reset))
        _ _ _ _

theorem linkLaw_frame {act : State → State} (law : LinkLaw s) (low : s.pins.resetLow = false)
    (h : FrameAct act) : LinkLaw (act s) := by
  cases h with
  | malformed => exact linkLaw_modCounters law _
  | ack f =>
    unfold takeAckFrame
    split
    · exact linkLaw_takeAck law f.ack
    · exact law
  | nak f =>
    unfold takeNakFrame
    split
    · exact linkLaw_takeNak law f.ack
    · exact law
  | init => exact linkLaw_takeInit law low
  | data f kind id body => exact linkLaw_takeData law low f kind id body

/-! ## Sending -/

theorem Running.sendUp (r : Running s) (ftype : Byte) (seq ack : Seq) (body : List Byte) :
    Running (Machine.sendUp ftype seq ack body s) := by
  refine Running.modLink (f := fun l => { l with ackOwed := false }) ?_ rfl rfl rfl rfl rfl rfl
  unfold putFrame
  exact Running.modLink r rfl rfl rfl rfl rfl rfl

/-- A new DATA frame takes the next number at the tail of the replay list (09 R166). -/
theorem Running.sendData (r : Running s) (few : s.link.replay.length < 8) (c : OutClass) (m : Message) :
    Running (sendData c m s) := by
  refine Running.sendUp ?_ _ _ _ _
  refine ⟨linkLaw_of_up r.low r.up r.law.direct_le ?_ ?_ ?_ r.law.expiry_le r.beacon, r.low, r.up⟩ <;>
    simp only [State.modLink_link]
  · rw [List.length_append, List.length_singleton]
    exact few
  · exact numbered_append r.law.consecutive rfl
  · have := r.law.timer_iff
    cases replay : s.link.replay <;> simp [replay] at this ⊢
    exact this

/-- A message that leaves its source leaves the link and the pins as they are. -/
structure Taken (s t : State) : Prop where
  link : t.link = s.link
  pins : t.pins = s.pins
  direct : t.direct.length ≤ s.direct.length

theorem taken_of_touches {bs : List Block} (h : Touches bs s t) (nl : Block.link ∉ bs := by simp)
    (np : Block.pins ∉ bs := by simp) (nd : Block.direct ∉ bs := by simp) : Taken s t :=
  ⟨h.link nl, h.pins np, Nat.le_of_eq (congrArg List.length (h.direct nd))⟩

theorem takeMessage_taken {c : OutClass} {m : Message × State} (h : takeMessage c s = some m) :
    Taken s m.2 := by
  cases c with
  | direct =>
    unfold takeMessage at h
    cases direct : s.direct with
    | nil => simp [direct] at h
    | cons x xs =>
      simp only [direct, Option.some.injEq] at h
      subst h
      exact ⟨rfl, rfl, by simp [direct]⟩
  | ready =>
    unfold takeMessage at h
    cases ready : s.ready with
    | nil => simp [ready] at h
    | cons t ts =>
      simp only [ready, Option.some.injEq] at h
      subst h
      exact taken_of_touches ((setReady_touches s ts).within.trans
        (releaseTag_touches t (s.setReady ts)).within (bs := [.ready, .tags]))
  | notice =>
    obtain ⟨n, -, rfl⟩ := Option.map_eq_some_iff.mp h
    exact taken_of_touches (buildNotice_touches n s)

theorem Running.taken (r : Running s) (h : Taken s t) : Running t := by
  obtain ⟨link, pins, direct⟩ := h
  have low : t.pins.resetLow = false := by rw [pins]; exact r.low
  have up : t.link.up = true := by rw [link]; exact r.up
  refine ⟨linkLaw_of_up low up (direct.trans r.law.direct_le) ?_ ?_ ?_ ?_ ?_, low, up⟩ <;> rw [link]
  · exact r.law.replay_le
  · exact r.law.consecutive
  · exact r.law.timer_iff
  · exact r.law.expiry_le
  · exact r.beacon

theorem Running.newData (r : Running s) (h : newData s = some t) : Running t := by
  unfold Machine.newData nextClass at h
  by_cases few : s.link.replay.length < Config.replayFrames
  · rw [if_pos few] at h
    split at h
    · cases h
    · obtain ⟨m, hm, rfl⟩ := Option.map_eq_some_iff.mp h
      have taken := takeMessage_taken hm
      exact (r.taken taken).sendData (by rw [taken.link]; exact few) _ _
  · rw [if_neg few] at h
    cases h

theorem linkLaw_sendInit (law : LinkLaw s) (low : s.pins.resetLow = false) (down : s.link.up = false) :
    LinkLaw (sendInit s) where
  direct_le := law.direct_le
  replay_le := law.replay_le
  consecutive := law.consecutive
  timer_iff := law.timer_iff
  expiry_le := law.expiry_le
  down := law.down
  beacon _ := ⟨fun _ => down, fun _ => rfl⟩
  inReset h := by
    have h : s.pins.resetLow = true := h
    rw [low] at h
    cases h

theorem Running.resendFrame (r : Running s) (e : Sent) : Running (resendFrame e s) :=
  ((r.sendUp _ _ _ _).modLink (f := fun l => { l with replay := unmark e.seq l.replay }) rfl rfl
    (unmark_seqs _ _) rfl rfl rfl).modCounters _

theorem linkLaw_chooseFrame (law : LinkLaw s) (low : s.pins.resetLow = false) :
    LinkLaw (chooseFrame s) := by
  unfold chooseFrame
  split
  · next up =>
    have r : Running s := ⟨law, low, up⟩
    split
    · exact ((r.sendUp _ _ _ _).modLink (f := fun l => { l with readyOwed := false })
        rfl rfl rfl rfl rfl rfl).law
    · split
      · exact (((r.sendUp _ _ _ _).modLink (f := fun l => { l with control := .none })
          rfl rfl rfl rfl rfl rfl).modCounters _).law
      · exact ((r.sendUp _ _ _ _).modLink (f := fun l => { l with control := .none })
          rfl rfl rfl rfl rfl rfl).law
      · split
        · exact (r.resendFrame _).law
        · split
          · next h => exact (r.newData h).law
          · split
            · exact (r.sendUp _ _ _ _).law
            · exact law
  · next down =>
    split
    · exact linkLaw_sendInit law low (by simpa using down)
    · exact law

/-! ## Pins and time -/

theorem linkLaw_powerUp (s : State) : LinkLaw (powerUp s) := by
  unfold powerUp
  split
  · next low => exact linkLaw_of_touches (linkLaw_holdInReset low) (modSettings_touches _ _)
  · exact linkLaw_resetBlocks _ _

theorem linkLaw_setFreezePin (law : LinkLaw s) (v : Bool) : LinkLaw (setFreezePin v s) := by
  have pin : LinkLaw (s.setPins { s.pins with freeze := v }) := linkLaw_congr law rfl rfl rfl
  unfold setFreezePin
  dsimp only
  split
  · exact pin
  · exact linkLaw_of_touches pin (changeEveryPort_touches _ _)

theorem linkLaw_receiveBad (law : LinkLaw s) (hrx : List Byte) : LinkLaw (receiveBad hrx s) := by
  unfold receiveBad
  dsimp only
  split
  · exact linkLaw_modLink (linkLaw_modCounters law _) ⟨rfl, rfl, rfl, rfl, rfl, rfl, rfl, rfl, rfl, rfl⟩
  · exact linkLaw_modLink law ⟨rfl, rfl, rfl, rfl, rfl, rfl, rfl, rfl, rfl, rfl⟩

/-- The timers of the link count while they run, and start or stop none. -/
theorem linkLaw_tick (law : LinkLaw s) : LinkLaw (tick s) := by
  unfold tick
  split
  · exact law
  · next low =>
    exact {
      direct_le := law.direct_le
      replay_le := law.replay_le
      consecutive := law.consecutive
      timer_iff := by simpa [Link.tick] using law.timer_iff
      expiry_le := law.expiry_le
      down := law.down
      beacon := by simpa [Link.tick, countDown] using law.beacon
      inReset := fun h => absurd h low }

/-- Every event keeps the law. -/
theorem linkLaw_event (law : LinkLaw s) (h : Event s t) : LinkLaw t := by
  have same : ∀ x, SameSession s.link { s.link with rx := x } := fun _ =>
    ⟨rfl, rfl, rfl, rfl, rfl, rfl, rfl, rfl, rfl, rfl⟩
  cases h with
  | nothing => exact law
  | power => exact linkLaw_powerUp s
  | assert => exact linkLaw_holdInReset rfl
  | release c => exact linkLaw_resetBlocks _ _
  | freeze v => exact linkLaw_setFreezePin law v
  | level i v => exact linkLaw_congr law rfl rfl rfl
  | rise i =>
    have level : LinkLaw (setLine i true s) := linkLaw_congr law rfl rfl rfl
    exact linkLaw_of_touches (bs := [.sources, .ports, .nextPlace]) level
      ((modSource_touches _ _ _).within.trans (judgeSource_touches i _).within)
  | bytes hrx => exact linkLaw_receiveBad law hrx
  | arrive x => exact linkLaw_modLink law (same x)
  | frame x low act => exact linkLaw_frame (linkLaw_modLink law (same x)) low act
  | replay low runs => exact linkLaw_expireReplay law low runs
  | beacon low down runs => exact linkLaw_sendInit law low down
  | beaconWaits low down runs =>
    exact {
      direct_le := law.direct_le, replay_le := law.replay_le, consecutive := law.consecutive
      timer_iff := law.timer_iff, expiry_le := law.expiry_le, down := law.down, inReset := law.inReset
      beacon := fun _ => ⟨fun _ => down, fun _ => rfl⟩ }
  | choose low =>
    refine linkLaw_chooseFrame ?_ low
    exact {
      direct_le := law.direct_le, replay_le := law.replay_le, consecutive := law.consecutive
      timer_iff := law.timer_iff, expiry_le := law.expiry_le, down := law.down, beacon := law.beacon
      inReset := fun h => ⟨(law.inReset h).1, rfl⟩ }
  | start p c _ => exact linkLaw_of_touches law (startChoice_touches p c s)
  | ends p x o d _ => exact linkLaw_of_touches law (endTxn_touches p x o d s)
  | holdOff item => exact linkLaw_of_touches law (endHoldOff_touches item s)
  | expire i => exact linkLaw_of_touches law (expireTag_touches i s)

end

/-- Settles O58: each event keeps the law, and so does the passing of time. -/
theorem linkLawIsKeptByEveryStep : Obligations.LinkLawIsKeptByEveryStep := by
  unfold Obligations.LinkLawIsKeptByEveryStep
  intro s t law h
  rcases step_cases h with ⟨x, n, e⟩ | rfl
  · have law' : LinkLaw ((s.setPending x).setFreeDraws n) := linkLaw_congr law rfl rfl rfl
    exact linkLaw_event law' e
  · exact linkLaw_tick law

end Sys2Proof.Proofs.HostLinkLaw

/-! # What a job slot and an interrupt source may change -/

namespace Sys2Proof.Proofs.Work

-- One theorem after another: the proofs of this part at once ask for more threads than the check allows.
set_option Elab.async false

open Sys2Proof.Machine Sys2Proof.Safety Sys2Proof.Proofs.Steps

variable {s t u : State}

/-! ## A job slot: its own record and its own offers -/

/-- What the engine does for slot `j` changes no other slot, and of the ports the slot's offers alone. -/
structure SlotActs (j : Fin 4) (s t : State) : Prop where
  ports : ∀ p, ∃ o, t.ports.get p = { s.ports.get p with offers := (s.ports.get p).offers.set j o }
  jobs : ∀ k, k ≠ j → t.jobs.get k = s.jobs.get k

theorem SlotActs.of_touches {bs : List Block} {j : Fin 4} (h : Touches bs s t)
    (np : Block.ports ∉ bs := by simp) (nj : Block.jobs ∉ bs := by simp) : SlotActs j s t where
  ports p := ⟨(s.ports.get p).offers.get j, by rw [h.ports np, Table.set_get_self]⟩
  jobs k _ := by rw [h.jobs nj]

theorem SlotActs.refl (j : Fin 4) (s : State) : SlotActs j s s := .of_touches (.refl [] s)

theorem SlotActs.trans {j : Fin 4} (h : SlotActs j s t) (k : SlotActs j t u) : SlotActs j s u where
  ports p := by
    obtain ⟨o, ho⟩ := h.ports p
    obtain ⟨o', ho'⟩ := k.ports p
    exact ⟨o', by rw [ho', ho, Table.set_set]⟩
  jobs n hn := (k.jobs n hn).trans (h.jobs n hn)

theorem SlotActs.txn {j : Fin 4} (h : SlotActs j s t) (p : Fin 4) :
    (t.ports.get p).txn = (s.ports.get p).txn := by
  obtain ⟨o, ho⟩ := h.ports p
  rw [ho]

theorem modJob_slotActs (j : Fin 4) (f : JobSlot → JobSlot) (s : State) : SlotActs j s (s.modJob j f) where
  ports p := ⟨(s.ports.get p).offers.get j, by rw [Table.set_get_self]; rfl⟩
  jobs _ hk := Table.get_modify_of_ne _ _ (Ne.symm hk)

theorem offerChunk_slotActs (j p : Fin 4) (o : Offer) (s : State) : SlotActs j s (offerChunk j p o s) where
  ports q := by
    by_cases h : p = q
    · subst h
      exact ⟨some o, Table.get_modify_self _ _ _⟩
    · refine ⟨(s.ports.get q).offers.get j, ?_⟩
      rw [Table.set_get_self]
      exact Table.get_modify_of_ne _ _ h
  jobs _ _ := rfl

theorem withdrawChunk_slotActs (j : Fin 4) (s : State) : SlotActs j s (withdrawChunk j s) where
  ports _ := ⟨none, Table.get_map _ _ _⟩
  jobs _ _ := rfl

theorem report_slotActs (j : Fin 4) (k : FaultKind) (d : FaultDetail) (s : State) :
    SlotActs j s (report k d s) := .of_touches (report_touches k d s)

theorem layOut_slotActs (j : Fin 4) (s : State) : SlotActs j s (layOut j s) := by
  unfold layOut
  dsimp only
  split
  · split
    · exact .refl _ _
    · split
      · split
        · exact (modJob_slotActs _ _ _).trans (offerChunk_slotActs _ _ _ _)
        · exact modJob_slotActs _ _ _
      · split
        · exact (modJob_slotActs _ _ _).trans (offerChunk_slotActs _ _ _ _)
        · exact modJob_slotActs _ _ _
  · exact .refl _ _

theorem runJob_slotActs (j : Fin 4) (r : RunDecode) (s : State) : SlotActs j s (runJob j r s) :=
  (modJob_slotActs j _ s).trans (layOut_slotActs _ _)

theorem failChained_slotActs (j : Fin 4) (f : ValidationFailure) (s : State) :
    SlotActs j s (failChained j f s) :=
  (modJob_slotActs j _ s).trans (report_slotActs _ _ _ _)

theorem endJob_slotActs (j : Fin 4) (e : JobState) (s : State) : SlotActs j s (endJob j e s) := by
  unfold endJob
  dsimp only
  refine (modJob_slotActs j (fun x => x.close e) s).trans ?_
  split
  · exact .refl _ _
  · split
    · split
      · exact (modJob_slotActs _ _ _).trans (runJob_slotActs _ _ _)
      · exact (modJob_slotActs _ _ _).trans (failChained_slotActs _ _ _)
    · exact modJob_slotActs _ _ _

theorem chunkDone_slotActs (j : Fin 4) (n : Nat) (d : List Byte) (s : State) :
    SlotActs j s (chunkDone j n d s) := by
  unfold chunkDone
  dsimp only
  split
  · exact (modJob_slotActs _ _ _).trans (endJob_slotActs _ _ _)
  · split
    · exact (modJob_slotActs _ _ _).trans (modJob_slotActs _ _ _)
    · exact (modJob_slotActs _ _ _).trans (endJob_slotActs _ _ _)
    · exact (modJob_slotActs _ _ _).trans (layOut_slotActs _ _)

theorem chunkFailed_slotActs (j p : Fin 4) (o : Offer) (st : Status) (s : State) :
    SlotActs j s (chunkFailed j p o st s) :=
  ((modJob_slotActs j _ s).trans (report_slotActs _ _ _ _)).trans (endJob_slotActs _ _ _)

theorem copyReadDone_slotActs (j : Fin 4) (d : List Byte) (s : State) :
    SlotActs j s (copyReadDone j d s) := by
  unfold copyReadDone
  dsimp only
  split
  · split
    · exact (modJob_slotActs _ _ _).trans (offerChunk_slotActs _ _ _ _)
    · exact modJob_slotActs _ _ _
  · exact .refl _ _

theorem chunkEnded_slotActs (j p : Fin 4) (o : Offer) (st : Status) (d : List Byte) (s : State) :
    SlotActs j s (chunkEnded j p o st d s) := by
  unfold chunkEnded
  dsimp only
  split
  · exact modJob_slotActs _ _ _
  · split
    · split
      · exact copyReadDone_slotActs _ _ _
      · exact chunkDone_slotActs _ _ _ _
    · exact chunkFailed_slotActs _ _ _ _ _

theorem startJob_slotActs (j : Fin 4) (s : State) : SlotActs j s (startJob j s).2 := by
  unfold startJob
  split
  · split
    · exact runJob_slotActs _ _ _
    · exact .refl _ _
  · exact .refl _ _

theorem loadJob_slotActs (j : Fin 4) (d : Descriptor) (s : State) : SlotActs j s (loadJob j d s).2.2 := by
  unfold loadJob
  dsimp only
  split
  · exact modJob_slotActs _ _ _
  · split
    · exact (modJob_slotActs _ _ _).trans (startJob_slotActs _ _)
    · exact modJob_slotActs _ _ _

theorem pauseJob_slotActs (j : Fin 4) (s : State) : SlotActs j s (pauseJob j s).2 := by
  unfold pauseJob
  dsimp only
  split
  · split
    · exact modJob_slotActs _ _ _
    · exact (withdrawChunk_slotActs _ _).trans (modJob_slotActs _ _ _)
  · exact .refl _ _

theorem resumeJob_slotActs (j : Fin 4) (s : State) : SlotActs j s (resumeJob j s).2 := by
  unfold resumeJob
  split
  · exact (modJob_slotActs _ _ _).trans (layOut_slotActs _ _)
  · exact modJob_slotActs _ _ _
  · exact .refl _ _

theorem stopJob_slotActs (j : Fin 4) (s : State) : SlotActs j s (stopJob j s).2 := by
  unfold stopJob
  dsimp only
  split
  · split
    · exact modJob_slotActs _ _ _
    · exact ((withdrawChunk_slotActs _ _).trans (modJob_slotActs _ _ _)).trans (endJob_slotActs _ _ _)
  · exact modJob_slotActs _ _ _
  · exact endJob_slotActs _ _ _
  · exact .refl _ _

/-! ## An interrupt source: its own record and the queue of its own port -/

/-- Interrupt operations of source `i` that may stand on port `p`. -/
def OwnOperations (i : Fin 32) (p : Fin 4) (l : List IrqOp) : Prop :=
  ∀ op ∈ l, op.source = i ∧ portOfSource i = p

/-- What the concentrator does for source `i` changes no other source, and of the ports the tail of the
queue of the source's own port alone. -/
structure SourceActs (i : Fin 32) (s t : State) : Prop where
  ports : ∀ p, ∃ l, OwnOperations i p l
    ∧ t.ports.get p = { s.ports.get p with opQueue := (s.ports.get p).opQueue ++ l }
  sources : ∀ k, k ≠ i → t.sources.get k = s.sources.get k
  place : s.nextPlace ≤ t.nextPlace

theorem SourceActs.of_touches {bs : List Block} {i : Fin 32} (h : Touches bs s t)
    (np : Block.ports ∉ bs := by simp) (ns : Block.sources ∉ bs := by simp)
    (nn : Block.nextPlace ∉ bs := by simp) : SourceActs i s t where
  ports p := ⟨[], by simp [OwnOperations], by rw [h.ports np, List.append_nil]⟩
  sources k _ := by rw [h.sources ns]
  place := Nat.le_of_eq (h.nextPlace nn).symm

theorem SourceActs.refl (i : Fin 32) (s : State) : SourceActs i s s := .of_touches (.refl [] s)

theorem SourceActs.trans {i : Fin 32} (h : SourceActs i s t) (k : SourceActs i t u) : SourceActs i s u where
  ports p := by
    obtain ⟨l, own, hl⟩ := h.ports p
    obtain ⟨m, own', hm⟩ := k.ports p
    refine ⟨l ++ m, fun op hop => ?_, by rw [hm, hl, List.append_assoc]⟩
    rcases List.mem_append.mp hop with hop | hop
    · exact own op hop
    · exact own' op hop
  sources n hn := (k.sources n hn).trans (h.sources n hn)
  place := h.place.trans k.place

theorem SourceActs.txn {i : Fin 32} (h : SourceActs i s t) (p : Fin 4) :
    (t.ports.get p).txn = (s.ports.get p).txn := by
  obtain ⟨l, -, hl⟩ := h.ports p
  rw [hl]

theorem modSource_sourceActs (i : Fin 32) (f : Source → Source) (s : State) :
    SourceActs i s (s.modSource i f) where
  ports p := ⟨[], by simp [OwnOperations], by rw [List.append_nil]; rfl⟩
  sources _ hk := Table.get_modify_of_ne _ _ (Ne.symm hk)
  place := Nat.le_refl _

theorem askPort_sourceActs (i : Fin 32) (w : Bool) (a : Word) (n : Nat) (v : Word) (s : State) :
    SourceActs i s (askPort i w a n v s) where
  ports p := by
    by_cases h : portOfSource i = p
    · subst h
      refine ⟨[⟨i, w, a, n, v, 0, none, s.nextPlace, false⟩], by simp [OwnOperations], ?_⟩
      exact Table.get_modify_self _ _ _
    · refine ⟨[], by simp [OwnOperations], ?_⟩
      rw [List.append_nil]
      exact Table.get_modify_of_ne _ _ h
  sources _ hk := Table.get_modify_of_ne _ _ (Ne.symm hk)
  place := Nat.le_succ _

theorem report_sourceActs (i : Fin 32) (k : FaultKind) (d : FaultDetail) (s : State) :
    SourceActs i s (report k d s) := .of_touches (report_touches k d s)

theorem fetchOrDue_sourceActs (i : Fin 32) (s : State) : SourceActs i s (fetchOrDue i s) := by
  unfold fetchOrDue
  split
  · exact (modSource_sourceActs _ _ _).trans (askPort_sourceActs _ _ _ _ _ _)
  · exact modSource_sourceActs _ _ _

theorem judgeSource_sourceActs (i : Fin 32) (s : State) : SourceActs i s (judgeSource i s) := by
  unfold judgeSource
  dsimp only
  split
  · split
    · exact (modSource_sourceActs _ _ _).trans (modSource_sourceActs _ _ _)
    · exact (modSource_sourceActs _ _ _).trans (fetchOrDue_sourceActs _ _)
  · exact .refl _ _

theorem judgeAfterFlush_sourceActs (i : Fin 32) (s : State) : SourceActs i s (judgeAfterFlush i s) := by
  unfold judgeAfterFlush
  dsimp only
  split
  · exact (judgeSource_sourceActs _ _).trans (modSource_sourceActs _ _ _)
  · exact judgeSource_sourceActs _ _

theorem vectorReadEnded_sourceActs (op : IrqOp) (st : Status) (d : List Byte) (s : State) :
    SourceActs op.source s (vectorReadEnded op st d s) := by
  unfold vectorReadEnded
  dsimp only
  refine SourceActs.trans ?_ (judgeSource_sourceActs _ _)
  split
  · exact modSource_sourceActs _ _ _
  · exact (modSource_sourceActs _ _ _).trans (report_sourceActs _ _ _ _)

theorem ackWriteEnded_sourceActs (op : IrqOp) (st : Status) (s : State) :
    SourceActs op.source s (ackWriteEnded op st s) := by
  unfold ackWriteEnded
  dsimp only
  refine SourceActs.trans ?_ (judgeSource_sourceActs _ _)
  split
  · exact modSource_sourceActs _ _ _
  · exact (modSource_sourceActs _ _ _).trans (report_sourceActs _ _ _ _)

theorem operationEnded_sourceActs (op : IrqOp) (st : Status) (d : List Byte) (s : State) :
    SourceActs op.source s (operationEnded op st d s) := by
  unfold operationEnded
  split
  · exact (modSource_sourceActs _ _ _).trans (judgeAfterFlush_sourceActs _ _)
  · split
    · exact ackWriteEnded_sourceActs _ _ _
    · exact vectorReadEnded_sourceActs _ _ _ _

theorem takeIrqSet_sourceActs (i : Fin 32) (b : List Byte) (s : State) :
    SourceActs i s (takeIrqSet i b s) := by
  unfold takeIrqSet
  split
  · exact (modSource_sourceActs _ _ _).trans (judgeSource_sourceActs _ _)
  · exact modSource_sourceActs _ _ _

theorem maskSource_sourceActs (v : Bool) (i : Fin 32) (s : State) : SourceActs i s (maskSource v i s) := by
  unfold maskSource
  dsimp only
  refine (modSource_sourceActs i (fun x => { x with masked := v }) s).trans ?_
  split
  · exact modSource_sourceActs _ _ _
  · exact judgeSource_sourceActs _ _
  · exact fetchOrDue_sourceActs _ _
  · exact .refl _ _

theorem closeCycle_sourceActs (i : Fin 32) (s : State) : SourceActs i s (closeCycle i s) := by
  unfold closeCycle
  split
  · exact (modSource_sourceActs _ _ _).trans (askPort_sourceActs _ _ _ _ _ _)
  · exact (modSource_sourceActs _ _ _).trans (judgeSource_sourceActs _ _)

end Sys2Proof.Proofs.Work

/-! # What a step does to the requests

Admission, the request lists, the posted pool and the tag table: every move comes to a run of a few turns,
each of which takes one request from one place to the next. -/

namespace Sys2Proof.Proofs.RequestTurns

-- One theorem after another: the proofs of this part at once ask for more threads than the check allows.
set_option Elab.async false

open Sys2Proof.Machine Sys2Proof.Safety Sys2Proof.Proofs.Steps Sys2Proof.Proofs.Work

variable {s t u : State}

/-! ## States that are alike for the requests -/

/-- The fields of a tag that the laws of the requests look at. -/
structure SameTurn (x y : Tag) : Prop where
  state : y.state = x.state
  id : y.id = x.id
  place : y.place = x.place
  covered : y.covered = x.covered
  failed : y.failed = x.failed
  outstanding : y.outstanding = x.outstanding

theorem SameTurn.refl (x : Tag) : SameTurn x x := ⟨rfl, rfl, rfl, rfl, rfl, rfl⟩

theorem SameTurn.trans {x y z : Tag} (h : SameTurn x y) (k : SameTurn y z) : SameTurn x z :=
  ⟨k.state.trans h.state, k.id.trans h.id, k.place.trans h.place, k.covered.trans h.covered,
   k.failed.trans h.failed, k.outstanding.trans h.outstanding⟩

/-- The fields of a posted record that the laws of the requests look at. -/
def posting (r : Option Posted) : Option (List (Fin 32) × Nat) := r.map fun x => (x.covering, x.place)

/-- POST `k` is on port `p`. -/
def OnPort (s : State) (p : Fin 4) (k : Fin 32) : Prop :=
  (s.ports.get p).txn.map Txn.initiator = some (.post k)

/-- Two states in which every request stands at the same place. -/
structure Alike (s t : State) : Prop where
  tags : ∀ i, SameTurn (s.tags.get i) (t.tags.get i)
  pool : ∀ k, posting (t.pool.get k) = posting (s.pool.get k)
  lists : t.lists = s.lists
  ready : t.ready = s.ready
  place : s.nextPlace ≤ t.nextPlace
  posts : ∀ p k, OnPort t p k ↔ OnPort s p k

theorem Alike.refl (s : State) : Alike s s :=
  ⟨fun _ => .refl _, fun _ => rfl, rfl, rfl, Nat.le_refl _, fun _ _ => .rfl⟩

theorem Alike.trans (h : Alike s t) (k : Alike t u) : Alike s u :=
  ⟨fun i => (h.tags i).trans (k.tags i), fun i => (k.pool i).trans (h.pool i), k.lists.trans h.lists,
   k.ready.trans h.ready, h.place.trans k.place, fun p i => (k.posts p i).trans (h.posts p i)⟩

/-- What leaves the requests alone, and no POST's place at the ports. -/
theorem Alike.of_touches {bs : List Block} (h : Touches bs s t) (place : s.nextPlace ≤ t.nextPlace)
    (posts : ∀ p k, OnPort t p k ↔ OnPort s p k) (nt : Block.tags ∉ bs := by simp)
    (np : Block.pool ∉ bs := by simp) (nl : Block.lists ∉ bs := by simp)
    (nr : Block.ready ∉ bs := by simp) : Alike s t :=
  ⟨fun i => by rw [h.tags nt]; exact .refl _, fun k => by rw [h.pool np], h.lists nl, h.ready nr, place,
   posts⟩

theorem onPort_of_txn (h : ∀ p, (t.ports.get p).txn = (s.ports.get p).txn) (p : Fin 4) (k : Fin 32) :
    OnPort t p k ↔ OnPort s p k := by
  unfold OnPort
  rw [h]

/-- What touches no block of the requests. -/
theorem Alike.elsewhere {bs : List Block} (h : Touches bs s t) (nt : Block.tags ∉ bs := by simp)
    (np : Block.pool ∉ bs := by simp) (nl : Block.lists ∉ bs := by simp)
    (nr : Block.ready ∉ bs := by simp) (nn : Block.nextPlace ∉ bs := by simp)
    (no : Block.ports ∉ bs := by simp) : Alike s t :=
  .of_touches h (Nat.le_of_eq (h.nextPlace nn).symm) (onPort_of_txn fun p => by rw [h.ports no]) nt np nl nr

theorem Alike.slot {bs : List Block} {j : Fin 4} (acts : SlotActs j s t) (h : Touches bs s t)
    (nt : Block.tags ∉ bs := by simp) (np : Block.pool ∉ bs := by simp) (nl : Block.lists ∉ bs := by simp)
    (nr : Block.ready ∉ bs := by simp) (nn : Block.nextPlace ∉ bs := by simp) : Alike s t :=
  .of_touches h (Nat.le_of_eq (h.nextPlace nn).symm) (onPort_of_txn acts.txn) nt np nl nr

theorem Alike.source {bs : List Block} {i : Fin 32} (acts : SourceActs i s t) (h : Touches bs s t)
    (nt : Block.tags ∉ bs := by simp) (np : Block.pool ∉ bs := by simp) (nl : Block.lists ∉ bs := by simp)
    (nr : Block.ready ∉ bs := by simp) : Alike s t :=
  .of_touches h acts.place (onPort_of_txn acts.txn) nt np nl nr

theorem alike_modTag (i : Fin 32) {f : Tag → Tag} (s : State)
    (h : ∀ x, SameTurn x (f x) := by intro _; constructor <;> rfl) : Alike s (s.modTag i f) where
  tags j := by
    rw [State.modTag_tags, Table.get_modify]
    split
    · exact h _
    · exact .refl _
  pool _ := rfl
  lists := rfl
  ready := rfl
  place := Nat.le_refl _
  posts _ _ := .rfl

/-- Ports whose transactions carry the same POSTs. -/
theorem alike_modPort {p : Fin 4} {f : Port → Port}
    (h : ∀ k, (f (s.ports.get p)).txn.map Txn.initiator = some (.post k) ↔ OnPort s p k) :
    Alike s (s.modPort p f) := by
  refine .of_touches (modPort_touches s p f) (Nat.le_refl _) fun q k => ?_
  by_cases e : p = q
  · subst e
    unfold OnPort
    rw [State.modPort_ports, Table.get_modify_self]
    exact h k
  · unfold OnPort
    rw [State.modPort_ports, Table.get_modify_of_ne _ _ e]

theorem alike_modPort_txn {f : Port → Port} (p : Fin 4) (s : State)
    (h : ∀ x, (f x).txn = x.txn := by intro _; rfl) : Alike s (s.modPort p f) := alike_modPort fun _ => by unfold OnPort; rw [h]

theorem alike_report (k : FaultKind) (d : FaultDetail) (s : State) : Alike s (report k d s) :=
  .elsewhere (report_touches k d s)

theorem alike_fillTest (a : Access) (s : State) : Alike s (fillTest a s) := by
  unfold fillTest
  split
  · refine alike_modPort_txn _ _ fun x => ?_
    unfold Port.requestFill
    split
    · rfl
    · split <;> rfl
  · exact .refl s

theorem alike_writeEnded (p : Fin 4) (a : Word) (s : State) : Alike s (s.modPort p (Port.writeEnded a)) :=
  alike_modPort_txn _ _ fun x => by unfold Port.writeEnded; split <;> rfl

theorem change_txn (x : Port) (f : Port → Port) : (x.change f).txn = (f x).txn := by
  rw [change_eq]
  unfold noticed
  split
  · rfl
  · split <;> rfl

/-- A port gives up, or takes up, what is no POST. -/
theorem alike_changePort {p : Fin 4} {f : Port → Port} (old : ∀ k, ¬OnPort s p k)
    (new : ∀ k, (f (s.ports.get p)).txn.map Txn.initiator ≠ some (.post k)) :
    Alike s (changePort p f s) := by
  refine alike_modPort fun k => ?_
  rw [change_txn]
  exact ⟨fun h => absurd h (new k), fun h => absurd h (old k)⟩

theorem alike_closeTxn {p : Fin 4} {x : Txn} (lock : Option Lock) (txn : (s.ports.get p).txn = some x)
    (other : ∀ k, x.initiator ≠ .post k) : Alike s (closeTxn p lock s) :=
  alike_changePort (fun k h => other k (by simpa [OnPort, txn] using h)) (fun k => by simp)

theorem alike_startTxn {p : Fin 4} {i : Initiator} (idle : (s.ports.get p).txn = none)
    (other : ∀ k, i ≠ .post k) (isWrite : Bool) (a : Word) (size : Nat) (data : List Byte) (l : Bool) :
    Alike s (startTxn p i isWrite a size data l s) :=
  alike_changePort (fun k h => by simp [OnPort, idle] at h) (fun k => by simpa [Port.newTxn] using other k)

/-! ## Turns -/

/-- A tag enters a state. -/
def enter (i : Fin 32) (st : TagState) (s : State) : State := s.modTag i fun x => { x with state := st }

/-- A tag enters READY, at the tail of the ready list. -/
def toReady (i : Fin 32) (s : State) : State := (enter i .ready s).setReady (s.ready ++ [i])

/-- A port takes up a transaction. -/
def present (p : Fin 4) (q : Txn) (s : State) : State := s.modPort p fun x => { x with txn := some q }

/-- POST `k`, whose slot is held, is on port `p`. -/
structure Posting (s : State) (p : Fin 4) (k : Fin 32) (x : Posted) : Prop where
  onPort : OnPort s p k
  held : s.pool.get k = some x

/-- A tag is QUEUED, or stands in a request list: the law of the tags says that this is the same. -/
def Waits (s : State) (i : Fin 32) : Prop :=
  (s.tags.get i).state = .queued ∨ ∃ p, Entry.tag i ∈ s.lists.get p

/-- One request goes from one place to the next, or all do at a link down, a FLUSH or a reset. -/
inductive Turn (s : State) : State → Prop where
  | alike {t : State} (h : Alike s t) : Turn s t
  | answer (i : Fin 32) (h : (s.tags.get i).state = .active) : Turn s (toReady i s)
  | unqueue (i : Fin 32) (h : Waits s i) : Turn s (toReady i (removeEntry (.tag i) s))
  | unbar (i : Fin 32) (h : (s.tags.get i).state = .waiting) : Turn s (toReady i (uncover i s))
  | drop (i : Fin 32) (h : (s.tags.get i).state = .discarding) : Turn s (freeEntry i s)
  | release (i : Fin 32) (l : List (Fin 32)) (h : s.ready = i :: l) : Turn s (freeEntry i (s.setReady l))
  | discard (i : Fin 32) (l : List (Fin 32)) (h : s.ready = i :: l) :
      Turn s (enter i .discarding (s.setReady l))
  | start (i : Fin 32) (h : Waits s i) : Turn s (enter i .active (removeEntry (.tag i) s))
  | requeue (p : Fin 4) (i : Fin 32) (h : (s.tags.get i).state = .active) :
      Turn s (returnEntry p (.tag i) (enter i .queued s))
  | startPost (p : Fin 4) (k : Fin 32) (x : Posted) (q : Txn) (h : Entry.post k ∈ s.lists.get p)
      (held : s.pool.get k = some x) (idle : (s.ports.get p).txn = none) (hq : q.initiator = .post k) :
      Turn s (present p q (removeEntry (.post k) s))
  | requeuePost (p : Fin 4) (k : Fin 32) (x : Posted) (h : Posting s p k x) :
      Turn s (returnEntry p (.post k) (closeTxn p none s))
  | endPost (p : Fin 4) (k : Fin 32) (x : Posted) (isFailure : Bool) (h : Posting s p k x) :
      Turn s (endPost k x isFailure (closeTxn p none s))
  | lostPost (p : Fin 4) (k : Fin 32) (h : OnPort s p k) (gone : s.pool.get k = none) :
      Turn s (closeTxn p none s)
  | admitTagged (k : RequestKind) (id : Half) (body : List Byte) (h : Hit) (i : Fin 32)
      (ok : checkTag id s.tags = .ok i) : Turn s (admitTagged k id body h i s)
  | admitPost (body : List Byte) (h : Hit) (k : Fin 32) (ok : freeSlot s.pool = some k) :
      Turn s (admitPost body h k s)
  | admitFence (id : Half) (i : Fin 32) (ok : checkTag id s.tags = .ok i) : Turn s (admitFence id i s)
  | down : Turn s (linkDownRequests s)
  | flush : Turn s (flushRequests s)
  | reset (c : ResetCause) : Turn s (resetBlocks c s)

/-- A run of turns. -/
abbrev Turns : State → State → Prop := Relation.ReflTransGen Turn

theorem Alike.turns (h : Alike s t) : Turns s t := .single (.alike h)

theorem Turn.then_alike (h : Turn s t) (k : Alike t u) : Turns s u := .tail (.single h) (.alike k)

/-! ## The operations of the tag table as turns -/

theorem sameTurn_toReady (i j : Fin 32) (s : State) {f : Tag → Tag}
    (h : ∀ x, SameTurn { x with state := .ready } (f x)) :
    SameTurn ((toReady i s).tags.get j) ((s.tags.modify i f).get j) := by
  unfold toReady enter
  rw [State.setReady_tags, State.modTag_tags, Table.get_modify, Table.get_modify]
  split
  · exact h _
  · exact .refl _

/-- An entry that becomes READY, apart from the fault that may be reported. -/
def answered (i : Fin 32) (st : Status) (b : Bool) (d : Option (List Byte)) (s : State) : State :=
  (s.modTag i fun x => { x with state := .ready, status := st, busPending := b, data := d.getD x.data }).setReady
    (s.ready ++ [i])

theorem makeReady_eq (i : Fin 32) (st : Status) (b : Bool) (d : Option (List Byte)) (s : State) :
    makeReady i st b d s =
      if st.isAccessFailure then
        report .accessFailed ((s.tags.get i).failureDetail st) (answered i st b d s)
      else answered i st b d s := rfl

theorem makeReady_tags (i : Fin 32) (st : Status) (b : Bool) (d : Option (List Byte)) (s : State) :
    (makeReady i st b d s).tags = s.tags.modify i fun x =>
      { x with state := .ready, status := st, busPending := b, data := d.getD x.data } := by
  rw [makeReady_eq]
  split <;> rfl

theorem modify_modify {α : Type} {n : Nat} (x : Table α n) (i : Fin n) (f g : α → α) :
    (x.modify i f).modify i g = x.modify i (g ∘ f) := by
  simp [Table.modify, Table.set_set]

theorem modify_congr {α : Type} {n : Nat} (x : Table α n) (i : Fin n) {f g : α → α}
    (h : f (x.get i) = g (x.get i)) : x.modify i f = x.modify i g := congrArg (x.set i) h

theorem readyFromBarrier_tags (i : Fin 32) (st : Status) (s : State) :
    (readyFromBarrier i st s).tags = s.tags.modify i fun x =>
      { x with state := .ready, status := st, busPending := false } :=
  makeReady_tags i st false none (uncover i s)

/-- Becoming READY with a status, data and an ACCESS-FAILED fault. -/
theorem alike_makeReady (i : Fin 32) (st : Status) (b : Bool) (d : Option (List Byte)) (s : State) :
    Alike (toReady i s) (makeReady i st b d s) := by
  have h : Alike (toReady i s) (answered i st b d s) :=
    ⟨fun j => sameTurn_toReady i j s fun _ => ⟨rfl, rfl, rfl, rfl, rfl, rfl⟩, fun _ => rfl, rfl, rfl,
     Nat.le_refl _, fun _ _ => .rfl⟩
  rw [makeReady_eq]
  split
  · exact h.trans (alike_report _ _ _)
  · exact h

/-- Making one tag READY in two states that are alike gives states that are alike. -/
theorem Alike.toReady (h : Alike s t) (i : Fin 32) : Alike (toReady i s) (toReady i t) where
  tags j := by
    have k := h.tags j
    simp only [RequestTurns.toReady, enter, State.setReady_tags, State.modTag_tags, Table.get_modify]
    split
    · exact ⟨rfl, k.id, k.place, k.covered, k.failed, k.outstanding⟩
    · exact k
  pool := h.pool
  lists := h.lists
  ready := congrArg (· ++ [i]) h.ready
  place := h.place
  posts := h.posts

theorem readyFromQueue_turns {i : Fin 32} (h : Waits s i) (st : Status) : Turns s (readyFromQueue i st s) :=
  (Turn.unqueue i h).then_alike
    (((alike_modTag i (f := fun x => { x with holdOff := none }) _).toReady i).trans (alike_makeReady _ _ _ _ _))

theorem readyFromBarrier_turns {i : Fin 32} (h : (s.tags.get i).state = .waiting) (st : Status) :
    Turns s (readyFromBarrier i st s) :=
  (Turn.unbar i h).then_alike (alike_makeReady _ _ _ _ _)

theorem makeReady_turns {i : Fin 32} (h : (s.tags.get i).state = .active) (st : Status) (b : Bool)
    (d : Option (List Byte)) : Turns s (makeReady i st b d s) :=
  (Turn.answer i h).then_alike (alike_makeReady _ _ _ _ _)

theorem dropResult_turns (i : Fin 32) (s : State) : Turns s (dropResult i s) := by
  unfold dropResult
  split
  · next h => exact .single (.drop i h)
  · exact (alike_modTag i s).turns
  · exact .refl

theorem finishRequest_turns (i : Fin 32) (st : Status) (d : Option (List Byte)) (s : State) :
    Turns s (finishRequest i st d s) := by
  unfold finishRequest
  split
  · next h => exact makeReady_turns (beq_iff_eq.mp h) st false d
  · exact dropResult_turns i s

theorem placeOf_alike (h : Alike s t) : placeOf t = placeOf s := by
  funext e
  cases e with
  | tag i => exact (h.tags i).place
  | post k =>
    have := congrArg (fun r => (r.map Prod.snd).getD 0) (h.pool k)
    simpa [posting, placeOf, Function.comp_def] using this

theorem Alike.returnEntry (h : Alike s t) (p : Fin 4) (e : Entry) :
    Alike (returnEntry p e s) (returnEntry p e t) where
  tags := h.tags
  pool := h.pool
  lists := by
    unfold Machine.returnEntry
    rw [State.setList_lists, State.setList_lists, placeOf_alike h, h.lists]
  ready := h.ready
  place := h.place
  posts := h.posts

theorem requeueTag_turns {p : Fin 4} {i : Fin 32} (h : (s.tags.get i).state = .active) (x : Txn) :
    Turns s (requeueTag p i x s) := by
  refine (Turn.requeue p i h).then_alike (Alike.returnEntry ?_ p _)
  exact ⟨fun j => by
    simp only [enter, State.modTag_tags, Table.get_modify]
    split
    · exact ⟨rfl, rfl, rfl, rfl, rfl, rfl⟩
    · exact .refl _, fun _ => rfl, rfl, rfl, Nat.le_refl _, fun _ _ => .rfl⟩

/-! ## Starts as turns -/

theorem candidate_mem {p : Fin 4} {e : Entry} (h : candidate p s = some e) : e ∈ s.lists.get p := by
  unfold candidate at h
  split at h
  · next e' found =>
    split at h
    · cases h
    · cases h
      unfold provisional at found
      split at found
      · cases found
      · next head rest list =>
        rw [list]
        split at found
        · cases found
          exact List.mem_cons_self
        · split at found
          · cases found
          · split at found
            · next hit =>
              split at found
              · cases found
              · cases found
                exact list ▸ List.mem_of_find?_eq_some hit
            · cases found
  · cases h

theorem txn_of_arbiterChoice {p : Fin 4} {c : Choice} (h : arbiterChoice p s = some c) :
    (s.ports.get p).txn = none := by
  unfold arbiterChoice at h
  dsimp only at h
  split at h
  · cases h
  · next idle => simpa using idle

/-- The arbiter starts the host candidate alone of the request list. -/
theorem candidate_of_arbiterChoice {p : Fin 4} {e : Entry} (h : arbiterChoice p s = some (.host e)) :
    candidate p s = some e := by
  unfold arbiterChoice at h
  dsimp only at h
  split at h
  · cases h
  · split at h
    · split at h <;> cases h
    · split at h
      · cases h
      · unfold idleChoice at h
        split at h
        · cases h
        · split at h
          · next c _ => cases h; exact c
          · cases h
          · next c _ =>
            split at h
            · cases h; exact c
            · cases h
          · cases hf : (s.ports.get p).pendingFill <;> simp [hf] at h

theorem startTagged_turns {p : Fin 4} {i : Fin 32} (h : Waits s i) (idle : (s.ports.get p).txn = none)
    (x : Tag) (a : Access) : Turns s (startTagged p i x a s) := by
  have begin_ : Turns s (((removeEntry (.tag i) s).modTag i fun x =>
      { x with state := .active, holdOff := none }).modPort p (Port.countShare true)) := by
    refine (Turn.start i h).then_alike (Alike.trans ?_
      (alike_modPort_txn p _))
    exact ⟨fun j => by
      simp only [enter, State.modTag_tags, Table.get_modify]
      split
      · exact ⟨rfl, rfl, rfl, rfl, rfl, rfl⟩
      · exact .refl _, fun _ => rfl, rfl, rfl, Nat.le_refl _, fun _ _ => .rfl⟩
  have idle' : ((((removeEntry (.tag i) s).modTag i fun x =>
      { x with state := .active, holdOff := none }).modPort p (Port.countShare true)).ports.get p).txn
        = none := by
    rw [State.modPort_ports, Table.get_modify_self]
    exact idle
  unfold startTagged
  dsimp only
  split
  all_goals exact begin_.trans (alike_startTxn idle' (by simp) _ _ _ _ _).turns

theorem answerFromLine_turns (p : Fin 4) {i : Fin 32} (h : Waits s i) (a : Access) :
    Turns s (answerFromLine p i a s) :=
  (Turn.unqueue i h).then_alike ((alike_makeReady _ _ _ _ _).trans (alike_fillTest _ _))

theorem changePort_txn (p q : Fin 4) (f : Port → Port) (s : State) :
    ((changePort p f s).ports.get q).txn =
      if p = q then (f (s.ports.get q)).txn else (s.ports.get q).txn := by
  unfold changePort
  rw [State.modPort_ports, Table.get_modify]
  split
  · exact change_txn _ _
  · rfl

theorem present_txn (p q : Fin 4) (x : Txn) (s : State) :
    ((present p x s).ports.get q).txn = if p = q then some x else (s.ports.get q).txn := by
  unfold present
  rw [State.modPort_ports, Table.get_modify]
  split <;> rfl

/-- A POST goes to its port. -/
theorem startPost_turns {p : Fin 4} {k : Fin 32} {x : Posted} (mem : Entry.post k ∈ s.lists.get p)
    (held : s.pool.get k = some x) (idle : (s.ports.get p).txn = none) : Turns s (startHost p (.post k) s) := by
  have e : startHost p (.post k) s =
      startTxn p (.post k) true x.localAddr x.count x.data false
        (((removeEntry (.post k) s).setSlot k (some { x with holdOff := none })).modPort p
          (Port.countShare true)) := by
    simp only [startHost, held]
  rw [e]
  refine (Turn.startPost p k x _ mem held idle rfl).then_alike
    (t := present p ((s.ports.get p).newTxn (.post k) true x.localAddr x.count x.data false) _) ?_
  refine ⟨fun _ => .refl _, fun l => ?_, rfl, rfl, Nat.le_refl _, fun q l => ?_⟩
  · show posting ((s.pool.set k _).get l) = posting (s.pool.get l)
    rw [Table.get_set]
    split
    · next e => subst e; rw [held]; rfl
    · rfl
  · unfold OnPort startTxn
    rw [changePort_txn, present_txn]
    split
    · simp [Port.newTxn]
    · next ne => rw [State.modPort_ports, Table.get_modify_of_ne _ _ ne]; rfl

theorem startHost_turns {p : Fin 4} {e : Entry} (mem : e ∈ s.lists.get p)
    (idle : (s.ports.get p).txn = none) : Turns s (startHost p e s) := by
  cases e with
  | tag i =>
    have waits : Waits s i := .inr ⟨p, mem⟩
    unfold startHost
    dsimp only
    split
    · split
      · exact answerFromLine_turns p waits _
      · exact startTagged_turns waits idle _ _
    · exact .refl
  | post k =>
    cases held : s.pool.get k with
    | some x => exact startPost_turns mem held idle
    | none =>
      unfold startHost
      simp only [held]
      exact .refl

/-- What a port starts that is no host entry leaves the requests alone. -/
theorem startChoice_turns {p : Fin 4} {c : Choice} (h : arbiterChoice p s = some c) :
    Turns s (startChoice p c s) := by
  have idle := txn_of_arbiterChoice h
  cases c with
  | lockContinuation l =>
    show Turns s (startWriteHalf p l s)
    unfold startWriteHalf
    split
    · exact (alike_startTxn idle (by simp) _ _ _ _ _).turns
    · exact .refl
  | operation op =>
    have queue : Alike s (s.modPort p fun x => { x with opQueue := x.opQueue.filter fun o => o != op }) :=
      alike_modPort_txn p s
    refine (queue.trans (alike_startTxn ?_ (by simp) _ _ _ _ _)).turns
    rw [State.modPort_ports, Table.get_modify_self]
    exact idle
  | host e => exact startHost_turns (candidate_mem (candidate_of_arbiterChoice h)) idle
  | chunk j o =>
    have share : Alike s (s.modPort p fun x =>
        Port.countShare false { x with offers := x.offers.set j none, lastSlot := j }) :=
      alike_modPort_txn p s
    have slot : Alike (s.modPort p fun x =>
        Port.countShare false { x with offers := x.offers.set j none, lastSlot := j }) _ :=
      .elsewhere (modJob_touches _ j fun x => { x with chunk := x.chunk.map fun c => { c with started := true } })
    refine ((share.trans slot).trans (alike_startTxn ?_ (by simp) _ _ _ _ _)).turns
    rw [State.modJob_ports, State.modPort_ports, Table.get_modify_self]
    exact idle
  | fill a =>
    have pending : Alike s (s.modPort p fun x => { x with pendingFill := none }) :=
      alike_modPort_txn p s
    refine (pending.trans (alike_startTxn ?_ (by simp) _ _ _ _ _)).turns
    rw [State.modPort_ports, Table.get_modify_self]
    exact idle

/-! ## Ends as turns -/

section

variable {p : Fin 4} {x : Txn} (txn : (s.ports.get p).txn = some x)

include txn

theorem endRequest_turns {i : Fin 32} (init : x.initiator = .request i) (o : BusOutcome) (d : List Byte) :
    Turns s (endRequest p i x o d s) := by
  have close : Turns s (closeTxn p none s) := (alike_closeTxn none txn (by simp [init])).turns
  unfold endRequest
  dsimp only
  split
  · next again =>
    have active : (s.tags.get i).state = .active := by
      simp only [tagRepeats, Bool.and_eq_true, beq_iff_eq] at again
      exact again.1
    exact close.trans (requeueTag_turns (s := closeTxn p none s) active x)
  · refine close.trans ?_
    split
    · split
      · exact (finishRequest_turns _ _ _ _).trans (alike_fillTest _ _).turns
      · exact finishRequest_turns _ _ _ _
    · exact finishRequest_turns _ _ _ _

theorem endModifyRead_turns {i : Fin 32} (init : x.initiator = .modifyRead i) (o : BusOutcome)
    (d : List Byte) : Turns s (endModifyRead p i x o d s) := by
  have close : ∀ l, Alike s (closeTxn p l s) := fun l => alike_closeTxn l txn (by simp [init])
  unfold endModifyRead
  split
  · exact ((close _).trans (alike_modTag i _)).turns
  · split
    · next again =>
      have active : (s.tags.get i).state = .active := by
        simp only [tagRepeats, Bool.and_eq_true, beq_iff_eq] at again
        exact again.1
      exact (close none).turns.trans (requeueTag_turns (s := closeTxn p none s) active x)
    · exact (close none).turns.trans (finishRequest_turns _ _ _ _)

theorem endModifyWrite_turns {i : Fin 32} (init : x.initiator = .modifyWrite i) (o : BusOutcome) :
    Turns s (endModifyWrite p i x o s) := by
  have close : ∀ l, Alike s (closeTxn p l s) := fun l => alike_closeTxn l txn (by simp [init])
  unfold endModifyWrite
  dsimp only
  split
  · exact ((close _).trans (alike_modTag i _)).turns
  · exact (close none).turns.trans (finishRequest_turns _ _ _ _)

theorem endPosted_turns {k : Fin 32} (init : x.initiator = .post k) (o : BusOutcome) :
    Turns s (endPosted p k x o s) := by
  have onPort : OnPort s p k := by simp [OnPort, txn, init]
  unfold endPosted
  dsimp only
  split
  · next gone => exact .single (.lostPost p k onPort gone)
  · next y held =>
    have post : Posting s p k y := ⟨onPort, held⟩
    split
    · exact .single (.endPost p k y _ post)
    · split
      · refine (Turn.requeuePost p k y post).then_alike (Alike.returnEntry ?_ p _)
        refine ⟨fun _ => .refl _, fun l => ?_, rfl, rfl, Nat.le_refl _, fun _ _ => .rfl⟩
        rw [State.setSlot_pool, Table.get_set]
        split
        · next e =>
          subst e
          exact (congrArg posting held).symm
        · rfl
      · split
        · exact .single (.endPost p k y _ post)
        · exact (Turn.endPost p k y _ post).then_alike (alike_report _ _ _)

theorem endChunk_turns {j : Fin 4} {c : Offer} (init : x.initiator = .chunk j c) (o : BusOutcome)
    (d : List Byte) : Turns s (endChunk p j c x o d s) := by
  have close : Alike s (closeTxn p none s) := alike_closeTxn none txn (by simp [init])
  unfold endChunk
  dsimp only
  split
  · exact (close.trans (.slot (offerChunk_slotActs _ _ _ _) (offerChunk_touches _ _ _ _))).turns
  · exact (close.trans (.slot (chunkEnded_slotActs _ _ _ _ _ _) (chunkEnded_touches _ _ _ _ _ _))).turns

theorem endOperation_turns {op : IrqOp} (init : x.initiator = .operation op) (o : BusOutcome)
    (d : List Byte) : Turns s (endOperation p op x o d s) := by
  have close : Alike s (closeTxn p none s) := alike_closeTxn none txn (by simp [init])
  unfold endOperation
  dsimp only
  split
  · exact (close.trans (alike_modPort_txn _ _)).turns
  · exact (close.trans (.source (operationEnded_sourceActs _ _ _ _) (operationEnded_touches _ _ _ _))).turns

theorem endFill_turns (init : x.initiator = .fill) (o : BusOutcome) (d : List Byte) :
    Turns s (endFill p x o d s) := by
  have close : Alike s (closeTxn p none s) := alike_closeTxn none txn (by simp [init])
  refine (close.trans (alike_modPort_txn _ _ fun y => ?_)).turns
  unfold Port.fillEnded
  split <;> rfl

end

/-- The discard test of a port at the end of a write (04 R83). -/
def writeTest (p : Fin 4) (x : Txn) (s : State) : State :=
  if x.isWrite then s.modPort p (Port.writeEnded x.localAddr) else s

section

variable (p : Fin 4) {x : Txn} (o : BusOutcome) (d : List Byte) (s : State)

theorem endTxn_request {i : Fin 32} (init : x.initiator = .request i) :
    endTxn p x o d s = writeTest p x (endRequest p i x o d s) := by simp only [endTxn, init, writeTest]

theorem endTxn_modifyRead {i : Fin 32} (init : x.initiator = .modifyRead i) :
    endTxn p x o d s = writeTest p x (endModifyRead p i x o d s) := by simp only [endTxn, init, writeTest]

theorem endTxn_modifyWrite {i : Fin 32} (init : x.initiator = .modifyWrite i) :
    endTxn p x o d s = writeTest p x (endModifyWrite p i x o s) := by simp only [endTxn, init, writeTest]

theorem endTxn_post {k : Fin 32} (init : x.initiator = .post k) :
    endTxn p x o d s = writeTest p x (endPosted p k x o s) := by simp only [endTxn, init, writeTest]

theorem endTxn_chunk {j : Fin 4} {c : Offer} (init : x.initiator = .chunk j c) :
    endTxn p x o d s = writeTest p x (endChunk p j c x o d s) := by simp only [endTxn, init, writeTest]

theorem endTxn_operation {op : IrqOp} (init : x.initiator = .operation op) :
    endTxn p x o d s = writeTest p x (endOperation p op x o d s) := by simp only [endTxn, init, writeTest]

theorem endTxn_fill (init : x.initiator = .fill) :
    endTxn p x o d s = writeTest p x (endFill p x o d s) := by simp only [endTxn, init, writeTest]

end

theorem alike_writeTest (p : Fin 4) (x : Txn) (s : State) : Alike s (writeTest p x s) := by
  unfold writeTest
  split
  · exact alike_writeEnded _ _ _
  · exact .refl s

/-- The end of a transaction, by its initiator. -/
theorem endTxn_turns {p : Fin 4} {x : Txn} (txn : (s.ports.get p).txn = some x) (o : BusOutcome)
    (d : List Byte) : Turns s (endTxn p x o d s) := by
  cases init : x.initiator with
  | request i => exact endTxn_request p o d s init ▸ (endRequest_turns txn init o d).tail (.alike (alike_writeTest _ _ _))
  | modifyRead i =>
    exact endTxn_modifyRead p o d s init ▸ (endModifyRead_turns txn init o d).tail (.alike (alike_writeTest _ _ _))
  | modifyWrite i =>
    exact endTxn_modifyWrite p o d s init ▸ (endModifyWrite_turns txn init o).tail (.alike (alike_writeTest _ _ _))
  | post k => exact endTxn_post p o d s init ▸ (endPosted_turns txn init o).tail (.alike (alike_writeTest _ _ _))
  | chunk j c => exact endTxn_chunk p o d s init ▸ (endChunk_turns txn init o d).tail (.alike (alike_writeTest _ _ _))
  | operation op =>
    exact endTxn_operation p o d s init ▸ (endOperation_turns txn init o d).tail (.alike (alike_writeTest _ _ _))
  | fill => exact endTxn_fill p o d s init ▸ (endFill_turns txn init o d).tail (.alike (alike_writeTest _ _ _))

/-! ## The other moves as turns -/

/-- Ports changed one by one, their transactions' POSTs kept. -/
theorem alike_setPorts {x : Table Port 4}
    (h : ∀ p k, (x.get p).txn.map Txn.initiator = some (.post k) ↔ OnPort s p k) : Alike s (s.setPorts x) :=
  .of_touches (setPorts_touches s x) (Nat.le_refl _) h

/-- Posted records changed one by one, their slots, places and covering sets kept. -/
theorem alike_setPool {x : Table (Option Posted) 32} (h : ∀ k, posting (x.get k) = posting (s.pool.get k)) :
    Alike s (s.setPool x) :=
  ⟨fun _ => .refl _, h, rfl, rfl, Nat.le_refl _, fun _ _ => .rfl⟩

theorem alike_setTags {x : Table Tag 32} (h : ∀ i, SameTurn (s.tags.get i) (x.get i)) :
    Alike s (s.setTags x) :=
  ⟨h, fun _ => rfl, rfl, rfl, Nat.le_refl _, fun _ _ => .rfl⟩

theorem posting_map {f : Posted → Posted} (r : Option Posted)
    (h : ∀ x, (f x).covering = x.covering ∧ (f x).place = x.place := by intro _; exact ⟨rfl, rfl⟩) :
    posting (r.map f) = posting r := by
  cases r with
  | none => rfl
  | some x => simp [posting, h x]

theorem tick_turns (s : State) : Turns s (tick s) := by
  unfold tick
  split
  · exact .refl
  · refine Alike.turns ?_
    refine Alike.trans (t := s.setTags (s.tags.map (tickTag s))) (alike_setTags fun i => ?_) ?_
    · rw [Table.get_map]
      exact ⟨rfl, rfl, rfl, rfl, rfl, rfl⟩
    · refine Alike.trans (alike_setPool fun k => ?_) (Alike.trans (alike_setPorts fun p k => ?_)
        (.elsewhere (modLink_touches _ Link.tick)))
      · rw [Table.get_map]
        exact posting_map _
      · rw [Table.get_map]
        unfold OnPort Port.tick
        cases e : (s.ports.get p).txn <;> simp [e]

theorem endHoldOff_alike (item : HoldItem) (s : State) : Alike s (endHoldOff item s) := by
  cases item with
  | request i => exact alike_modTag i s
  | posted k =>
    refine alike_setPool fun l => ?_
    rw [Table.get_set]
    split
    · next e =>
      subst e
      exact posting_map _
    · rfl
  | chunk j =>
    refine alike_setPorts fun p k => ?_
    rw [Table.get_map]
    exact .rfl
  | operation i => exact alike_modPort_txn _ _

theorem expireTag_turns (i : Fin 32) (s : State) : Turns s (expireTag i s) := by
  have timer : Turns s (s.modTag i fun x => { x with timeLeft := 0 }) := (alike_modTag i s).turns
  have state : ((s.modTag i fun x => { x with timeLeft := 0 }).tags.get i).state = (s.tags.get i).state := by
    rw [State.modTag_tags, Table.get_modify_self]
  unfold expireTag
  dsimp only
  split
  · next h =>
    split
    · exact .refl
    · exact timer.trans (readyFromQueue_turns (.inl (state.trans h)) _)
  · next h => exact timer.trans (readyFromBarrier_turns (state.trans h) _)
  · next h => exact timer.trans (makeReady_turns (state.trans h) _ _ _)
  all_goals exact .refl

theorem abortTarget_turns (target : Half) (s : State) : Turns s (abortTarget target s).2 := by
  unfold abortTarget
  split
  · exact .refl
  · split
    · next h => exact readyFromQueue_turns (.inl h) .aborted
    · next h => exact readyFromBarrier_turns h .aborted
    · next h => exact makeReady_turns h .aborted true none
    · exact .refl

theorem releaseTag_turns {i : Fin 32} {l : List (Fin 32)} (h : s.ready = i :: l) :
    Turns s (releaseTag i (s.setReady l)) := by
  unfold releaseTag
  split
  · exact .single (.discard i l h)
  · exact .single (.release i l h)

theorem goDown_turns (c : Status) (s : State) : Turns s (goDown c s) := by
  have before : Turns s (((report .linkDown (linkDownDetail c) s).modLink Link.down).setDirect []) :=
    ((alike_report _ _ s).trans ((Alike.elsewhere (modLink_touches _ Link.down)).trans
      (.elsewhere (setDirect_touches _ [])))).turns
  refine before.trans ((Turn.down).then_alike ?_)
  refine .of_touches (linkDownNotices_touches _) (Nat.le_refl _) (onPort_of_txn fun p => ?_)
  show ((Table.map Port.linkDown _).get p).txn = _
  rw [Table.get_map]
  unfold Port.linkDown
  split <;> rfl

theorem foldOver_alike {α : Type} {f : α → State → State} (l : List α) (h : ∀ x s, Alike s (f x s))
    (s : State) : Alike s (foldOver l f s) := by
  induction l generalizing s with
  | nil => exact .refl s
  | cons x l ih => exact (h x s).trans (ih (f x s))

theorem flushJobs_alike (s : State) : Alike s (flushJobs s) :=
  .of_touches (flushJobs_touches s) (Nat.le_refl _) (onPort_of_txn fun p => by
    show ((s.ports.map fun x : Port => { x with offers := flushOffers x.offers }).get p).txn = _
    rw [Table.get_map])

theorem flush_initiator_post (x : Port) (k : Fin 32) :
    x.flush.txn.map Txn.initiator = some (.post k) ↔ x.txn.map Txn.initiator = some (.post k) := by
  unfold Port.flush
  cases x.txn with
  | none => rfl
  | some q => cases e : q.initiator <;> simp [Initiator.flushed, e]

theorem flushPorts_alike (s : State) : Alike s (changeEveryPort Port.flush s) :=
  alike_setPorts fun p k => by rw [Table.get_map, change_txn]; exact flush_initiator_post _ k

theorem flushSources_alike (s : State) : Alike s (flushSources s) := by
  have judged : ∀ i t, Alike t (judgeAfterFlush i t) := fun i t =>
    .source (judgeAfterFlush_sourceActs i t) (judgeAfterFlush_touches i t)
  refine Alike.trans (.elsewhere (bs := [.sources, .freeDraws]) ?_) (foldOver_alike _ judged _)
  exact (setSources_touches _ _).within.trans (setFreeDraws_touches _ _).within

theorem flushPart_turns (s : State) : Turns s (flushPart s) :=
  (Turn.flush).then_alike
    (((flushJobs_alike _).trans (flushPorts_alike _)).trans (flushSources_alike _))

/-- Every move comes to turns. -/
theorem move_turns (m : Move s t) : Turns s t := by
  cases m with
  | quiet h => exact (Alike.elsewhere h).turns
  | reset c => exact .single (.reset c)
  | tick => exact tick_turns s
  | down c => exact goDown_turns c s
  | flush => exact flushPart_turns s
  | report k d => exact (alike_report k d s).turns
  | clear b => exact (Alike.elsewhere (setFaults_touches _ _)).turns
  | faultSent _ => exact (Alike.elsewhere (setFaults_touches _ _)).turns
  | faultAck => exact (Alike.elsewhere (setFaults_touches _ _)).turns
  | window i w _ _ => exact (Alike.elsewhere (setWindows_touches _ _)).turns
  | ports x h => exact (alike_setPorts fun p k => by rw [(h p).txn]; exact .rfl).turns
  | start p c h => exact startChoice_turns h
  | ends p x o d h => exact endTxn_turns h o d
  | holdOff item => exact (endHoldOff_alike item s).turns
  | admitTagged k id body h i ok => exact .single (.admitTagged k id body h i ok)
  | admitPost body h k ok => exact .single (.admitPost body h k ok)
  | admitFence id i ok => exact .single (.admitFence id i ok)
  | abort target => exact abortTarget_turns target s
  | expire i => exact expireTag_turns i s
  | release i l h => exact releaseTag_turns h
  | loadJob j d => exact (Alike.slot (loadJob_slotActs j d s) (loadJob_touches j d s)).turns
  | startJob j _ => exact (Alike.slot (startJob_slotActs j s) (startJob_touches j s)).turns
  | pauseJob j => exact (Alike.slot (pauseJob_slotActs j s) (pauseJob_touches j s)).turns
  | resumeJob j => exact (Alike.slot (resumeJob_slotActs j s) (resumeJob_touches j s)).turns
  | stopJob j => exact (Alike.slot (stopJob_slotActs j s) (stopJob_touches j s)).turns
  | jobSent j => exact (Alike.elsewhere (modJob_touches s j _)).turns
  | jobAck j => exact (Alike.elsewhere (modJob_touches s j _)).turns
  | rise i =>
    exact ((Alike.source (modSource_sourceActs i Source.edge s) (modSource_touches s i _)).trans
      (.source (judgeSource_sourceActs i _) (judgeSource_touches i _))).turns
  | irqSet i body _ => exact (Alike.source (takeIrqSet_sourceActs i body s) (takeIrqSet_touches i body s)).turns
  | mask v i => exact (Alike.source (maskSource_sourceActs v i s) (maskSource_touches v i s)).turns
  | done i _ => exact (Alike.source (closeCycle_sourceActs i s) (closeCycle_touches i s)).turns
  | sourceSent i _ => exact (Alike.elsewhere (modSource_touches s i _)).turns
  | sourceAck i q => exact (Alike.elsewhere (modSource_touches s i _)).turns

/-- A law that every turn keeps is kept by every step. -/
theorem kept_by_turns {P : State → Prop} (keeps : ∀ s t, Turn s t → P s → P t)
    (h : step s = .next t) (law : P s) : P t := by
  refine kept_by_step (fun u v m lu => ?_) h law
  exact Relation.ReflTransGen.head_induction_on (motive := fun w _ => P w → P v) (move_turns m) id
    (fun turn _ ih lw => ih (keeps _ _ turn lw)) lu

end Sys2Proof.Proofs.RequestTurns

/-! # The law of the tag table (02, 03) -/

namespace Sys2Proof.Proofs.TagTable

-- One theorem after another: the proofs of this part at once ask for more threads than the check allows.
set_option Elab.async false

open Sys2Proof.Machine Sys2Proof.Safety Sys2Proof.Proofs.Steps Sys2Proof.Proofs.RequestTurns

variable {s t : State}

/-! ## A FLUSH in the tag table (03 R57) -/

/-- An entry that a FLUSH has answered ABORTED. -/
def flushedTag (x : Tag) : Tag :=
  match x.state with
  | .queued => { x with state := .ready, status := .aborted, busPending := false, holdOff := none }
  | .waiting => { x with state := .ready, status := .aborted, busPending := false }
  | .active => { x with state := .ready, status := .aborted, busPending := true }
  | _ => x

theorem flushTag_tags (i : Fin 32) (s : State) : (flushTag i s).tags = s.tags.modify i flushedTag := by
  unfold flushTag
  split
  · next h =>
    rw [makeReady_tags, State.modTag_tags, modify_modify]
    exact modify_congr _ _ (by simp [flushedTag, h])
  · next h =>
    rw [readyFromBarrier_tags]
    exact modify_congr _ _ (by simp [flushedTag, h])
  · next h =>
    rw [makeReady_tags]
    exact modify_congr _ _ (by simp [flushedTag, h])
  · next h1 h2 h3 =>
    have : flushedTag (s.tags.get i) = s.tags.get i := by
      unfold flushedTag
      split <;> simp_all
    rw [Table.modify, this, Table.set_get_self]

theorem flushTag_ready {i : Fin 32} (h : (s.tags.get i).isOpen = true) :
    (flushTag i s).ready = s.ready ++ [i] := by
  unfold flushTag
  cases e : (s.tags.get i).state <;> simp [Tag.isOpen, e] at h <;> rfl

/-- A posted record without the FENCEs of a list that wait in its covering set. -/
def uncoverAll (tags : Table Tag 32) (l : List (Fin 32)) (x : Posted) : Posted :=
  { x with covering := x.covering.filter fun u => !(l.contains u && (tags.get u).state == .waiting) }

theorem uncoverAll_of_not_waiting {tags : Table Tag 32} {l : List (Fin 32)}
    (h : ∀ u ∈ l, (tags.get u).state ≠ .waiting) (x : Posted) : uncoverAll tags l x = x := by
  have : (x.covering.filter fun u => !(l.contains u && (tags.get u).state == .waiting)) = x.covering := by
    rw [List.filter_eq_self]
    intro u _
    by_cases mem : u ∈ l
    · simp [h u mem]
    · simp [mem]
  simp only [uncoverAll, this]

theorem flushTag_pool (i k : Fin 32) (s : State) :
    (flushTag i s).pool.get k = (s.pool.get k).map (uncoverAll s.tags [i]) := by
  have kept : (s.tags.get i).state ≠ .waiting → s.pool.get k = (s.pool.get k).map (uncoverAll s.tags [i]) := by
    intro h
    have : uncoverAll s.tags [i] = id := funext (uncoverAll_of_not_waiting (by simpa using h))
    rw [this, Option.map_id]
    rfl
  unfold flushTag
  split
  · next h =>
    rw [(makeReady_touches _ _ _ _ _).pool (by simp)]
    exact kept (by simp [h])
  · next h =>
    unfold readyFromBarrier uncover
    rw [(makeReady_touches _ _ _ _ _).pool (by simp), State.setPool_pool, Table.get_map]
    refine congrArg (Option.map · (s.pool.get k)) (funext fun x => ?_)
    simp only [uncoverAll]
    congr 2
    funext u
    by_cases e : u = i
    · simp [e, h]
    · simp [e]
  · next h =>
    rw [(makeReady_touches _ _ _ _ _).pool (by simp)]
    exact kept (by simp [h])
  · next h1 h2 h3 => exact kept h2

theorem uncoverAll_cons {tags tags' : Table Tag 32} {i : Fin 32} {l : List (Fin 32)}
    (same : ∀ u ∈ l, tags'.get u = tags.get u) (x : Posted) :
    uncoverAll tags' l (uncoverAll tags [i] x) = uncoverAll tags (i :: l) x := by
  simp only [uncoverAll, List.filter_filter]
  congr 2
  funext u
  by_cases mem : u ∈ l
  · rw [same u mem]
    by_cases w : (tags.get u).state = .waiting <;> simp [mem, w]
  · by_cases e : u = i
    · subst e
      simp [mem]
    · simp [mem, e]

/-- What a FLUSH does to the entries of a list, one after another. -/
structure Flushed (l : List (Fin 32)) (s t : State) : Prop where
  tags : ∀ j, t.tags.get j = if j ∈ l then flushedTag (s.tags.get j) else s.tags.get j
  ready : t.ready = s.ready ++ l
  pool : ∀ k, t.pool.get k = (s.pool.get k).map (uncoverAll s.tags l)

theorem foldOver_flushTag {l : List (Fin 32)} (nodup : l.Nodup)
    (isOpen : ∀ j ∈ l, (s.tags.get j).isOpen = true) : Flushed l s (foldOver l flushTag s) := by
  induction l generalizing s with
  | nil =>
    refine ⟨fun _ => by simp [foldOver], by simp [foldOver], fun k => ?_⟩
    have : uncoverAll s.tags [] = id := funext (uncoverAll_of_not_waiting (by simp))
    rw [this, Option.map_id]
    rfl
  | cons i l ih =>
    obtain ⟨fresh, nodup⟩ := List.nodup_cons.mp nodup
    have same : ∀ u ∈ l, (flushTag i s).tags.get u = s.tags.get u := fun u hu => by
      have ne : i ≠ u := fun e => fresh (e ▸ hu)
      rw [flushTag_tags, Table.get_modify_of_ne _ _ ne]
    obtain ⟨tags, ready, pool⟩ := ih (s := flushTag i s) nodup fun j hj => by
      rw [same j hj]
      exact isOpen j (List.mem_cons_of_mem _ hj)
    refine ⟨fun j => ?_, ?_, fun k => ?_⟩
    · show (foldOver l flushTag (flushTag i s)).tags.get j = _
      rw [tags j, flushTag_tags, Table.get_modify]
      by_cases e : i = j
      · subst e
        simp [fresh]
      · simp [e, Ne.symm e]
    · show (foldOver l flushTag (flushTag i s)).ready = _
      rw [ready, flushTag_ready (isOpen i List.mem_cons_self), List.append_assoc]
      rfl
    · show (foldOver l flushTag (flushTag i s)).pool.get k = _
      rw [pool k, flushTag_pool, Option.map_map]
      exact congrArg (Option.map · (s.pool.get k)) (funext (uncoverAll_cons same))

theorem mem_openTags (tags : Table Tag 32) (i : Fin 32) :
    i ∈ openTags tags ↔ (tags.get i).isOpen = true := by
  unfold openTags
  rw [(sortByKey_perm _ _).mem_iff, List.mem_filter]
  exact ⟨And.right, fun h => ⟨Table.mem_indices i, h⟩⟩

theorem nodup_openTags (tags : Table Tag 32) : (openTags tags).Nodup :=
  (sortByKey_perm _ _).nodup_iff.mpr (Table.nodup_indices.filter _)

theorem foldOver_flushTag_lists (l : List (Fin 32)) (s : State) :
    (foldOver l flushTag s).lists = s.lists :=
  (Touches.foldOver l s fun i t => flushTag_touches i t).lists (by simp)

/-- A FLUSH answers every open entry, in arrival order, and empties the lists (02 R35, 03 R57). -/
theorem flushRequests_spec (s : State) :
    (∀ j, (flushRequests s).tags.get j = flushedTag (s.tags.get j))
      ∧ (flushRequests s).ready = s.ready ++ openTags s.tags
      ∧ (∀ p, (flushRequests s).lists.get p = [])
      ∧ ∀ k, (flushRequests s).pool.get k
          = (flushSlot s k (s.pool.get k)).map (uncoverAll s.tags (openTags s.tags)) := by
  unfold flushRequests
  dsimp only
  have h := foldOver_flushTag (s := (s.setPool ⟨(Table.indices 32).map fun k => flushSlot s k (s.pool.get k),
    by simp [Table.indices]⟩).setLists (Table.fill 4 [])) (nodup_openTags s.tags)
    fun j hj => (mem_openTags s.tags j).mp hj
  obtain ⟨tags, ready, pool⟩ := h
  refine ⟨fun j => ?_, ready, fun p => ?_, fun k => ?_⟩
  · refine (tags j).trans ?_
    split
    · rfl
    · next closed =>
      have closed : ¬(s.tags.get j).isOpen = true := fun o => closed ((mem_openTags s.tags j).mpr o)
      show s.tags.get j = flushedTag (s.tags.get j)
      unfold flushedTag
      cases e : (s.tags.get j).state <;> simp [Tag.isOpen, e] at closed ⊢
  · rw [foldOver_flushTag_lists, State.setLists_lists, Table.get_fill]
  · refine (pool k).trans ?_
    rw [State.setLists_pool, State.setPool_pool, Table.get_ofIndices]
    rfl

/-! ## Entries counted in the request lists -/

/-- A sum over the indices of which one term changes. -/
theorem sum_change {n : Nat} {f g : Fin n → Nat} (p : Fin n) (h : ∀ q, q ≠ p → g q = f q) :
    ((Table.indices n).map g).sum + f p = ((Table.indices n).map f).sum + g p := by
  unfold Table.indices
  rw [← Fin.sum_univ_def, ← Fin.sum_univ_def, ← Finset.add_sum_erase _ f (Finset.mem_univ p),
    ← Finset.add_sum_erase _ g (Finset.mem_univ p)]
  have : ∑ q ∈ Finset.univ.erase p, g q = ∑ q ∈ Finset.univ.erase p, f q :=
    Finset.sum_congr rfl fun q hq => h q (Finset.ne_of_mem_erase hq)
  omega

theorem listUses_pos {e : Entry} : 0 < listUses s e ↔ ∃ p, e ∈ s.lists.get p := by
  unfold listUses
  rw [Nat.pos_iff_ne_zero, ne_eq, List.sum_eq_zero_iff]
  simp only [List.mem_map, forall_exists_index, and_imp, forall_apply_eq_imp_iff₂]
  constructor
  · intro h
    by_contra none
    exact h fun p _ => List.count_eq_zero.mpr fun mem => none ⟨p, mem⟩
  · rintro ⟨p, mem⟩ h
    exact List.count_eq_zero.mp (h p (Table.mem_indices p)) mem

theorem listUses_congr (h : t.lists = s.lists) (e : Entry) : listUses t e = listUses s e := by
  unfold listUses
  rw [h]

/-- One list changes. -/
theorem listUses_setList (p : Fin 4) (l : List Entry) (e : Entry) (s : State) :
    listUses (s.setList p l) e + (s.lists.get p).count e = listUses s e + l.count e := by
  have := sum_change (f := fun q => (s.lists.get q).count e) (g := fun q => ((s.setList p l).lists.get q).count e)
    p fun q ne => by rw [State.setList_lists, Table.get_set_of_ne _ _ (Ne.symm ne)]
  rw [State.setList_lists, Table.get_set_self] at this
  exact this

theorem listUses_append (p : Fin 4) (e' e : Entry) (s : State) :
    listUses (s.setList p (s.lists.get p ++ [e'])) e = listUses s e + if e' = e then 1 else 0 := by
  have := listUses_setList p (s.lists.get p ++ [e']) e s
  rw [List.count_append, List.count_singleton] at this
  simp only [beq_iff_eq] at this
  omega

theorem listUses_returnEntry (p : Fin 4) (e' e : Entry) (s : State) :
    listUses (returnEntry p e' s) e = listUses s e + if e' = e then 1 else 0 := by
  have := listUses_setList p (insertByKey (placeOf s) e' (s.lists.get p)) e s
  rw [(insertByKey_perm _ _ _).count_eq, List.count_cons] at this
  simp only [beq_iff_eq] at this
  unfold returnEntry
  omega

theorem listUses_removeEntry (e' e : Entry) (s : State) :
    listUses (removeEntry e' s) e = if e' = e then 0 else listUses s e := by
  have count : ∀ p, ((removeEntry e' s).lists.get p).count e
      = if e' = e then 0 else (s.lists.get p).count e := fun p => by
    unfold removeEntry
    rw [State.setLists_lists, Table.get_map]
    split
    · next h =>
      subst h
      exact List.count_eq_zero.mpr (by simp)
    · next h => exact List.count_filter (by simpa using Ne.symm h)
  unfold listUses
  simp only [count]
  split
  · simp
  · rfl

theorem listUses_empty (h : ∀ p, t.lists.get p = []) (e : Entry) : listUses t e = 0 := by
  unfold listUses
  simp [h]

/-! ## The law, tag by tag -/

/-- One tag stands once in the ready list when it is READY, once in the request lists when it is QUEUED,
and else in none. -/
structure TagFits (s : State) (i : Fin 32) : Prop where
  ready : s.ready.count i = if (s.tags.get i).state = .ready then 1 else 0
  queued : listUses s (.tag i) = if (s.tags.get i).state = .queued then 1 else 0

/-- Live request ids are distinct. -/
def DistinctIds (s : State) : Prop :=
  ∀ i j, (s.tags.get i).live = true → (s.tags.get j).live = true →
    (s.tags.get i).id = (s.tags.get j).id → i = j

theorem tagLaw_iff (s : State) : TagLaw s ↔ (∀ i, TagFits s i) ∧ DistinctIds s := by
  constructor
  · intro law
    refine ⟨fun i => ⟨?_, ?_⟩, law.ids⟩
    · split
      · next h => exact List.count_eq_one_of_mem law.ready_nodup ((law.ready_iff i).mpr h)
      · next h => exact List.count_eq_zero.mpr fun mem => h ((law.ready_iff i).mp mem)
    · have le := law.queued_once i
      have pos := listUses_pos (s := s) (e := .tag i)
      rw [← law.queued_iff] at pos
      split
      · next h =>
        have := pos.mpr h
        omega
      · next h =>
        have : ¬0 < listUses s (.tag i) := fun p => h (pos.mp p)
        omega
  · rintro ⟨fits, ids⟩
    refine ⟨?_, fun i => ?_, fun i => ?_, fun i => ?_, ids⟩
    · refine List.nodup_iff_count_le_one.mpr fun i => ?_
      rw [(fits i).ready]
      split <;> omega
    · rw [← List.count_pos_iff, (fits i).ready]
      split <;> simp [*]
    · rw [← listUses_pos, (fits i).queued]
      split <;> simp [*]
    · rw [(fits i).queued]
      split <;> omega

/-- Live entries that were live with the same id before. -/
theorem distinctIds_of (ids : DistinctIds s)
    (h : ∀ i, (t.tags.get i).live = true → (s.tags.get i).live = true ∧ (t.tags.get i).id = (s.tags.get i).id) :
    DistinctIds t := by
  intro i j li lj same
  obtain ⟨li', ei⟩ := h i li
  obtain ⟨lj', ej⟩ := h j lj
  exact ids i j li' lj' (by rw [← ei, ← ej, same])

theorem live_congr {x y : Tag} (h : y.state = x.state) : y.live = x.live := by
  unfold Tag.live
  rw [h]

/-- One tag's record, its place in the ready list and its place in the request lists change. -/
structure OneTag (i : Fin 32) (x : Tag) (s t : State) : Prop where
  tags : t.tags = s.tags.set i x
  ready : ∀ j, j ≠ i → t.ready.count j = s.ready.count j
  queued : ∀ j, j ≠ i → listUses t (.tag j) = listUses s (.tag j)

theorem OneTag.law {i : Fin 32} {x : Tag} (h : OneTag i x s t) (law : TagLaw s)
    (ready : t.ready.count i = if x.state = .ready then 1 else 0)
    (queued : listUses t (.tag i) = if x.state = .queued then 1 else 0)
    (ids : x.live = true → (s.tags.get i).live = true ∧ x.id = (s.tags.get i).id) : TagLaw t := by
  rw [tagLaw_iff] at law ⊢
  obtain ⟨fits, distinct⟩ := law
  refine ⟨fun j => ?_, distinctIds_of distinct fun j => ?_⟩
  · by_cases e : j = i
    · subst e
      exact ⟨by rw [h.tags, Table.get_set_self, ready], by rw [h.tags, Table.get_set_self, queued]⟩
    · have same : t.tags.get j = s.tags.get j := by rw [h.tags, Table.get_set_of_ne _ _ (Ne.symm e)]
      exact ⟨by rw [same, h.ready j e, (fits j).ready], by rw [same, h.queued j e, (fits j).queued]⟩
  · by_cases e : j = i
    · subst e
      rw [h.tags, Table.get_set_self]
      exact ids
    · rw [h.tags, Table.get_set_of_ne _ _ (Ne.symm e)]
      exact fun l => ⟨l, rfl⟩

theorem ready_count_zero (law : TagLaw s) {i : Fin 32} (h : (s.tags.get i).state ≠ .ready) :
    s.ready.count i = 0 := ((((tagLaw_iff s).mp law).1 i).ready).trans (if_neg h)

theorem listUses_zero (law : TagLaw s) {i : Fin 32} (h : (s.tags.get i).state ≠ .queued) :
    listUses s (.tag i) = 0 := ((((tagLaw_iff s).mp law).1 i).queued).trans (if_neg h)

/-! ## Every turn keeps the law -/

theorem tagLaw_alike (law : TagLaw s) (h : Alike s t) : TagLaw t := by
  rw [tagLaw_iff] at law ⊢
  refine ⟨fun i => ⟨?_, ?_⟩, distinctIds_of law.2 fun i => ?_⟩
  · rw [h.ready, (h.tags i).state, (law.1 i).ready]
  · rw [listUses_congr h.lists, (h.tags i).state, (law.1 i).queued]
  · rw [live_congr (h.tags i).state]
    exact fun l => ⟨l, (h.tags i).id⟩

theorem queued_of_waits (law : TagLaw s) {i : Fin 32} (h : Waits s i) : (s.tags.get i).state = .queued :=
  h.elim id (law.queued_iff i).mpr

theorem count_ready_append {i j : Fin 32} (ne : j ≠ i) (l : List (Fin 32)) :
    (l ++ [i]).count j = l.count j := by
  rw [List.count_append, List.count_singleton, if_neg (by simpa using Ne.symm ne)]
  rfl

/-- A live entry that stands in no list becomes READY. -/
theorem tagLaw_toReady {i : Fin 32} (law : TagLaw s) (u : State) (tags : u.tags = s.tags)
    (ready : u.ready = s.ready) (lists : ∀ j, j ≠ i → listUses u (.tag j) = listUses s (.tag j))
    (none_ : listUses u (.tag i) = 0) (live : (s.tags.get i).live = true)
    (other : (s.tags.get i).state ≠ .ready) : TagLaw (toReady i u) := by
  have h : OneTag i { s.tags.get i with state := .ready } s (toReady i u) :=
    ⟨by rw [← tags]; rfl, fun j ne => by rw [← ready]; exact count_ready_append ne _, lists⟩
  refine h.law law ?_ none_ fun _ => ⟨live, rfl⟩
  show (u.ready ++ [i]).count i = 1
  rw [ready, List.count_append, ready_count_zero law other]
  simp

theorem tagLaw_answer {i : Fin 32} (law : TagLaw s) (h : (s.tags.get i).state = .active) :
    TagLaw (toReady i s) := by
  exact tagLaw_toReady law s rfl rfl (fun _ _ => rfl) (listUses_zero law (by simp [h]))
    (by simp [Tag.live, h]) (by simp [h])

theorem tagLaw_unbar {i : Fin 32} (law : TagLaw s) (h : (s.tags.get i).state = .waiting) :
    TagLaw (toReady i (uncover i s)) := by
  exact tagLaw_toReady law (uncover i s) rfl rfl (fun _ _ => rfl) (listUses_zero law (by simp [h]))
    (by simp [Tag.live, h]) (by simp [h])

theorem tagLaw_unqueue {i : Fin 32} (law : TagLaw s) (h : Waits s i) :
    TagLaw (toReady i (removeEntry (.tag i) s)) := by
  have state := queued_of_waits law h
  refine tagLaw_toReady law (removeEntry (.tag i) s) rfl rfl (fun j ne => ?_) ?_ (by simp [Tag.live, state])
    (by simp [state])
  · rw [listUses_removeEntry, if_neg (by simpa using Ne.symm ne)]
  · rw [listUses_removeEntry, if_pos rfl]

theorem tagLaw_start {i : Fin 32} (law : TagLaw s) (h : Waits s i) :
    TagLaw (enter i .active (removeEntry (.tag i) s)) := by
  have state := queued_of_waits law h
  have one : OneTag i { s.tags.get i with state := .active } s (enter i .active (removeEntry (.tag i) s)) :=
    ⟨rfl, fun _ _ => rfl, fun j ne => (listUses_removeEntry _ _ s).trans (if_neg (by simpa using Ne.symm ne))⟩
  exact one.law law (ready_count_zero law (by simp [state])) ((listUses_removeEntry _ _ s).trans (if_pos rfl))
    fun _ => ⟨by simp [Tag.live, state], rfl⟩

theorem tagLaw_requeue {i : Fin 32} (law : TagLaw s) (p : Fin 4) (h : (s.tags.get i).state = .active) :
    TagLaw (returnEntry p (.tag i) (enter i .queued s)) := by
  have one : OneTag i { s.tags.get i with state := .queued } s (returnEntry p (.tag i) (enter i .queued s)) :=
    ⟨rfl, fun _ _ => rfl, fun j ne => (listUses_returnEntry p _ _ _).trans (by
      rw [if_neg (by simpa using Ne.symm ne)]; rfl)⟩
  refine one.law law (ready_count_zero law (by simp [h])) ?_ fun _ => ⟨by simp [Tag.live, h], rfl⟩
  rw [listUses_returnEntry]
  show listUses s (.tag i) + _ = _
  rw [listUses_zero law (by simp [h])]
  simp

/-- An entry that leaves the tag table, or its reply gone, stands in no list. -/
theorem tagLaw_gone {i : Fin 32} (law : TagLaw s) {x : Tag} {l : List (Fin 32)}
    (dead : x.state = .free ∨ x.state = .discarding) (others : ∀ j, j ≠ i → l.count j = s.ready.count j)
    (none_ : l.count i = 0) (state : (s.tags.get i).state ≠ .queued) :
    TagLaw ((s.setTags (s.tags.set i x)).setReady l) := by
  have one : OneTag i x s ((s.setTags (s.tags.set i x)).setReady l) := ⟨rfl, others, fun _ _ => rfl⟩
  refine one.law law ?_ ?_ fun live => ?_
  · rcases dead with e | e <;> simpa [e] using none_
  · refine (listUses_zero law state).trans ?_
    rcases dead with e | e <;> simp [e]
  · rcases dead with e | e <;> simp [Tag.live, e] at live

theorem tagLaw_release {i : Fin 32} {l : List (Fin 32)} (law : TagLaw s) (h : s.ready = i :: l) {x : Tag}
    (dead : x.state = .free ∨ x.state = .discarding) :
    TagLaw ((s.setTags (s.tags.set i x)).setReady l) := by
  have nodup := law.ready_nodup
  have ready : (s.tags.get i).state = .ready := (law.ready_iff i).mp (by simp [h])
  rw [h] at nodup
  refine tagLaw_gone law dead (fun j ne => ?_) (List.count_eq_zero.mpr (List.nodup_cons.mp nodup).1)
    (by simp [ready])
  rw [h, List.count_cons, if_neg (by simpa using Ne.symm ne)]
  rfl

theorem tagLaw_drop {i : Fin 32} (law : TagLaw s) (h : (s.tags.get i).state = .discarding) :
    TagLaw (freeEntry i s) := by
  exact tagLaw_gone law (x := Tag.zero) (.inl rfl) (fun _ _ => rfl) (ready_count_zero law (by simp [h]))
    (by simp [h])

/-- Turns of POSTs leave the tags, the ready list and the tagged entries alone. -/
theorem tagLaw_of_posts (law : TagLaw s) (tags : t.tags = s.tags) (ready : t.ready = s.ready)
    (lists : ∀ i, listUses t (.tag i) = listUses s (.tag i)) : TagLaw t := by
  rw [tagLaw_iff] at law ⊢
  refine ⟨fun i => ⟨?_, ?_⟩, distinctIds_of law.2 fun i => ?_⟩
  · rw [tags, ready, (law.1 i).ready]
  · rw [tags, lists, (law.1 i).queued]
  · rw [tags]
    exact fun l => ⟨l, rfl⟩

/-- A FENCE in WAITING counts the end of a POST, and is READY at the last. -/
theorem tagLaw_countEnd (law : TagLaw s) (b : Bool) (i : Fin 32) : TagLaw (countEnd b i s) := by
  unfold countEnd
  dsimp only
  split
  · next waiting =>
    have waiting := beq_iff_eq.mp waiting
    have counted : ∀ x : Tag, x.state = .waiting → x.id = (s.tags.get i).id →
        TagLaw (s.setTags (s.tags.set i x)) := by
      intro x hx id
      have one : OneTag i x s (s.setTags (s.tags.set i x)) := ⟨rfl, fun _ _ => rfl, fun _ _ => rfl⟩
      refine one.law law ?_ ?_ fun _ => ⟨by simp [Tag.live, waiting], id⟩
      · exact (ready_count_zero law (by simp [waiting])).trans (by simp [hx])
      · exact (listUses_zero law (by simp [waiting])).trans (by simp [hx])
    split
    · refine tagLaw_alike ?_ (alike_makeReady _ _ _ _ _)
      have law' := counted { s.tags.get i with
        outstanding := (s.tags.get i).outstanding - 1
        failed := if b then (s.tags.get i).failed + 1 else (s.tags.get i).failed } waiting rfl
      have state : ((s.setTags (s.tags.set i { s.tags.get i with
          outstanding := (s.tags.get i).outstanding - 1
          failed := if b then (s.tags.get i).failed + 1 else (s.tags.get i).failed })).tags.get i).state
          = .waiting := by
        rw [State.setTags_tags, Table.get_set_self]
        exact waiting
      exact tagLaw_toReady law' _ rfl rfl (fun _ _ => rfl) (listUses_zero law' (by rw [state]; simp))
        (by rw [Tag.live, state]) (by rw [state]; simp)
    · exact counted _ waiting rfl
  · exact law

theorem tagLaw_endPost (law : TagLaw s) (k : Fin 32) (x : Posted) (b : Bool) :
    TagLaw (endPost k x b s) := by
  have h : ∀ (l : List (Fin 32)) (u : State), TagLaw u → TagLaw (foldOver l (countEnd b) u) := by
    intro l
    induction l with
    | nil => exact fun _ h => h
    | cons i l ih => exact fun u hu => ih _ (tagLaw_countEnd hu b i)
  exact h _ _ (tagLaw_of_posts law rfl rfl fun _ => rfl)

/-! ### Admission, link down, FLUSH and reset -/

/-- The tag that admission takes is FREE, and its request id is in no live entry. -/
theorem of_checkTag {id : Half} {tags : Table Tag 32} {i : Fin 32} (ok : checkTag id tags = .ok i) :
    (tags.get i).state = .free ∧ ∀ j, (tags.get j).live = true → (tags.get j).id ≠ id := by
  unfold checkTag at ok
  split at ok
  · cases ok
  · next dup =>
    split at ok
    · next found =>
      cases ok
      refine ⟨by simpa using List.find?_some found, fun j live same => dup ?_⟩
      unfold liveTag
      rw [List.find?_isSome]
      exact ⟨j, Table.mem_indices j, by simp [live, same]⟩
    · cases ok

/-- A FREE entry is taken for a new request id. -/
theorem tagLaw_admit {i : Fin 32} {x : Tag} {id : Half} (law : TagLaw s) (one : OneTag i x s t)
    (ok : checkTag id s.tags = .ok i) (hid : x.id = id)
    (ready : t.ready.count i = if x.state = .ready then 1 else 0)
    (queued : listUses t (.tag i) = if x.state = .queued then 1 else 0) : TagLaw t := by
  obtain ⟨-, fresh⟩ := of_checkTag ok
  rw [tagLaw_iff] at law ⊢
  obtain ⟨fits, distinct⟩ := law
  have self : t.tags.get i = x := by rw [one.tags, Table.get_set_self]
  have other : ∀ j, j ≠ i → t.tags.get j = s.tags.get j := fun j ne => by
    rw [one.tags, Table.get_set_of_ne _ _ (Ne.symm ne)]
  refine ⟨fun j => ?_, fun j k lj lk same => ?_⟩
  · by_cases e : j = i
    · subst e
      exact ⟨by rw [self, ready], by rw [self, queued]⟩
    · exact ⟨by rw [other j e, one.ready j e, (fits j).ready], by rw [other j e, one.queued j e, (fits j).queued]⟩
  · by_cases ej : j = i <;> by_cases ek : k = i
    · rw [ej, ek]
    · rw [ej, self, hid, other k ek] at same
      rw [other k ek] at lk
      exact absurd same.symm (fresh k lk)
    · rw [ek, self, hid, other j ej] at same
      rw [other j ej] at lj
      exact absurd same (fresh j lj)
    · rw [other j ej] at lj same
      rw [other k ek] at lk same
      exact distinct j k lj lk same

theorem tagLaw_admitTagged (law : TagLaw s) (k : RequestKind) {id : Half} (body : List Byte) (h : Hit)
    {i : Fin 32} (ok : checkTag id s.tags = .ok i) : TagLaw (admitTagged k id body h i s) := by
  obtain ⟨free, -⟩ := of_checkTag ok
  have uses : ∀ e, listUses (admitTagged k id body h i s) e = listUses s e + if Entry.tag i = e then 1 else 0 :=
    fun e => listUses_append h.port (.tag i) e (s.setTags (s.tags.set i (admittedTag k id body h
      (s.ports.get h.port).settings.completionLimit s.nextPlace)))
  refine tagLaw_admit law ⟨rfl, fun _ _ => rfl, fun j ne => ?_⟩ ok rfl
    (ready_count_zero law (by simp [free])) ?_
  · rw [uses, if_neg (by simpa using Ne.symm ne), Nat.add_zero]
  · rw [uses, listUses_zero law (by simp [free])]
    simp [admittedTag]

/-- The state in which a FENCE has taken its tag (02 R31). -/
def fenced (id : Half) (i : Fin 32) (s : State) : State :=
  (s.setTags (s.tags.set i (fenceTag id (heldSlots s.pool) s.nextPlace))).bumpPlace

theorem fenced_state (id : Half) (i : Fin 32) (s : State) :
    ((fenced id i s).tags.get i).state = .waiting := by
  show ((s.tags.set i _).get i).state = _
  rw [Table.get_set_self]
  rfl

theorem tagLaw_admitFence (law : TagLaw s) {id : Half} {i : Fin 32} (ok : checkTag id s.tags = .ok i) :
    TagLaw (admitFence id i s) := by
  obtain ⟨free, -⟩ := of_checkTag ok
  have waiting : TagLaw (fenced id i s) :=
    tagLaw_admit law ⟨rfl, fun _ _ => rfl, fun _ _ => rfl⟩ ok rfl (ready_count_zero law (by simp [free]))
      (listUses_zero law (by simp [free]))
  have state := fenced_state id i s
  unfold admitFence
  dsimp only
  split
  · refine tagLaw_alike (s := toReady i (fenced id i s)) ?_ (alike_makeReady _ _ _ _ _)
    exact tagLaw_toReady waiting _ rfl rfl (fun _ _ => rfl) (listUses_zero waiting (by rw [state]; simp))
      (by rw [Tag.live, state]) (by rw [state]; simp)
  · exact tagLaw_of_posts waiting rfl rfl fun _ => rfl

/-- When no list holds a tagged entry and no entry is live, the law holds. -/
theorem tagLaw_of_dead (ready : t.ready = []) (lists : ∀ i, listUses t (.tag i) = 0)
    (dead : ∀ i, (t.tags.get i).state = .free ∨ (t.tags.get i).state = .discarding) : TagLaw t := by
  rw [tagLaw_iff]
  refine ⟨fun i => ⟨?_, ?_⟩, fun i _ live => ?_⟩
  · rw [ready]
    rcases dead i with e | e <;> simp [e]
  · rw [lists]
    rcases dead i with e | e <;> simp [e]
  · rcases dead i with e | e <;> simp [Tag.live, e] at live

theorem linkDown_dead (x : Tag) : x.linkDown.state = .free ∨ x.linkDown.state = .discarding := by
  unfold Tag.linkDown
  cases h : x.state
  case ready =>
    dsimp only
    split
    · exact .inr rfl
    · exact .inl rfl
  case active => exact .inr rfl
  case discarding => exact .inr h
  all_goals exact .inl rfl

theorem linkDownRequests_lists (p : Fin 4) (s : State) :
    (linkDownRequests s).lists.get p = (s.lists.get p).filter Entry.isPost := by
  unfold linkDownRequests
  rw [State.setReady_lists, State.setTags_lists, State.setPool_lists, State.setLists_lists, Table.get_map]
  refine congrArg (fun f => List.filter f (s.lists.get p)) (funext fun e => ?_)
  cases e <;> rfl

theorem tagLaw_linkDown (s : State) : TagLaw (linkDownRequests s) := by
  refine tagLaw_of_dead rfl (fun i => ?_) fun i => ?_
  · by_contra h
    obtain ⟨p, mem⟩ := listUses_pos.mp (Nat.pos_of_ne_zero h)
    rw [linkDownRequests_lists, List.mem_filter] at mem
    cases mem.2
  · have : (linkDownRequests s).tags.get i = (s.tags.get i).linkDown := Table.get_map _ _ _
    rw [this]
    exact linkDown_dead _

theorem tagLaw_reset (c : ResetCause) (s : State) : TagLaw (resetBlocks c s) := by
  refine tagLaw_of_dead rfl (fun i => listUses_empty (fun p => Table.get_fill _ _) _) fun i => .inl ?_
  have : (resetBlocks c s).tags.get i = Tag.zero := Table.get_fill _ _
  exact congrArg Tag.state this

theorem flushedTag_state (x : Tag) :
    (flushedTag x).state = if x.isOpen = true then .ready else x.state := by
  unfold flushedTag Tag.isOpen
  cases h : x.state <;> simp [h]

theorem flushedTag_id (x : Tag) : (flushedTag x).id = x.id := by
  unfold flushedTag
  split <;> rfl

theorem tagLaw_flush (law : TagLaw s) : TagLaw (flushRequests s) := by
  obtain ⟨tags, ready, lists, -⟩ := flushRequests_spec s
  rw [tagLaw_iff] at law ⊢
  refine ⟨fun i => ⟨?_, ?_⟩, distinctIds_of law.2 fun i => ?_⟩
  · have old := (law.1 i).ready
    rw [ready, tags, flushedTag_state, List.count_append, old]
    by_cases o : (s.tags.get i).isOpen = true
    · rw [if_pos o, List.count_eq_one_of_mem (nodup_openTags _) ((mem_openTags _ _).mpr o)]
      cases e : (s.tags.get i).state <;> simp [Tag.isOpen, e] at o ⊢
    · rw [if_neg o, List.count_eq_zero.mpr fun mem => o ((mem_openTags _ _).mp mem)]
      rfl
  · rw [listUses_empty lists, tags, flushedTag_state]
    cases e : (s.tags.get i).state <;> simp [Tag.isOpen, e]
  · rw [tags, flushedTag_id]
    refine fun live => ⟨?_, rfl⟩
    rw [Tag.live, flushedTag_state] at live
    cases e : (s.tags.get i).state <;> simp [Tag.isOpen, Tag.live, e] at live ⊢

theorem tagLaw_turn (h : Turn s t) (law : TagLaw s) : TagLaw t := by
  cases h with
  | alike h => exact tagLaw_alike law h
  | answer i h => exact tagLaw_answer law h
  | unqueue i h => exact tagLaw_unqueue law h
  | unbar i h => exact tagLaw_unbar law h
  | drop i h => exact tagLaw_drop law h
  | release i l h => exact tagLaw_release law h (x := Tag.zero) (.inl rfl)
  | discard i l h => exact tagLaw_release law h (x := { s.tags.get i with state := .discarding }) (.inr rfl)
  | start i h => exact tagLaw_start law h
  | requeue p i h => exact tagLaw_requeue law p h
  | startPost p k x q _ _ _ _ =>
    exact tagLaw_of_posts law rfl rfl fun i => (listUses_removeEntry (.post k) (.tag i) s).trans (if_neg (by simp))
  | requeuePost p k x _ =>
    exact tagLaw_of_posts law rfl rfl fun i => listUses_returnEntry p (.post k) (.tag i) (closeTxn p none s)
  | endPost p k x b _ =>
    have closed : TagLaw (closeTxn p none s) := tagLaw_of_posts law rfl rfl fun _ => rfl
    exact tagLaw_endPost closed k x b
  | lostPost p k _ _ => exact tagLaw_of_posts law rfl rfl fun _ => rfl
  | admitTagged k id body h i ok => exact tagLaw_admitTagged law k body h ok
  | admitPost body h k ok =>
    exact tagLaw_of_posts law rfl rfl fun i => listUses_append h.port (.post k) (.tag i)
      (s.setSlot k (some (postedRecord body h s.nextPlace)))
  | admitFence id i ok => exact tagLaw_admitFence law ok
  | down => exact tagLaw_linkDown s
  | flush => exact tagLaw_flush law
  | reset c => exact tagLaw_reset c s

/-- Settles O56: every turn keeps the law. -/
theorem tagLawIsKeptByEveryStep : Obligations.TagLawIsKeptByEveryStep := by
  unfold Obligations.TagLawIsKeptByEveryStep
  exact fun s t law h => kept_by_turns (fun _ _ turn => tagLaw_turn turn) h law

end Sys2Proof.Proofs.TagTable

/-! # The laws of the posted pool, of arrival order and of the FENCEs (02) -/

namespace Sys2Proof.Proofs.PostedPool

-- One theorem after another: the proofs of this part at once ask for more threads than the check allows.
set_option Elab.async false

open Sys2Proof.Machine Sys2Proof.Safety Sys2Proof.Proofs.Steps Sys2Proof.Proofs.RequestTurns
  Sys2Proof.Proofs.TagTable

variable {s t : State}

/-! ## Where a POST stands -/

/-- How often a posted slot is on a port. -/
def portUses (s : State) (k : Fin 32) : Nat :=
  ((Table.indices 4).map fun p =>
    if (s.ports.get p).txn.map Txn.initiator = some (.post k) then 1 else 0).sum

theorem postUses_eq (s : State) (k : Fin 32) : postUses s k = listUses s (.post k) + portUses s k :=
  List.sum_map_add ..

theorem portUses_congr {k : Fin 32} (h : ∀ p, OnPort t p k ↔ OnPort s p k) : portUses t k = portUses s k := by
  unfold portUses
  exact congrArg List.sum (List.map_congr_left fun p _ => if_congr (h p) rfl rfl)

/-- What happens at one port. -/
theorem portUses_change (p : Fin 4) (k : Fin 32) (others : ∀ q, q ≠ p → (OnPort t q k ↔ OnPort s q k)) :
    portUses t k + (if (s.ports.get p).txn.map Txn.initiator = some (.post k) then 1 else 0)
      = portUses s k + (if (t.ports.get p).txn.map Txn.initiator = some (.post k) then 1 else 0) :=
  sum_change (f := fun q => if (s.ports.get q).txn.map Txn.initiator = some (.post k) then 1 else 0)
    (g := fun q => if (t.ports.get q).txn.map Txn.initiator = some (.post k) then 1 else 0) p
    fun q ne => if_congr (others q ne) rfl rfl

theorem closeTxn_txn (p q : Fin 4) (l : Option Lock) (s : State) :
    ((closeTxn p l s).ports.get q).txn = if p = q then none else (s.ports.get q).txn :=
  changePort_txn p q _ s

/-- A port that gives up a POST. -/
theorem portUses_close {p : Fin 4} {k : Fin 32} (h : OnPort s p k) (l : Fin 32) :
    portUses (closeTxn p none s) l + (if k = l then 1 else 0) = portUses s l := by
  have others : ∀ q, q ≠ p → (OnPort (closeTxn p none s) q l ↔ OnPort s q l) := fun q ne => by
    unfold OnPort
    rw [closeTxn_txn, if_neg (Ne.symm ne)]
  have := portUses_change p l others
  rw [closeTxn_txn, if_pos rfl, h] at this
  simpa using this

/-- An idle port that takes up a POST. -/
theorem portUses_present {p : Fin 4} {k : Fin 32} {q : Txn} (idle : (s.ports.get p).txn = none)
    (hq : q.initiator = .post k) (l : Fin 32) :
    portUses (present p q s) l = portUses s l + if k = l then 1 else 0 := by
  have others : ∀ r, r ≠ p → (OnPort (present p q s) r l ↔ OnPort s r l) := fun r ne => by
    unfold OnPort
    rw [present_txn, if_neg (Ne.symm ne)]
  have := portUses_change p l others
  rw [present_txn, if_pos rfl, idle] at this
  simpa [hq] using this

theorem portUses_idle (h : ∀ p, (t.ports.get p).txn = none) (k : Fin 32) : portUses t k = 0 := by
  unfold portUses
  simp [h]

/-! ## The law of the posted pool -/

/-- The POSTs stand where they stood, and the same slots are held. -/
structure SamePosts (s t : State) : Prop where
  lists : ∀ k, listUses t (.post k) = listUses s (.post k)
  ports : ∀ p k, OnPort t p k ↔ OnPort s p k
  held : ∀ k, (t.pool.get k).isSome = (s.pool.get k).isSome

theorem postLaw_of_same (law : PostLaw s) (h : SamePosts s t) : PostLaw t := by
  intro k
  rw [postUses_eq, h.lists, portUses_congr fun p => h.ports p k, h.held, ← postUses_eq]
  exact law k

theorem posting_isSome {r q : Option Posted} (h : posting r = posting q) : r.isSome = q.isSome := by
  have := congrArg Option.isSome h
  simpa [posting] using this

theorem samePosts_alike (h : Alike s t) : SamePosts s t :=
  ⟨fun _ => listUses_congr h.lists _, h.posts, fun k => posting_isSome (h.pool k)⟩

/-- What only tagged entries do. -/
theorem samePosts_of_tags (lists : ∀ k, listUses t (.post k) = listUses s (.post k))
    (ports : t.ports = s.ports) (pool : t.pool = s.pool) : SamePosts s t :=
  ⟨lists, fun p k => by unfold OnPort; rw [ports], fun k => by rw [pool]⟩

theorem listUses_removeTag (i k : Fin 32) (s : State) :
    listUses (removeEntry (.tag i) s) (.post k) = listUses s (.post k) :=
  (listUses_removeEntry _ _ s).trans (if_neg (by simp))

theorem postLaw_startPost (law : PostLaw s) {p : Fin 4} {k : Fin 32} {x : Posted} {q : Txn}
    (mem : Entry.post k ∈ s.lists.get p) (held : s.pool.get k = some x)
    (idle : (s.ports.get p).txn = none) (hq : q.initiator = .post k) :
    PostLaw (present p q (removeEntry (.post k) s)) := by
  have one := law k
  have queued : 0 < listUses s (.post k) := listUses_pos.mpr ⟨p, mem⟩
  rw [postUses_eq, held] at one
  intro l
  have ports : portUses (removeEntry (.post k) s) l = portUses s l := rfl
  rw [postUses_eq, portUses_present (s := removeEntry (.post k) s) idle hq, ports]
  show listUses (removeEntry (.post k) s) (.post l) + _ = if (s.pool.get l).isSome = true then 1 else 0
  rw [listUses_removeEntry]
  by_cases e : k = l
  · subst e
    simp only [if_true, held, Option.isSome_some] at one ⊢
    omega
  · have old := law l
    rw [postUses_eq] at old
    simpa [e] using old

theorem postLaw_requeuePost (law : PostLaw s) {p : Fin 4} {k : Fin 32} {x : Posted} (h : Posting s p k x) :
    PostLaw (returnEntry p (.post k) (closeTxn p none s)) := by
  intro l
  have old := law l
  have closed := portUses_close h.onPort l
  rw [postUses_eq] at old
  rw [postUses_eq, listUses_returnEntry]
  show listUses s (.post l) + (if Entry.post k = Entry.post l then 1 else 0) + portUses (closeTxn p none s) l
    = if (s.pool.get l).isSome = true then 1 else 0
  rw [← old, ← closed]
  by_cases e : k = l
  · simp [e]
    omega
  · simp [e]

/-- What counting the end of a POST may touch. -/
theorem foldOver_countEnd_touches (l : List (Fin 32)) (b : Bool) (s : State) :
    Touches [.tags, .ready, .faults] s (foldOver l (countEnd b) s) :=
  .foldOver _ _ fun _ _ => countEnd_touches _ _ _

theorem endPost_pool (k : Fin 32) (x : Posted) (b : Bool) (s : State) :
    (endPost k x b s).pool = s.pool.set k none :=
  (foldOver_countEnd_touches x.covering b (s.setSlot k none)).pool (by simp)

theorem endPost_lists (k : Fin 32) (x : Posted) (b : Bool) (s : State) :
    (endPost k x b s).lists = s.lists :=
  (foldOver_countEnd_touches x.covering b (s.setSlot k none)).lists (by simp)

theorem endPost_ports (k : Fin 32) (x : Posted) (b : Bool) (s : State) :
    (endPost k x b s).ports = s.ports :=
  (foldOver_countEnd_touches x.covering b (s.setSlot k none)).ports (by simp)

theorem endPost_nextPlace (k : Fin 32) (x : Posted) (b : Bool) (s : State) :
    (endPost k x b s).nextPlace = s.nextPlace :=
  (foldOver_countEnd_touches x.covering b (s.setSlot k none)).nextPlace (by simp)

theorem postLaw_endPost (law : PostLaw s) {p : Fin 4} {k : Fin 32} {x : Posted} (b : Bool)
    (h : Posting s p k x) : PostLaw (endPost k x b (closeTxn p none s)) := by
  intro l
  have old := law l
  have closed := portUses_close h.onPort l
  have ports : portUses (endPost k x b (closeTxn p none s)) l = portUses (closeTxn p none s) l :=
    portUses_congr fun p => by unfold OnPort; rw [endPost_ports]
  rw [postUses_eq, ← closed] at old
  rw [postUses_eq, listUses_congr (endPost_lists _ _ _ _), ports, endPost_pool]
  show listUses s (.post l) + portUses (closeTxn p none s) l =
    if ((s.pool.set k none).get l).isSome = true then 1 else 0
  rw [Table.get_set]
  by_cases e : k = l
  · subst e
    rw [h.held] at old
    simp at old ⊢
    omega
  · simpa [e] using old

theorem postLaw_lostPost (law : PostLaw s) {p : Fin 4} {k : Fin 32} (h : OnPort s p k)
    (gone : s.pool.get k = none) : False := by
  have old := law k
  have closed := portUses_close h k
  rw [postUses_eq, gone] at old
  simp at old closed
  omega

theorem of_freeSlot {pool : Table (Option Posted) 32} {k : Fin 32} (ok : freeSlot pool = some k) :
    pool.get k = none := by
  simpa using List.find?_some ok

theorem postLaw_admitPost (law : PostLaw s) (body : List Byte) (h : Hit) {k : Fin 32}
    (ok : freeSlot s.pool = some k) : PostLaw (admitPost body h k s) := by
  have free := of_freeSlot ok
  intro l
  have old := law l
  have uses : listUses (admitPost body h k s) (.post l) =
      listUses s (.post l) + if Entry.post k = Entry.post l then 1 else 0 :=
    listUses_append h.port (.post k) (.post l) (s.setSlot k (some (postedRecord body h s.nextPlace)))
  have pool : (admitPost body h k s).pool = s.pool.set k (some (postedRecord body h s.nextPlace)) := rfl
  have ports : portUses (admitPost body h k s) l = portUses s l := rfl
  rw [postUses_eq] at old
  rw [postUses_eq, uses, ports, pool, Table.get_set]
  by_cases e : k = l
  · subst e
    simp only [free] at old
    simp at old ⊢
    omega
  · simpa [e] using old

theorem admitFence_pool (id : Half) (i k : Fin 32) (s : State) :
    (admitFence id i s).pool.get k =
      if heldSlots s.pool = 0 then s.pool.get k
      else (s.pool.get k).map fun x => { x with covering := x.covering ++ [i] } := by
  unfold admitFence
  dsimp only
  split
  · rw [(makeReady_touches _ _ _ _ _).pool (by simp)]
    rfl
  · exact Table.get_map _ _ _

theorem samePosts_admitFence (id : Half) (i : Fin 32) (s : State) : SamePosts s (admitFence id i s) := by
  have touches := admitFence_touches id i s
  refine ⟨fun k => listUses_congr (touches.lists (by simp)) _, fun p k => ?_, fun k => ?_⟩
  · unfold OnPort
    rw [touches.ports (by simp)]
  · rw [admitFence_pool]
    split <;> simp

theorem linkDownRequests_pool (k : Fin 32) (s : State) :
    (linkDownRequests s).pool.get k = (s.pool.get k).map fun x => { x with covering := [] } :=
  Table.get_map _ _ _

theorem samePosts_linkDown (s : State) : SamePosts s (linkDownRequests s) := by
  refine ⟨fun k => ?_, fun _ _ => .rfl, fun k => by rw [linkDownRequests_pool]; simp⟩
  unfold listUses
  refine congrArg List.sum (List.map_congr_left fun p _ => ?_)
  rw [linkDownRequests_lists]
  exact List.count_filter rfl

theorem isQueuedPost_iff (s : State) (k : Fin 32) : isQueuedPost s k = true ↔ ∃ p, Entry.post k ∈ s.lists.get p := by
  unfold isQueuedPost
  rw [List.any_eq_true]
  constructor
  · rintro ⟨l, mem, h⟩
    obtain ⟨p, rfl⟩ := (Table.mem_rows_iff _ _).mp mem
    exact ⟨p, by simpa using h⟩
  · rintro ⟨p, h⟩
    exact ⟨_, (Table.mem_rows_iff _ _).mpr ⟨p, rfl⟩, by simpa using h⟩

theorem postLaw_flush (law : PostLaw s) : PostLaw (flushRequests s) := by
  obtain ⟨-, -, lists, pool⟩ := flushRequests_spec s
  intro k
  have old := law k
  have ports : portUses (flushRequests s) k = portUses s k :=
    portUses_congr fun p => by unfold OnPort; rw [(flushRequests_touches s).ports (by simp)]
  have queued := isQueuedPost_iff s k
  rw [← listUses_pos] at queued
  rw [postUses_eq] at old
  rw [postUses_eq, listUses_empty lists, ports, pool, Option.isSome_map]
  unfold flushSlot
  by_cases q : isQueuedPost s k = true
  · have := queued.mp q
    rw [if_pos q]
    split at old <;> simp <;> omega
  · have : ¬0 < listUses s (.post k) := fun p => q (queued.mpr p)
    rw [if_neg q, Option.isSome_map, ← old]
    omega

theorem postLaw_reset (c : ResetCause) (s : State) : PostLaw (resetBlocks c s) := by
  intro k
  have txn : ∀ p, ((resetBlocks c s).ports.get p).txn = none := fun p => by
    have : (resetBlocks c s).ports.get p = Port.atReset s.pins.freeze := Table.get_fill _ _
    rw [this]
    rfl
  have pool : (resetBlocks c s).pool.get k = none := Table.get_fill _ _
  rw [postUses_eq, portUses_idle txn, listUses_empty (fun p => Table.get_fill _ _), pool]
  rfl

theorem postLaw_turn (h : Turn s t) (law : PostLaw s) : PostLaw t := by
  cases h with
  | alike h => exact postLaw_of_same law (samePosts_alike h)
  | answer i _ => exact postLaw_of_same law (samePosts_of_tags (fun _ => rfl) rfl rfl)
  | unqueue i _ => exact postLaw_of_same law (samePosts_of_tags (fun k => listUses_removeTag i k s) rfl rfl)
  | unbar i _ =>
    refine postLaw_of_same law ⟨fun _ => rfl, fun _ _ => .rfl, fun k => ?_⟩
    have : (toReady i (uncover i s)).pool.get k = (s.pool.get k).map _ := Table.get_map _ _ _
    rw [this, Option.isSome_map]
  | drop i _ => exact postLaw_of_same law (samePosts_of_tags (fun _ => rfl) rfl rfl)
  | release i l _ => exact postLaw_of_same law (samePosts_of_tags (fun _ => rfl) rfl rfl)
  | discard i l _ => exact postLaw_of_same law (samePosts_of_tags (fun _ => rfl) rfl rfl)
  | start i _ => exact postLaw_of_same law (samePosts_of_tags (fun k => listUses_removeTag i k s) rfl rfl)
  | requeue p i _ =>
    exact postLaw_of_same law (samePosts_of_tags (fun k => listUses_returnEntry p (.tag i) (.post k) _) rfl rfl)
  | startPost p k x q mem held idle hq => exact postLaw_startPost law mem held idle hq
  | requeuePost p k x h => exact postLaw_requeuePost law h
  | endPost p k x b h => exact postLaw_endPost law b h
  | lostPost p k h gone => exact (postLaw_lostPost law h gone).elim
  | admitTagged k id body h i _ =>
    exact postLaw_of_same law (samePosts_of_tags (fun l => listUses_append h.port (.tag i) (.post l)
      (s.setTags _)) rfl rfl)
  | admitPost body h k ok => exact postLaw_admitPost law body h ok
  | admitFence id i _ => exact postLaw_of_same law (samePosts_admitFence id i s)
  | down => exact postLaw_of_same law (samePosts_linkDown s)
  | flush => exact postLaw_flush law
  | reset c => exact postLaw_reset c s

/-! ## The law of arrival order -/

/-- The entries that are in use stay so with their places, and no list gains an entry. -/
structure KeepsPlaces (s t : State) : Prop where
  lists : ∀ p, (t.lists.get p).Sublist (s.lists.get p)
  tags : ∀ i, (t.tags.get i).state ≠ .free →
    (s.tags.get i).state ≠ .free ∧ (t.tags.get i).place = (s.tags.get i).place
  pool : ∀ k y, t.pool.get k = some y → ∃ x, s.pool.get k = some x ∧ x.place = y.place
  next : s.nextPlace ≤ t.nextPlace

/-- A queued entry is in use: its tag is not FREE, or its slot is held. -/
theorem inUse_of_queued (tagLaw : TagLaw t) (postLaw : PostLaw t) {p : Fin 4} {e : Entry}
    (mem : e ∈ t.lists.get p) :
    (∃ i, e = .tag i ∧ (t.tags.get i).state = .queued) ∨ ∃ k x, e = .post k ∧ t.pool.get k = some x := by
  cases e with
  | tag i => exact .inl ⟨i, rfl, (tagLaw.queued_iff i).mpr ⟨p, mem⟩⟩
  | post k =>
    have uses := postLaw k
    have queued : 0 < listUses t (.post k) := listUses_pos.mpr ⟨p, mem⟩
    rw [postUses_eq] at uses
    cases held : t.pool.get k with
    | some x => exact .inr ⟨k, x, rfl, held⟩
    | none =>
      rw [held] at uses
      simp at uses
      omega

theorem placeOf_post {k : Fin 32} {x : Posted} (h : s.pool.get k = some x) : placeOf s (.post k) = x.place := by
  simp [placeOf, h]

theorem orderLaw_of_keepsPlaces (law : OrderLaw s) (tagLaw : TagLaw t) (postLaw : PostLaw t)
    (h : KeepsPlaces s t) : OrderLaw t where
  lists p := by
    refine ((law.lists p).sublist (h.lists p)).imp_of_mem fun {a b} ma mb lt => ?_
    have place : ∀ e ∈ t.lists.get p, placeOf t e = placeOf s e := fun e mem => by
      rcases inUse_of_queued tagLaw postLaw mem with ⟨i, rfl, queued⟩ | ⟨k, y, rfl, held⟩
      · exact (h.tags i (by simp [queued])).2
      · obtain ⟨x, hx, same⟩ := h.pool k y held
        rw [placeOf_post held, placeOf_post hx, same]
    rw [place a ma, place b mb]
    exact lt
  tag_lt i used := by
    obtain ⟨used', place⟩ := h.tags i used
    rw [place]
    exact Nat.lt_of_lt_of_le (law.tag_lt i used') h.next
  post_lt k y held := by
    obtain ⟨x, hx, place⟩ := h.pool k y held
    rw [← place]
    exact Nat.lt_of_lt_of_le (law.post_lt k x hx) h.next
  tags i j ui uj same := by
    obtain ⟨ui', pi⟩ := h.tags i ui
    obtain ⟨uj', pj⟩ := h.tags j uj
    exact law.tags i j ui' uj' (by rw [← pi, ← pj, same])
  posts k l x y hx hy same := by
    obtain ⟨x', hx', px⟩ := h.pool k x hx
    obtain ⟨y', hy', py⟩ := h.pool l y hy
    exact law.posts k l x' y' hx' hy' (by rw [px, py, same])
  apart i k x used hx := by
    obtain ⟨used', place⟩ := h.tags i used
    obtain ⟨x', hx', px⟩ := h.pool k x hx
    rw [place, ← px]
    exact law.apart i k x' used' hx'

/-! ### An entry returns to its place (02 R26) -/

theorem insertByKey_pairwise {α : Type} {key : α → Nat} {x : α} {l : List α}
    (sorted : l.Pairwise fun a b => key a < key b) (fresh : ∀ e ∈ l, key e ≠ key x) :
    (insertByKey key x l).Pairwise fun a b => key a < key b := by
  obtain ⟨pre, post, hl, hi, before, after⟩ := insertByKey_split key x l
  rw [hi]
  rw [hl] at sorted fresh
  obtain ⟨sp, sq, cross⟩ := List.pairwise_append.mp sorted
  have behind : ∀ e ∈ post, key x < key e := by
    cases post with
    | nil => simp
    | cons y ys =>
      have first : key x < key y := after y (by simp)
      obtain ⟨rest, -⟩ := List.pairwise_cons.mp sq
      intro e he
      rcases List.mem_cons.mp he with rfl | he
      · exact first
      · exact Nat.lt_trans first (rest e he)
  have ahead : ∀ e ∈ pre, key e < key x := fun e he =>
    Nat.lt_of_le_of_ne (before e he) (fresh e (List.mem_append_left _ he))
  refine List.pairwise_append.mpr ⟨sp, List.pairwise_cons.mpr ⟨behind, sq⟩, fun a ha b hb => ?_⟩
  rcases List.mem_cons.mp hb with rfl | hb
  · exact ahead a ha
  · exact cross a ha b hb

/-- The lists, tags and pool of a state are kept but for one entry that returns to its list. -/
theorem orderLaw_returnEntry (law : OrderLaw s) (p : Fin 4) (e : Entry)
    (fresh : ∀ e' ∈ s.lists.get p, placeOf s e' ≠ placeOf s e) : OrderLaw (returnEntry p e s) where
  lists q := by
    show ((s.lists.set p _).get q).Pairwise fun a b => placeOf s a < placeOf s b
    rw [Table.get_set]
    split
    · exact insertByKey_pairwise (law.lists p) fresh
    · exact law.lists q
  tag_lt := law.tag_lt
  post_lt := law.post_lt
  tags := law.tags
  posts := law.posts
  apart := law.apart

/-- One tag in use enters another state of use. -/
theorem orderLaw_enter (law : OrderLaw s) (tagPlaces : ∀ i, (t.tags.get i).state ≠ .free →
      (s.tags.get i).state ≠ .free) (place : ∀ i, (t.tags.get i).place = (s.tags.get i).place)
    (pool : t.pool = s.pool) (lists : t.lists = s.lists) (next : t.nextPlace = s.nextPlace) : OrderLaw t where
  lists p := by
    have same : placeOf t = placeOf s := funext fun e => by
      cases e with
      | tag i => exact place i
      | post k => simp only [placeOf, pool]
    rw [lists, same]
    exact law.lists p
  tag_lt i used := by rw [place, next]; exact law.tag_lt i (tagPlaces i used)
  post_lt k x held := by rw [next]; exact law.post_lt k x (pool ▸ held)
  tags i j ui uj same := law.tags i j (tagPlaces i ui) (tagPlaces j uj) (by rw [← place, ← place, same])
  posts k l x y hx hy same := law.posts k l x y (pool ▸ hx) (pool ▸ hy) same
  apart i k x used held := by rw [place]; exact law.apart i k x (tagPlaces i used) (pool ▸ held)

theorem orderLaw_requeue (law : OrderLaw s) (tagLaw : TagLaw s) (postLaw : PostLaw s) (p : Fin 4)
    {i : Fin 32} (active : (s.tags.get i).state = .active) :
    OrderLaw (returnEntry p (.tag i) (enter i .queued s)) := by
  have place : ∀ j, ((enter i .queued s).tags.get j).place = (s.tags.get j).place := fun j => by
    unfold enter
    rw [State.modTag_tags, Table.get_modify]
    split <;> rfl
  refine orderLaw_returnEntry (orderLaw_enter law (fun j used => ?_) place rfl rfl rfl) p _ fun e mem => ?_
  · by_cases e : i = j
    · subst e
      simp [active]
    · simpa [enter, Table.get_modify, e] using used
  · have mem : e ∈ s.lists.get p := mem
    show placeOf (enter i .queued s) e ≠ ((enter i .queued s).tags.get i).place
    rw [place]
    rcases inUse_of_queued tagLaw postLaw mem with ⟨j, rfl, queued⟩ | ⟨k, x, rfl, held⟩
    · intro same
      have : j = i := law.tags j i (by simp [queued]) (by simp [active]) ((place j).symm.trans same)
      rw [this, active] at queued
      cases queued
    · have held' : (enter i .queued s).pool.get k = some x := held
      rw [placeOf_post held']
      exact Ne.symm (law.apart i k x (by simp [active]) held)

theorem not_queued_of_onPort (postLaw : PostLaw s) {p q : Fin 4} {k : Fin 32} (h : OnPort s p k) :
    Entry.post k ∉ s.lists.get q := by
  intro mem
  have uses := postLaw k
  have closed := portUses_close h k
  have queued : 0 < listUses s (.post k) := listUses_pos.mpr ⟨q, mem⟩
  rw [postUses_eq] at uses
  simp at closed
  split at uses <;> omega

theorem orderLaw_requeuePost (law : OrderLaw s) (tagLaw : TagLaw s) (postLaw : PostLaw s) {p : Fin 4}
    {k : Fin 32} {x : Posted} (h : Posting s p k x) :
    OrderLaw (returnEntry p (.post k) (closeTxn p none s)) := by
  have closed : OrderLaw (closeTxn p none s) := orderLaw_enter law (fun _ h => h) (fun _ => rfl) rfl rfl rfl
  refine orderLaw_returnEntry closed p _ fun e mem => ?_
  show placeOf s e ≠ placeOf s (.post k)
  rw [placeOf_post h.held]
  have mem : e ∈ s.lists.get p := mem
  rcases inUse_of_queued tagLaw postLaw mem with ⟨j, rfl, queued⟩ | ⟨l, y, rfl, held⟩
  · exact law.apart j k x (by simp [queued]) h.held
  · rw [placeOf_post held]
    intro same
    have : l = k := law.posts l k y x held h.held same
    exact not_queued_of_onPort postLaw h.onPort (this ▸ mem)

/-! ### A request is admitted with the next place (02 R17) -/

/-- One entry is new, with the next place; the others in use keep theirs. -/
structure Admits (new : Entry) (s t : State) : Prop where
  newTag : ∀ i, Entry.tag i = new → (t.tags.get i).place = s.nextPlace
  oldTag : ∀ i, Entry.tag i ≠ new → (t.tags.get i).state ≠ .free →
    (s.tags.get i).state ≠ .free ∧ (t.tags.get i).place = (s.tags.get i).place
  newPost : ∀ k y, Entry.post k = new → t.pool.get k = some y → y.place = s.nextPlace
  oldPost : ∀ k y, Entry.post k ≠ new → t.pool.get k = some y →
    ∃ x, s.pool.get k = some x ∧ x.place = y.place
  lists : ∀ p, t.lists.get p = s.lists.get p ∨ t.lists.get p = s.lists.get p ++ [new]
  next : t.nextPlace = s.nextPlace + 1
  fresh : ∀ p, new ∉ s.lists.get p

section

variable {new : Entry} (h : Admits new s t)

include h

theorem Admits.tag_cases (law : OrderLaw s) {i : Fin 32} (used : (t.tags.get i).state ≠ .free) :
    (Entry.tag i = new ∧ (t.tags.get i).place = s.nextPlace)
      ∨ ((s.tags.get i).state ≠ .free ∧ (t.tags.get i).place = (s.tags.get i).place
        ∧ (t.tags.get i).place < s.nextPlace) := by
  by_cases e : Entry.tag i = new
  · exact .inl ⟨e, h.newTag i e⟩
  · obtain ⟨used', place⟩ := h.oldTag i e used
    exact .inr ⟨used', place, by rw [place]; exact law.tag_lt i used'⟩

theorem Admits.post_cases (law : OrderLaw s) {k : Fin 32} {y : Posted} (held : t.pool.get k = some y) :
    (Entry.post k = new ∧ y.place = s.nextPlace)
      ∨ ∃ x, s.pool.get k = some x ∧ x.place = y.place ∧ y.place < s.nextPlace := by
  by_cases e : Entry.post k = new
  · exact .inl ⟨e, h.newPost k y e held⟩
  · obtain ⟨x, hx, place⟩ := h.oldPost k y e held
    exact .inr ⟨x, hx, place, by rw [← place]; exact law.post_lt k x hx⟩

/-- The entries of a list before an admission keep their places, below that of the new one. -/
theorem Admits.old_place (law : OrderLaw s) (tagLaw : TagLaw t) (postLaw : PostLaw t) {p : Fin 4} {e : Entry}
    (mem : e ∈ s.lists.get p) : placeOf t e = placeOf s e ∧ placeOf s e < s.nextPlace := by
  have ne : e ≠ new := fun eq => h.fresh p (eq ▸ mem)
  have mem' : e ∈ t.lists.get p := by
    rcases h.lists p with eq | eq <;> rw [eq]
    · exact mem
    · exact List.mem_append_left _ mem
  rcases inUse_of_queued tagLaw postLaw mem' with ⟨i, rfl, queued⟩ | ⟨k, y, rfl, held⟩
  · rcases h.tag_cases law (i := i) (by simp [queued]) with ⟨eq, -⟩ | ⟨-, place, lt⟩
    · exact absurd eq ne
    · exact ⟨place, by rw [placeOf, ← place]; exact lt⟩
  · rcases h.post_cases law held with ⟨eq, -⟩ | ⟨x, hx, place, lt⟩
    · exact absurd eq ne
    · rw [placeOf_post held, placeOf_post hx]
      exact ⟨place.symm, place ▸ lt⟩

theorem Admits.new_place (tagLaw : TagLaw t) (postLaw : PostLaw t) {p : Fin 4}
    (mem : new ∈ t.lists.get p) : placeOf t new = s.nextPlace := by
  rcases inUse_of_queued tagLaw postLaw mem with ⟨i, e, -⟩ | ⟨k, y, e, held⟩
  · rw [e]
    exact h.newTag i e.symm
  · rw [e, placeOf_post held]
    exact h.newPost k y e.symm held

theorem orderLaw_admits (law : OrderLaw s) (tagLaw : TagLaw t) (postLaw : PostLaw t) : OrderLaw t where
  lists p := by
    have old : ((s.lists.get p).Pairwise fun a b => placeOf t a < placeOf t b) :=
      (law.lists p).imp_of_mem fun ma mb lt => by
        rw [(h.old_place law tagLaw postLaw ma).1, (h.old_place law tagLaw postLaw mb).1]
        exact lt
    rcases h.lists p with eq | eq <;> rw [eq]
    · exact old
    · refine List.pairwise_append.mpr ⟨old, List.pairwise_singleton _ _, fun a ma b mb => ?_⟩
      obtain ⟨same, lt⟩ := h.old_place law tagLaw postLaw ma
      rw [List.mem_singleton.mp mb, h.new_place tagLaw postLaw (p := p) (by simp [eq]), same]
      exact lt
  tag_lt i used := by
    rw [h.next]
    rcases h.tag_cases law used with ⟨-, place⟩ | ⟨-, -, lt⟩ <;> omega
  post_lt k y held := by
    rw [h.next]
    rcases h.post_cases law held with ⟨-, place⟩ | ⟨x, -, -, lt⟩ <;> omega
  tags i j ui uj same := by
    rcases h.tag_cases law ui with ⟨ei, pi⟩ | ⟨ui', pi, li⟩ <;>
      rcases h.tag_cases law uj with ⟨ej, pj⟩ | ⟨uj', pj, lj⟩
    · exact Entry.tag.inj (ei.trans ej.symm)
    · omega
    · omega
    · exact law.tags i j ui' uj' (by rw [← pi, ← pj, same])
  posts k l x y hx hy same := by
    rcases h.post_cases law hx with ⟨ek, pk⟩ | ⟨x', hx', pk, lk⟩ <;>
      rcases h.post_cases law hy with ⟨el, pl⟩ | ⟨y', hy', pl, ll⟩
    · exact Entry.post.inj (ek.trans el.symm)
    · omega
    · omega
    · exact law.posts k l x' y' hx' hy' (by rw [pk, pl, same])
  apart i k x used held := by
    rcases h.tag_cases law used with ⟨ei, pi⟩ | ⟨used', pi, li⟩ <;>
      rcases h.post_cases law held with ⟨ek, pk⟩ | ⟨x', hx', pk, lk⟩
    · exact nomatch ei.trans ek.symm
    · omega
    · omega
    · rw [pi, ← pk]
      exact law.apart i k x' used' hx'

end

theorem admits_tagged (tagLaw : TagLaw s) (k : RequestKind) {id : Half} (body : List Byte) (h : Hit)
    {i : Fin 32} (ok : checkTag id s.tags = .ok i) : Admits (.tag i) s (admitTagged k id body h i s) where
  newTag j e := by
    cases e
    show ((s.tags.set i _).get i).place = _
    rw [Table.get_set_self]
    rfl
  oldTag j ne used := by
    have ne : i ≠ j := fun e => ne (congrArg Entry.tag e.symm)
    have same : (admitTagged k id body h i s).tags.get j = s.tags.get j := Table.get_set_of_ne _ _ ne
    rw [same] at used ⊢
    exact ⟨used, rfl⟩
  newPost _ _ e := nomatch e
  oldPost _ y _ held := ⟨y, held, rfl⟩
  lists p := by
    show (s.lists.set h.port _).get p = _ ∨ (s.lists.set h.port _).get p = _
    rw [Table.get_set]
    split
    · next e => subst e; exact .inr rfl
    · exact .inl rfl
  next := rfl
  fresh p mem := by
    have := (tagLaw.queued_iff i).mpr ⟨p, mem⟩
    rw [(of_checkTag ok).1] at this
    cases this

theorem admits_post (postLaw : PostLaw s) (body : List Byte) (h : Hit) {k : Fin 32}
    (ok : freeSlot s.pool = some k) : Admits (.post k) s (admitPost body h k s) where
  newTag _ e := nomatch e
  oldTag _ _ used := ⟨used, rfl⟩
  newPost l y e held := by
    cases e
    have self : (admitPost body h k s).pool.get k = some (postedRecord body h s.nextPlace) :=
      Table.get_set_self _ _ _
    rw [self] at held
    cases held
    rfl
  oldPost l y ne held := by
    have ne : k ≠ l := fun e => ne (congrArg Entry.post e.symm)
    have same : (admitPost body h k s).pool.get l = s.pool.get l := Table.get_set_of_ne _ _ ne
    exact ⟨y, same ▸ held, rfl⟩
  lists p := by
    show (s.lists.set h.port _).get p = _ ∨ (s.lists.set h.port _).get p = _
    rw [Table.get_set]
    split
    · next e => subst e; exact .inr rfl
    · exact .inl rfl
  next := rfl
  fresh p mem := by
    have uses := postLaw k
    have queued : 0 < listUses s (.post k) := listUses_pos.mpr ⟨p, mem⟩
    rw [postUses_eq, of_freeSlot ok] at uses
    simp at uses
    omega

theorem admitFence_tags (id : Half) (i : Fin 32) (s : State) :
    (admitFence id i s).tags =
      if heldSlots s.pool = 0 then
        s.tags.set i { fenceTag id (heldSlots s.pool) s.nextPlace with state := .ready, status := .ok, busPending := false }
      else s.tags.set i (fenceTag id (heldSlots s.pool) s.nextPlace) := by
  unfold admitFence
  dsimp only
  split
  · rw [makeReady_tags]
    show (s.tags.set i _).modify i _ = _
    rw [Table.modify, Table.get_set_self, Table.set_set]
    rfl
  · rfl

theorem admitFence_nextPlace (id : Half) (i : Fin 32) (s : State) :
    (admitFence id i s).nextPlace = s.nextPlace + 1 := by
  unfold admitFence
  dsimp only
  split
  · exact (makeReady_touches _ _ _ _ _).nextPlace (by simp)
  · rfl

theorem admits_fence (tagLaw : TagLaw s) {id : Half} {i : Fin 32} (ok : checkTag id s.tags = .ok i) :
    Admits (.tag i) s (admitFence id i s) where
  newTag j e := by
    cases e
    rw [admitFence_tags]
    split <;> rw [Table.get_set_self] <;> rfl
  oldTag j ne used := by
    have ne : i ≠ j := fun e => ne (congrArg Entry.tag e.symm)
    have same : (admitFence id i s).tags.get j = s.tags.get j := by
      rw [admitFence_tags]
      split <;> exact Table.get_set_of_ne _ _ ne
    rw [same] at used ⊢
    exact ⟨used, rfl⟩
  newPost _ _ e := nomatch e
  oldPost l y _ held := by
    rw [admitFence_pool] at held
    split at held
    · exact ⟨y, held, rfl⟩
    · obtain ⟨x, hx, rfl⟩ := Option.map_eq_some_iff.mp held
      exact ⟨x, hx, rfl⟩
  lists p := .inl (by rw [(admitFence_touches id i s).lists (by simp)])
  next := admitFence_nextPlace id i s
  fresh p mem := by
    have := (tagLaw.queued_iff i).mpr ⟨p, mem⟩
    rw [(of_checkTag ok).1] at this
    cases this

/-! ### Every other turn keeps the places -/

theorem keepsPlaces_alike (h : Alike s t) : KeepsPlaces s t where
  lists p := by rw [h.lists]
  tags i used := ⟨(h.tags i).state ▸ used, (h.tags i).place⟩
  pool k y held := by
    have same := h.pool k
    rw [held] at same
    obtain ⟨x, hx, e⟩ := Option.map_eq_some_iff.mp same.symm
    exact ⟨x, hx, congrArg Prod.snd e⟩
  next := h.place

theorem removeEntry_sublist (e : Entry) (p : Fin 4) (s : State) :
    ((removeEntry e s).lists.get p).Sublist (s.lists.get p) := by
  unfold removeEntry
  rw [State.setLists_lists, Table.get_map]
  exact List.filter_sublist

/-- One tag is written with its place, or freed; the pool is kept and the lists gain nothing. -/
theorem keepsPlaces_setTag {i : Fin 32} {x : Tag} (tags : t.tags = s.tags.set i x)
    (self : x.state ≠ .free → (s.tags.get i).state ≠ .free ∧ x.place = (s.tags.get i).place)
    (lists : ∀ p, (t.lists.get p).Sublist (s.lists.get p))
    (pool : ∀ k y, t.pool.get k = some y → ∃ x, s.pool.get k = some x ∧ x.place = y.place)
    (next : s.nextPlace ≤ t.nextPlace) : KeepsPlaces s t where
  lists := lists
  tags j used := by
    rw [tags] at used ⊢
    by_cases e : i = j
    · subst e
      rw [Table.get_set_self] at used ⊢
      exact self used
    · rw [Table.get_set_of_ne _ _ e] at used ⊢
      exact ⟨used, rfl⟩
  pool := pool
  next := next

theorem pool_refl (h : t.pool = s.pool) (k : Fin 32) (y : Posted) (held : t.pool.get k = some y) :
    ∃ x, s.pool.get k = some x ∧ x.place = y.place := ⟨y, h ▸ held, rfl⟩

theorem keepsPlaces_drop (i : Fin 32) (l : List (Fin 32)) (s : State) :
    KeepsPlaces s (freeEntry i (s.setReady l)) :=
  keepsPlaces_setTag (x := Tag.zero) rfl (fun h => absurd rfl h) (fun _ => .refl _) (pool_refl rfl) (Nat.le_refl _)

theorem countEnd_tag (b : Bool) (i j : Fin 32) (s : State) :
    ((countEnd b i s).tags.get j).place = (s.tags.get j).place
      ∧ (((countEnd b i s).tags.get j).state ≠ .free → (s.tags.get j).state ≠ .free) := by
  unfold countEnd
  dsimp only
  split
  · next waiting =>
    have waiting := beq_iff_eq.mp waiting
    by_cases e : i = j
    · subst e
      refine ⟨?_, fun _ => by simp [waiting]⟩
      split
      · rw [makeReady_tags, Table.get_modify_self, State.setTags_tags, Table.get_set_self]
      · rw [State.setTags_tags, Table.get_set_self]
    · have same : ∀ x : Tag, ((s.setTags (s.tags.set i x)).tags.get j) = s.tags.get j := fun x => by
        rw [State.setTags_tags, Table.get_set_of_ne _ _ e]
      split
      · rw [makeReady_tags, Table.get_modify_of_ne _ _ e, same]
        exact ⟨rfl, id⟩
      · rw [same]
        exact ⟨rfl, id⟩
  · exact ⟨rfl, id⟩

theorem foldOver_countEnd_tag (l : List (Fin 32)) (b : Bool) (j : Fin 32) (s : State) :
    ((foldOver l (countEnd b) s).tags.get j).place = (s.tags.get j).place
      ∧ (((foldOver l (countEnd b) s).tags.get j).state ≠ .free → (s.tags.get j).state ≠ .free) := by
  induction l generalizing s with
  | nil => exact ⟨rfl, id⟩
  | cons i l ih =>
    obtain ⟨place, used⟩ := ih (countEnd b i s)
    obtain ⟨place', used'⟩ := countEnd_tag b i j s
    exact ⟨place.trans place', fun h => used' (used h)⟩

theorem keepsPlaces_endPost (p : Fin 4) (k : Fin 32) (x : Posted) (b : Bool) (s : State) :
    KeepsPlaces s (endPost k x b (closeTxn p none s)) where
  lists q := by rw [endPost_lists]; exact .refl _
  tags i used := by
    obtain ⟨place, used'⟩ := foldOver_countEnd_tag x.covering b i ((closeTxn p none s).setSlot k none)
    exact ⟨used' used, place⟩
  pool l y held := by
    rw [endPost_pool, Table.get_set] at held
    split at held
    · cases held
    · exact ⟨y, held, rfl⟩
  next := by rw [endPost_nextPlace]; exact Nat.le_refl _

theorem linkDown_used (x : Tag) (h : x.linkDown.state ≠ .free) :
    x.state ≠ .free ∧ x.linkDown.place = x.place := by
  unfold Tag.linkDown at h ⊢
  cases e : x.state
  case ready =>
    simp only [e] at h ⊢
    split at h
    · next pending => simp [pending]
    · exact absurd rfl h
  case active => exact ⟨by simp, rfl⟩
  case discarding => exact ⟨by simp, rfl⟩
  all_goals
    simp only [e] at h
    exact absurd rfl h

theorem keepsPlaces_linkDown (s : State) : KeepsPlaces s (linkDownRequests s) where
  lists p := by rw [linkDownRequests_lists]; exact List.filter_sublist
  tags i used := by
    have tag : (linkDownRequests s).tags.get i = (s.tags.get i).linkDown := Table.get_map _ _ _
    rw [tag] at used ⊢
    exact linkDown_used _ used
  pool k y held := by
    rw [linkDownRequests_pool] at held
    obtain ⟨x, hx, rfl⟩ := Option.map_eq_some_iff.mp held
    exact ⟨x, hx, rfl⟩
  next := Nat.le_refl _

theorem flushedTag_place (x : Tag) : (flushedTag x).place = x.place := by
  unfold flushedTag
  split <;> rfl

theorem keepsPlaces_flush (s : State) : KeepsPlaces s (flushRequests s) := by
  obtain ⟨tags, -, lists, pool⟩ := flushRequests_spec s
  refine ⟨fun p => by rw [lists]; exact List.nil_sublist _, fun i used => ?_, fun k y held => ?_,
    Nat.le_of_eq ((flushRequests_touches s).nextPlace (by simp)).symm⟩
  · rw [tags, flushedTag_state] at used
    refine ⟨fun free => used ?_, by rw [tags, flushedTag_place]⟩
    simp [Tag.isOpen, free]
  · rw [pool] at held
    obtain ⟨x, hx, rfl⟩ := Option.map_eq_some_iff.mp held
    unfold flushSlot at hx
    split at hx
    · cases hx
    · obtain ⟨z, hz, rfl⟩ := Option.map_eq_some_iff.mp hx
      exact ⟨z, hz, rfl⟩

theorem reset_tags (c : ResetCause) (s : State) (i : Fin 32) : (resetBlocks c s).tags.get i = Tag.zero :=
  Table.get_fill _ _

theorem orderLaw_reset (c : ResetCause) (s : State) : OrderLaw (resetBlocks c s) := by
  have free : ∀ i, ((resetBlocks c s).tags.get i).state = .free := fun i => congrArg Tag.state (reset_tags c s i)
  have empty : ∀ k, (resetBlocks c s).pool.get k = none := fun k => Table.get_fill _ _
  have none_ : ∀ p, (resetBlocks c s).lists.get p = [] := fun p => Table.get_fill _ _
  exact ⟨fun p => by rw [none_]; exact .nil, fun i h => absurd (free i) h,
    fun k x h => (by rw [empty] at h; cases h), fun i _ h => absurd (free i) h,
    fun k _ x _ h => (by rw [empty] at h; cases h), fun i _ _ h => absurd (free i) h⟩

/-- What a turn does to the places: it keeps them, lets an entry return to its list, or admits one. -/
inductive PlaceTurn (s : State) : State → Prop where
  | keeps {t : State} (h : KeepsPlaces s t) : PlaceTurn s t
  | requeue (p : Fin 4) (i : Fin 32) (h : (s.tags.get i).state = .active) :
      PlaceTurn s (returnEntry p (.tag i) (enter i .queued s))
  | requeuePost (p : Fin 4) (k : Fin 32) (x : Posted) (h : Posting s p k x) :
      PlaceTurn s (returnEntry p (.post k) (closeTxn p none s))
  | admitTagged (k : RequestKind) (id : Half) (body : List Byte) (h : Hit) (i : Fin 32)
      (ok : checkTag id s.tags = .ok i) : PlaceTurn s (admitTagged k id body h i s)
  | admitPost (body : List Byte) (h : Hit) (k : Fin 32) (ok : freeSlot s.pool = some k) :
      PlaceTurn s (admitPost body h k s)
  | admitFence (id : Half) (i : Fin 32) (ok : checkTag id s.tags = .ok i) : PlaceTurn s (admitFence id i s)
  | reset (c : ResetCause) : PlaceTurn s (resetBlocks c s)

theorem placeTurn (h : Turn s t) (tagLaw : TagLaw s) : PlaceTurn s t := by
  cases h with
  | alike h => exact .keeps (keepsPlaces_alike h)
  | answer i h =>
    exact .keeps (keepsPlaces_setTag (x := { s.tags.get i with state := .ready }) rfl
      (fun _ => ⟨by simp [h], rfl⟩) (fun _ => .refl _) (pool_refl rfl) (Nat.le_refl _))
  | unqueue i h =>
    have queued := queued_of_waits tagLaw h
    exact .keeps (keepsPlaces_setTag (x := { s.tags.get i with state := .ready }) rfl
      (fun _ => ⟨by simp [queued], rfl⟩) (fun p => removeEntry_sublist _ p s) (pool_refl rfl) (Nat.le_refl _))
  | unbar i h =>
    refine .keeps (keepsPlaces_setTag (x := { s.tags.get i with state := .ready }) rfl
      (fun _ => ⟨by simp [h], rfl⟩) (fun _ => .refl _) (fun k y held => ?_) (Nat.le_refl _))
    have pool : (toReady i (uncover i s)).pool.get k = (s.pool.get k).map _ := Table.get_map _ _ _
    rw [pool] at held
    obtain ⟨x, hx, rfl⟩ := Option.map_eq_some_iff.mp held
    exact ⟨x, hx, rfl⟩
  | drop i _ => exact .keeps (keepsPlaces_drop i s.ready s)
  | release i l _ => exact .keeps (keepsPlaces_drop i l s)
  | discard i l h =>
    have ready := (tagLaw.ready_iff i).mp (by simp [h])
    exact .keeps (keepsPlaces_setTag (x := { s.tags.get i with state := .discarding }) rfl
      (fun _ => ⟨by simp [ready], rfl⟩) (fun _ => .refl _) (pool_refl rfl) (Nat.le_refl _))
  | start i h =>
    have queued := queued_of_waits tagLaw h
    exact .keeps (keepsPlaces_setTag (x := { s.tags.get i with state := .active }) rfl
      (fun _ => ⟨by simp [queued], rfl⟩) (fun p => removeEntry_sublist _ p s) (pool_refl rfl) (Nat.le_refl _))
  | requeue p i h => exact .requeue p i h
  | startPost p k x q _ _ _ _ =>
    exact .keeps ⟨fun p => removeEntry_sublist _ p s, fun _ used => ⟨used, rfl⟩, pool_refl rfl, Nat.le_refl _⟩
  | requeuePost p k x h => exact .requeuePost p k x h
  | endPost p k x b _ => exact .keeps (keepsPlaces_endPost p k x b s)
  | lostPost p k _ _ =>
    exact .keeps ⟨fun _ => .refl _, fun _ used => ⟨used, rfl⟩, pool_refl rfl, Nat.le_refl _⟩
  | admitTagged k id body h i ok => exact .admitTagged k id body h i ok
  | admitPost body h k ok => exact .admitPost body h k ok
  | admitFence id i ok => exact .admitFence id i ok
  | down => exact .keeps (keepsPlaces_linkDown s)
  | flush => exact .keeps (keepsPlaces_flush s)
  | reset c => exact .reset c

/-- The three laws of the requests that hold together. -/
structure QueueLaws (s : State) : Prop where
  tags : TagLaw s
  posts : PostLaw s
  order : OrderLaw s

theorem queueLaws_turn (h : Turn s t) (law : QueueLaws s) : QueueLaws t := by
  have tags := tagLaw_turn h law.tags
  have posts := postLaw_turn h law.posts
  refine ⟨tags, posts, ?_⟩
  cases placeTurn h law.tags with
  | keeps k => exact orderLaw_of_keepsPlaces law.order tags posts k
  | requeue p i active => exact orderLaw_requeue law.order law.tags law.posts p active
  | requeuePost p k x post => exact orderLaw_requeuePost law.order law.tags law.posts post
  | admitTagged k id body hit i ok =>
    exact orderLaw_admits (admits_tagged law.tags k body hit ok) law.order tags posts
  | admitPost body hit k ok => exact orderLaw_admits (admits_post law.posts body hit ok) law.order tags posts
  | admitFence id i ok => exact orderLaw_admits (admits_fence law.tags ok) law.order tags posts
  | reset c => exact orderLaw_reset c s

end Sys2Proof.Proofs.PostedPool

/-! # The law of the FENCE counts (02 R31, R32) -/

namespace Sys2Proof.Proofs.FenceCounts

-- One theorem after another: the proofs of this part at once ask for more threads than the check allows.
set_option Elab.async false

open Sys2Proof.Machine Sys2Proof.Safety Sys2Proof.Proofs.Steps Sys2Proof.Proofs.RequestTurns
  Sys2Proof.Proofs.TagTable Sys2Proof.Proofs.PostedPool

variable {s t : State}

/-! ## Covering sets -/

/-- The covering set of a posted slot, empty when the slot is free. -/
def coveringOf (r : Option Posted) : List (Fin 32) := (r.map Posted.covering).getD []

/-- The covering set of slot `k`. -/
def covers (s : State) (k : Fin 32) : List (Fin 32) := coveringOf (s.pool.get k)

theorem covers_held {k : Fin 32} {x : Posted} (h : s.pool.get k = some x) : covers s k = x.covering := by
  simp [covers, coveringOf, h]

theorem mem_covers {k i : Fin 32} : i ∈ covers s k ↔ ∃ x, s.pool.get k = some x ∧ i ∈ x.covering := by
  unfold covers coveringOf
  cases s.pool.get k <;> simp

theorem countP_eq_sum {α : Type} (f : α → Bool) (l : List α) :
    l.countP f = (l.map fun a => if f a = true then 1 else 0).sum := by
  induction l with
  | nil => rfl
  | cons a l ih => rw [List.countP_cons, List.map_cons, List.sum_cons, ih, Nat.add_comm]

/-- How many slots a FENCE covers, slot by slot. -/
theorem coveredBy_eq (s : State) (i : Fin 32) :
    coveredBy s i = ((Table.indices 32).map fun k => if i ∈ covers s k then 1 else 0).sum := by
  unfold coveredBy
  rw [countP_eq_sum, Table.rows_eq_map_get, List.map_map]
  refine congrArg List.sum (List.map_congr_left fun k _ => ?_)
  refine if_congr ?_ rfl rfl
  unfold covers coveringOf
  cases s.pool.get k <;> simp

theorem coveredBy_congr {i : Fin 32} (h : ∀ k, i ∈ covers t k ↔ i ∈ covers s k) :
    coveredBy t i = coveredBy s i := by
  rw [coveredBy_eq, coveredBy_eq]
  exact congrArg List.sum (List.map_congr_left fun k _ => if_congr (h k) rfl rfl)

theorem coveredBy_zero {i : Fin 32} (h : coveredBy s i = 0) (k : Fin 32) : i ∉ covers s k := by
  rw [coveredBy_eq, List.sum_eq_zero_iff] at h
  intro mem
  have := h 1 (List.mem_map.mpr ⟨k, Table.mem_indices k, if_pos mem⟩)
  cases this

/-- One slot's covering set goes. -/
theorem coveredBy_free {k : Fin 32} (others : ∀ l, l ≠ k → covers t l = covers s l) (gone : covers t k = [])
    (i : Fin 32) : coveredBy t i + (if i ∈ covers s k then 1 else 0) = coveredBy s i := by
  rw [coveredBy_eq, coveredBy_eq]
  have := sum_change (f := fun l => if i ∈ covers s l then 1 else 0)
    (g := fun l => if i ∈ covers t l then 1 else 0) k fun l ne => by rw [others l ne]
  simpa [gone] using this

/-! ## The law, with ends that are still to be counted -/

/-- The law of the FENCEs while each FENCE of a list has an end of a POST still to count. -/
structure Owing (l : List (Fin 32)) (s : State) : Prop where
  waiting : ∀ k, ∀ i ∈ covers s k, (s.tags.get i).state = .waiting
  ordered : ∀ k, (covers s k).Pairwise fun i j => (s.tags.get i).place < (s.tags.get j).place
  outstanding : ∀ i, (s.tags.get i).state = .waiting →
    (s.tags.get i).outstanding = coveredBy s i + (if i ∈ l then 1 else 0) ∧ 0 < (s.tags.get i).outstanding
  failed : ∀ i, (s.tags.get i).state = .waiting →
    (s.tags.get i).failed + (s.tags.get i).outstanding ≤ (s.tags.get i).covered

theorem fenceLaw_iff (s : State) : FenceLaw s ↔ Owing [] s := by
  constructor
  · intro law
    refine ⟨fun k i mem => ?_, fun k => ?_, fun i w => by simpa using law.outstanding i w, law.failed⟩
    · obtain ⟨x, hx, mem⟩ := mem_covers.mp mem
      exact law.waiting k x hx i mem
    · cases hx : s.pool.get k with
      | none =>
        have : covers s k = [] := by simp [covers, coveringOf, hx]
        rw [this]
        exact .nil
      | some x =>
        rw [covers_held hx]
        exact law.ordered k x hx
  · intro law
    refine ⟨fun k x hx i mem => ?_, fun k x hx => ?_, fun i w => by simpa using law.outstanding i w, law.failed⟩
    · exact law.waiting k i (mem_covers.mpr ⟨x, hx, mem⟩)
    · rw [← covers_held hx]
      exact law.ordered k

/-- The same FENCEs wait, with the same counts, and cover the same slots. -/
structure SameFences (s t : State) : Prop where
  covers : ∀ k, covers t k = covers s k
  waiting : ∀ i, (t.tags.get i).state = .waiting ↔ (s.tags.get i).state = .waiting
  same : ∀ i, (s.tags.get i).state = .waiting →
    (t.tags.get i).place = (s.tags.get i).place ∧ (t.tags.get i).outstanding = (s.tags.get i).outstanding
      ∧ (t.tags.get i).failed = (s.tags.get i).failed ∧ (t.tags.get i).covered = (s.tags.get i).covered

theorem owing_of_same {l : List (Fin 32)} (law : Owing l s) (h : SameFences s t) : Owing l t where
  waiting k i mem := by
    rw [h.covers] at mem
    exact (h.waiting i).mpr (law.waiting k i mem)
  ordered k := by
    rw [h.covers]
    refine (law.ordered k).imp_of_mem fun ma mb lt => ?_
    rw [(h.same _ (law.waiting k _ ma)).1, (h.same _ (law.waiting k _ mb)).1]
    exact lt
  outstanding i w := by
    have w := (h.waiting i).mp w
    have cov : coveredBy t i = coveredBy s i := coveredBy_congr fun k => by rw [h.covers]
    rw [(h.same i w).2.1, cov]
    exact law.outstanding i w
  failed i w := by
    have w := (h.waiting i).mp w
    obtain ⟨-, outstanding, failed, covered⟩ := h.same i w
    rw [outstanding, failed, covered]
    exact law.failed i w

theorem fenceLaw_of_same (law : FenceLaw s) (h : SameFences s t) : FenceLaw t :=
  (fenceLaw_iff t).mpr (owing_of_same ((fenceLaw_iff s).mp law) h)

theorem coveringOf_posting {r q : Option Posted} (h : posting r = posting q) : coveringOf r = coveringOf q := by
  have := congrArg (fun x => (x.map Prod.fst).getD []) h
  simpa [posting, coveringOf, Function.comp_def] using this

theorem sameFences_alike (h : Alike s t) : SameFences s t where
  covers k := coveringOf_posting (h.pool k)
  waiting i := by rw [(h.tags i).state]
  same i _ := ⟨(h.tags i).place, (h.tags i).outstanding, (h.tags i).failed, (h.tags i).covered⟩

/-- One tag that is no FENCE in WAITING, before or after. -/
theorem sameFences_setTag {i : Fin 32} {x : Tag} (tags : t.tags = s.tags.set i x)
    (before : (s.tags.get i).state ≠ .waiting) (after : x.state ≠ .waiting)
    (covers : ∀ k, covers t k = covers s k) : SameFences s t where
  covers := covers
  waiting j := by
    rw [tags]
    by_cases e : i = j
    · subst e
      rw [Table.get_set_self]
      exact ⟨fun h => absurd h after, fun h => absurd h before⟩
    · rw [Table.get_set_of_ne _ _ e]
  same j w := by
    have ne : i ≠ j := fun e => before (e ▸ w)
    rw [tags, Table.get_set_of_ne _ _ ne]
    exact ⟨rfl, rfl, rfl, rfl⟩

/-- When no FENCE waits and no POST is covered, the law holds. -/
theorem fenceLaw_of_none (none_ : ∀ k, covers t k = []) (waiting : ∀ i, (t.tags.get i).state ≠ .waiting) :
    FenceLaw t := by
  rw [fenceLaw_iff]
  refine ⟨fun k i mem => ?_, fun k => ?_, fun i w => absurd w (waiting i), fun i w => absurd w (waiting i)⟩
  · rw [none_] at mem
    cases mem
  · rw [none_]
    exact .nil

/-! ## A FENCE leaves WAITING, or is admitted -/

theorem covers_uncover (i k : Fin 32) (s : State) :
    covers (uncover i s) k = (covers s k).filter fun u => u != i := by
  unfold covers coveringOf uncover
  rw [State.setPool_pool, Table.get_map]
  cases s.pool.get k <;> rfl

theorem fenceLaw_unbar {i : Fin 32} (law : FenceLaw s) : FenceLaw (toReady i (uncover i s)) := by
  have tag : ∀ j, j ≠ i → (toReady i (uncover i s)).tags.get j = s.tags.get j := fun j ne =>
    Table.get_modify_of_ne _ _ (Ne.symm ne)
  have self : ((toReady i (uncover i s)).tags.get i).state = .ready := by
    show ((s.tags.modify i _).get i).state = _
    rw [Table.get_modify_self]
  have cov : ∀ k, covers (toReady i (uncover i s)) k = (covers s k).filter fun u => u != i :=
    fun k => covers_uncover i k s
  rw [fenceLaw_iff] at law ⊢
  have other : ∀ j, ((toReady i (uncover i s)).tags.get j).state = .waiting → j ≠ i := fun j w e => by
    rw [e, self] at w
    cases w
  refine ⟨fun k j mem => ?_, fun k => ?_, fun j w => ?_, fun j w => ?_⟩
  · rw [cov, List.mem_filter] at mem
    rw [tag j (by simpa using mem.2)]
    exact law.waiting k j mem.1
  · rw [cov]
    refine ((law.ordered k).filter _).imp_of_mem fun {a b} ma mb lt => ?_
    rw [tag a (by simpa using (List.mem_filter.mp ma).2), tag b (by simpa using (List.mem_filter.mp mb).2)]
    exact lt
  · have ne := other j w
    rw [tag j ne] at w ⊢
    have : coveredBy (toReady i (uncover i s)) j = coveredBy s j :=
      coveredBy_congr fun k => by rw [cov, List.mem_filter]; simp [ne]
    rw [this]
    exact law.outstanding j w
  · have ne := other j w
    rw [tag j ne] at w ⊢
    exact law.failed j w

/-- Every place in use lies below the next one. -/
def PlacesBelow (s : State) : Prop := ∀ i, (s.tags.get i).state ≠ .free → (s.tags.get i).place < s.nextPlace

theorem heldSlots_eq (s : State) :
    heldSlots s.pool = ((Table.indices 32).map fun k => if (s.pool.get k).isSome = true then 1 else 0).sum := by
  unfold heldSlots
  rw [countP_eq_sum, Table.rows_eq_map_get, List.map_map]
  rfl

theorem covers_admitFence {id : Half} {i k : Fin 32} (held : heldSlots s.pool ≠ 0) :
    covers (admitFence id i s) k =
      if (s.pool.get k).isSome = true then covers s k ++ [i] else [] := by
  unfold covers
  rw [admitFence_pool, if_neg held]
  cases s.pool.get k <;> rfl

theorem fenceLaw_admitFence (law : FenceLaw s) (places : PlacesBelow s) {id : Half} {i : Fin 32}
    (ok : checkTag id s.tags = .ok i) : FenceLaw (admitFence id i s) := by
  obtain ⟨free, -⟩ := of_checkTag ok
  by_cases held : heldSlots s.pool = 0
  · refine fenceLaw_of_same law (sameFences_setTag (i := i) (x := { fenceTag id (heldSlots s.pool) s.nextPlace with
      state := .ready, status := .ok, busPending := false }) ?_ (by simp [free]) (by simp) fun k => ?_)
    · rw [admitFence_tags, if_pos held]
    · unfold covers
      rw [admitFence_pool, if_pos held]
  · rw [fenceLaw_iff] at law ⊢
    have tags : (admitFence id i s).tags = s.tags.set i (fenceTag id (heldSlots s.pool) s.nextPlace) := by
      rw [admitFence_tags, if_neg held]
    have self : (admitFence id i s).tags.get i = fenceTag id (heldSlots s.pool) s.nextPlace := by
      rw [tags, Table.get_set_self]
    have other : ∀ j, j ≠ i → (admitFence id i s).tags.get j = s.tags.get j := fun j ne => by
      rw [tags, Table.get_set_of_ne _ _ (Ne.symm ne)]
    have not_covering : ∀ k, i ∉ covers s k := fun k mem => by
      have := law.waiting k i mem
      rw [free] at this
      cases this
    have apart : ∀ k, ∀ j ∈ covers s k, j ≠ i := fun k j mem e => not_covering k (e ▸ mem)
    have cov := fun k => covers_admitFence (id := id) (i := i) (k := k) held
    have old : ∀ j, j ≠ i → coveredBy (admitFence id i s) j = coveredBy s j := fun j ne =>
      coveredBy_congr fun k => by
        rw [cov]
        split
        · simp [ne]
        · next none_ =>
          have : covers s k = [] := by
            cases h : s.pool.get k <;> simp [h, covers, coveringOf] at none_ ⊢
          simp [this]
    have new : coveredBy (admitFence id i s) i = heldSlots s.pool := by
      rw [coveredBy_eq, heldSlots_eq]
      refine congrArg List.sum (List.map_congr_left fun k _ => if_congr ?_ rfl rfl)
      rw [cov]
      split <;> simp [*]
    refine ⟨fun k j mem => ?_, fun k => ?_, fun j w => ?_, fun j w => ?_⟩
    · by_cases e : j = i
      · rw [e, self]; rfl
      · rw [cov] at mem
        split at mem
        · rw [other j e]
          exact law.waiting k j ((List.mem_append.mp mem).resolve_right (by simpa using e))
        · cases mem
    · rw [cov]
      split
      · refine List.pairwise_append.mpr ⟨(law.ordered k).imp_of_mem fun ma mb lt => ?_, List.pairwise_singleton _ _,
          fun a ma b mb => ?_⟩
        · rw [other _ (apart k _ ma), other _ (apart k _ mb)]
          exact lt
        · rw [List.mem_singleton.mp mb, self, other a (apart k a ma)]
          exact places a (by rw [law.waiting k a ma]; simp)
      · exact .nil
    · by_cases e : j = i
      · rw [e, self, new]
        exact ⟨by simp [fenceTag], Nat.pos_of_ne_zero held⟩
      · rw [other j e] at w ⊢
        rw [old j e]
        exact law.outstanding j w
    · by_cases e : j = i
      · rw [e, self]
        simp [fenceTag, Tag.zero]
      · rw [other j e] at w ⊢
        exact law.failed j w

/-! ## A POST ends (02 R32) -/

section

variable {i : Fin 32} {l : List (Fin 32)} {x : Tag} (law : Owing (i :: l) s) (tags : t.tags = s.tags.set i x)
  (cov : ∀ k, covers t k = covers s k)

include law tags cov

/-- The last covered POST has ended: the FENCE is READY. -/
theorem owing_last (state : x.state ≠ .waiting) (last : ∀ k, i ∉ covers s k) : Owing l t := by
  have other : ∀ j, j ≠ i → t.tags.get j = s.tags.get j := fun j ne => by
    rw [tags, Table.get_set_of_ne _ _ (Ne.symm ne)]
  have apart : ∀ k, ∀ j ∈ covers s k, j ≠ i := fun k j mem e => last k (e ▸ mem)
  have waits : ∀ j, (t.tags.get j).state = .waiting → j ≠ i := fun j w e => by
    rw [e, tags, Table.get_set_self] at w
    exact state w
  refine ⟨fun k j mem => ?_, fun k => ?_, fun j w => ?_, fun j w => ?_⟩
  · rw [cov] at mem
    rw [other j (apart k j mem)]
    exact law.waiting k j mem
  · rw [cov]
    refine (law.ordered k).imp_of_mem fun ma mb lt => ?_
    rw [other _ (apart k _ ma), other _ (apart k _ mb)]
    exact lt
  · have ne := waits j w
    have same : coveredBy t j = coveredBy s j := coveredBy_congr fun k => by rw [cov]
    rw [other j ne] at w ⊢
    simpa [ne, same] using law.outstanding j w
  · have ne := waits j w
    rw [other j ne] at w ⊢
    exact law.failed j w

/-- A FENCE that still waits has counted an end. -/
theorem owing_counted (fresh : i ∉ l) (waits : (s.tags.get i).state = .waiting) (state : x.state = .waiting)
    (place : x.place = (s.tags.get i).place) (outstanding : x.outstanding = (s.tags.get i).outstanding - 1)
    (failed : x.failed ≤ (s.tags.get i).failed + 1) (covered : x.covered = (s.tags.get i).covered)
    (more : x.outstanding ≠ 0) : Owing l t := by
  have self : t.tags.get i = x := by rw [tags, Table.get_set_self]
  have other : ∀ j, j ≠ i → t.tags.get j = s.tags.get j := fun j ne => by
    rw [tags, Table.get_set_of_ne _ _ (Ne.symm ne)]
  have places : ∀ j, (t.tags.get j).place = (s.tags.get j).place := fun j => by
    by_cases e : j = i
    · rw [e, self, place]
    · rw [other j e]
  have same : ∀ j, coveredBy t j = coveredBy s j := fun j => coveredBy_congr fun k => by rw [cov]
  refine ⟨fun k j mem => ?_, fun k => ?_, fun j w => ?_, fun j w => ?_⟩
  · rw [cov] at mem
    by_cases e : j = i
    · rw [e, self, state]
    · rw [other j e]
      exact law.waiting k j mem
  · rw [cov]
    simpa only [places] using law.ordered k
  · by_cases e : j = i
    · have old := law.outstanding i waits
      rw [if_pos List.mem_cons_self] at old
      rw [e, self, same, if_neg fresh]
      omega
    · rw [other j e] at w ⊢
      simpa [e, same] using law.outstanding j w
  · by_cases e : j = i
    · have old := law.failed i waits
      have out := (law.outstanding i waits).2
      rw [e, self]
      omega
    · rw [other j e] at w ⊢
      exact law.failed j w

end

theorem owing_countEnd {i : Fin 32} {l : List (Fin 32)} (fresh : i ∉ l) (law : Owing (i :: l) s) (b : Bool) :
    Owing l (countEnd b i s) := by
  have cov : ∀ k, covers (countEnd b i s) k = covers s k := fun k => by
    unfold covers
    rw [(countEnd_touches b i s).pool (by simp)]
  unfold countEnd at cov ⊢
  dsimp only at cov ⊢
  split at cov
  · next waiting =>
    rw [if_pos waiting]
    have waiting := beq_iff_eq.mp waiting
    obtain ⟨out, pos⟩ := law.outstanding i waiting
    rw [if_pos List.mem_cons_self] at out
    split at cov
    · next last =>
      rw [if_pos last]
      refine owing_last law (x := { s.tags.get i with
        outstanding := (s.tags.get i).outstanding - 1
        failed := if b then (s.tags.get i).failed + 1 else (s.tags.get i).failed
        state := .ready, status := .ok, busPending := false }) ?_ cov (by simp)
        (coveredBy_zero (by omega))
      rw [makeReady_tags, State.setTags_tags, Table.modify, Table.get_set_self, Table.set_set]
      rfl
    · next more =>
      rw [if_neg more]
      refine owing_counted law rfl cov fresh waiting waiting rfl rfl ?_ rfl more
      dsimp only
      split <;> omega
  · next idle =>
    rw [if_neg idle]
    refine ⟨law.waiting, law.ordered, fun j w => ?_, law.failed⟩
    have ne : j ≠ i := fun e => idle (by rw [← e]; exact beq_iff_eq.mpr w)
    simpa [ne] using law.outstanding j w

theorem owing_foldOver {l : List (Fin 32)} (nodup : l.Nodup) (law : Owing l s) (b : Bool) :
    Owing [] (foldOver l (countEnd b) s) := by
  induction l generalizing s with
  | nil => exact law
  | cons i l ih =>
    obtain ⟨fresh, nodup⟩ := List.nodup_cons.mp nodup
    exact ih nodup (owing_countEnd fresh law b)

theorem fenceLaw_endPost (law : FenceLaw s) {k : Fin 32} {x : Posted} (held : s.pool.get k = some x) (b : Bool) :
    FenceLaw (endPost k x b s) := by
  rw [fenceLaw_iff] at law ⊢
  have own : covers s k = x.covering := covers_held held
  have gone : covers (s.setSlot k none) k = [] := by
    unfold covers
    rw [State.setSlot_pool, Table.get_set_self]
    rfl
  have others : ∀ l, l ≠ k → covers (s.setSlot k none) l = covers s l := fun l ne => by
    unfold covers
    rw [State.setSlot_pool, Table.get_set_of_ne _ _ (Ne.symm ne)]
  have sub : ∀ l, ∀ i ∈ covers (s.setSlot k none) l, i ∈ covers s l := fun l i mem => by
    by_cases e : l = k
    · rw [e, gone] at mem
      cases mem
    · exact others l e ▸ mem
  refine owing_foldOver (s := s.setSlot k none) ?_ ⟨fun l i mem => law.waiting l i (sub l i mem), fun l => ?_, fun i w => ?_, law.failed⟩ b
  · rw [← own]
    exact (law.ordered k).imp fun lt e => by rw [e] at lt; exact absurd lt (Nat.lt_irrefl _)
  · by_cases e : l = k
    · rw [e, gone]
      exact .nil
    · rw [others l e]
      exact law.ordered l
  · have free := coveredBy_free others gone i
    obtain ⟨out, pos⟩ := law.outstanding i w
    rw [own] at free
    exact ⟨by rw [free]; simpa using out, pos⟩

/-! ## Every turn keeps the law -/

theorem placesBelow_of (places : PlacesBelow s)
    (tags : ∀ i, (t.tags.get i).state ≠ .free →
      (s.tags.get i).state ≠ .free ∧ (t.tags.get i).place = (s.tags.get i).place)
    (next : s.nextPlace ≤ t.nextPlace) : PlacesBelow t := fun i used => by
  obtain ⟨used', place⟩ := tags i used
  rw [place]
  exact Nat.lt_of_lt_of_le (places i used') next

theorem placesBelow_admits {new : Entry} (h : Admits new s t) (places : PlacesBelow s) : PlacesBelow t :=
  fun i used => by
    rw [h.next]
    by_cases e : Entry.tag i = new
    · rw [h.newTag i e]
      exact Nat.lt_succ_self _
    · obtain ⟨used', place⟩ := h.oldTag i e used
      rw [place]
      exact Nat.lt_succ_of_lt (places i used')

theorem placesBelow_turn (h : Turn s t) (tagLaw : TagLaw s) (places : PlacesBelow s) : PlacesBelow t := by
  cases placeTurn h tagLaw with
  | keeps k => exact placesBelow_of places k.tags k.next
  | requeue p i active =>
    refine placesBelow_of places (fun j used => ?_) (Nat.le_refl _)
    have tag : (returnEntry p (.tag i) (enter i .queued s)).tags.get j =
        if i = j then { s.tags.get j with state := .queued } else s.tags.get j := Table.get_modify _ _ _ _
    rw [tag] at used ⊢
    split
    · next e => subst e; exact ⟨by simp [active], rfl⟩
    · next e => rw [if_neg e] at used; exact ⟨used, rfl⟩
  | requeuePost p k x _ => exact places
  | admitTagged k id body hit i ok => exact placesBelow_admits (admits_tagged tagLaw k body hit ok) places
  | admitPost body hit k ok => exact placesBelow_of places (fun _ used => ⟨used, rfl⟩) (Nat.le_succ _)
  | admitFence id i ok => exact placesBelow_admits (admits_fence tagLaw ok) places
  | reset c => exact fun i used => absurd (congrArg Tag.state (reset_tags c s i)) used

theorem covers_admitPost {body : List Byte} {h : Hit} {k : Fin 32} (ok : freeSlot s.pool = some k)
    (l : Fin 32) : covers (admitPost body h k s) l = covers s l := by
  have pool : (admitPost body h k s).pool.get l =
      if k = l then some (postedRecord body h s.nextPlace) else s.pool.get l := Table.get_set _ _ _ _
  unfold covers
  rw [pool]
  split
  · next e => rw [← e, of_freeSlot ok]; rfl
  · rfl

theorem fenceLaw_linkDown (s : State) : FenceLaw (linkDownRequests s) := by
  refine fenceLaw_of_none (fun k => ?_) fun i => ?_
  · unfold covers
    rw [linkDownRequests_pool]
    cases s.pool.get k <;> rfl
  · have tag : (linkDownRequests s).tags.get i = (s.tags.get i).linkDown := Table.get_map _ _ _
    rw [tag]
    rcases linkDown_dead (s.tags.get i) with e | e <;> simp [e]

theorem fenceLaw_flush (law : FenceLaw s) : FenceLaw (flushRequests s) := by
  obtain ⟨tags, -, -, pool⟩ := flushRequests_spec s
  refine fenceLaw_of_none (fun k => List.eq_nil_iff_forall_not_mem.mpr fun i mem => ?_) fun i => ?_
  · obtain ⟨y, hy, mem⟩ := mem_covers.mp mem
    rw [pool] at hy
    obtain ⟨x, hx, rfl⟩ := Option.map_eq_some_iff.mp hy
    obtain ⟨mem, out⟩ := List.mem_filter.mp mem
    unfold flushSlot at hx
    split at hx
    · cases hx
    · obtain ⟨z, hz, rfl⟩ := Option.map_eq_some_iff.mp hx
      have waiting := law.waiting k z hz i mem
      have isOpen : i ∈ openTags s.tags := (mem_openTags _ _).mpr (by simp [Tag.isOpen, waiting])
      simp [waiting, isOpen] at out
  · rw [tags, flushedTag_state]
    cases e : (s.tags.get i).state <;> simp [Tag.isOpen, e]

theorem fenceLaw_reset (c : ResetCause) (s : State) : FenceLaw (resetBlocks c s) := by
  refine fenceLaw_of_none (fun k => ?_) fun i => ?_
  · have pool : (resetBlocks c s).pool.get k = none := Table.get_fill _ _
    simp [covers, coveringOf, pool]
  · rw [reset_tags]
    simp [Tag.zero]

theorem fenceLaw_turn (h : Turn s t) (tagLaw : TagLaw s) (places : PlacesBelow s) (law : FenceLaw s) :
    FenceLaw t := by
  cases h with
  | alike h => exact fenceLaw_of_same law (sameFences_alike h)
  | answer i h =>
    exact fenceLaw_of_same law (sameFences_setTag (i := i) (x := { s.tags.get i with state := .ready }) rfl
      (by simp [h]) (by simp) fun _ => rfl)
  | unqueue i h =>
    have queued := queued_of_waits tagLaw h
    exact fenceLaw_of_same law (sameFences_setTag (i := i) (x := { s.tags.get i with state := .ready }) rfl
      (by simp [queued]) (by simp) fun _ => rfl)
  | unbar i h => exact fenceLaw_unbar law
  | drop i h =>
    exact fenceLaw_of_same law (sameFences_setTag (i := i) (x := Tag.zero) rfl (by simp [h]) (by simp [Tag.zero])
      fun _ => rfl)
  | release i l h =>
    have ready := (tagLaw.ready_iff i).mp (by simp [h])
    exact fenceLaw_of_same law (sameFences_setTag (i := i) (x := Tag.zero) rfl (by simp [ready])
      (by simp [Tag.zero]) fun _ => rfl)
  | discard i l h =>
    have ready := (tagLaw.ready_iff i).mp (by simp [h])
    exact fenceLaw_of_same law (sameFences_setTag (i := i) (x := { s.tags.get i with state := .discarding }) rfl
      (by simp [ready]) (by simp) fun _ => rfl)
  | start i h =>
    have queued := queued_of_waits tagLaw h
    exact fenceLaw_of_same law (sameFences_setTag (i := i) (x := { s.tags.get i with state := .active }) rfl
      (by simp [queued]) (by simp) fun _ => rfl)
  | requeue p i h =>
    exact fenceLaw_of_same law (sameFences_setTag (i := i) (x := { s.tags.get i with state := .queued }) rfl
      (by simp [h]) (by simp) fun _ => rfl)
  | startPost p k x q _ _ _ _ => exact fenceLaw_of_same law ⟨fun _ => rfl, fun _ => .rfl, fun _ _ => ⟨rfl, rfl, rfl, rfl⟩⟩
  | requeuePost p k x h => exact fenceLaw_of_same law ⟨fun _ => rfl, fun _ => .rfl, fun _ _ => ⟨rfl, rfl, rfl, rfl⟩⟩
  | endPost p k x b h =>
    have closed : FenceLaw (closeTxn p none s) :=
      fenceLaw_of_same law ⟨fun _ => rfl, fun _ => .rfl, fun _ _ => ⟨rfl, rfl, rfl, rfl⟩⟩
    exact fenceLaw_endPost closed h.held b
  | lostPost p k _ _ => exact fenceLaw_of_same law ⟨fun _ => rfl, fun _ => .rfl, fun _ _ => ⟨rfl, rfl, rfl, rfl⟩⟩
  | admitTagged k id body h i ok =>
    exact fenceLaw_of_same law (sameFences_setTag (i := i) (x := admittedTag k id body h
      (s.ports.get h.port).settings.completionLimit s.nextPlace) rfl (by simp [(of_checkTag ok).1])
      (by simp [admittedTag]) fun _ => rfl)
  | admitPost body h k ok =>
    exact fenceLaw_of_same law ⟨covers_admitPost ok, fun _ => .rfl, fun _ _ => ⟨rfl, rfl, rfl, rfl⟩⟩
  | admitFence id i ok => exact fenceLaw_admitFence law places ok
  | down => exact fenceLaw_linkDown s
  | flush => exact fenceLaw_flush law
  | reset c => exact fenceLaw_reset c s

/-- The law of the FENCEs with the two that it stands on. -/
structure BarrierLaws (s : State) : Prop where
  tags : TagLaw s
  places : PlacesBelow s
  fences : FenceLaw s

theorem barrierLaws_turn (h : Turn s t) (law : BarrierLaws s) : BarrierLaws t :=
  ⟨tagLaw_turn h law.tags, placesBelow_turn h law.tags law.places,
   fenceLaw_turn h law.tags law.places law.fences⟩

/-- Settles O57: every turn keeps the law of the pool; with the law of the tags that of arrival order, and
with the places below the next one that of the FENCEs. -/
theorem postLawIsKeptByEveryStep : Obligations.PostLawIsKeptByEveryStep := by
  unfold Obligations.PostLawIsKeptByEveryStep
  refine fun s t h => ⟨fun law => ?_, fun tags posts order => ?_, fun tags order fences => ?_⟩
  · exact kept_by_turns (fun _ _ turn => postLaw_turn turn) h law
  · exact (kept_by_turns (fun _ _ turn => queueLaws_turn turn) h (QueueLaws.mk tags posts order)).order
  · exact (kept_by_turns (fun _ _ turn => barrierLaws_turn turn) h
      (BarrierLaws.mk tags order.tag_lt fences)).fences

end Sys2Proof.Proofs.FenceCounts

/-! # The chunks and the interrupt operations that a port holds

Most moves leave the offered chunks, the queued operations and the chunk or operation in progress of every
port alone; the laws of the job slots and of the sources then have nothing to prove. -/

namespace Sys2Proof.Proofs.Chores

-- One theorem after another: the proofs of this part at once ask for more threads than the check allows.
set_option Elab.async false

open Sys2Proof.Machine Sys2Proof.Safety Sys2Proof.Proofs.Steps Sys2Proof.Proofs.Work
  Sys2Proof.Proofs.RequestTurns Sys2Proof.Proofs.PostedPool

variable {s t u : State}

/-- The chunk transaction of slot `j` that an initiator carries. -/
def carriedChunk (j : Fin 4) : Initiator → Option Offer
  | .chunk k o => if k = j then some o else none
  | _ => none

/-- The operation of source `i` that an initiator carries. -/
def carriedOperation (i : Fin 32) : Initiator → Option IrqOp
  | .operation op => if op.source = i then some op else none
  | _ => none

theorem runningChunk_eq (j : Fin 4) (x : Port) :
    runningChunk j x = (x.txn.map Txn.initiator).bind (carriedChunk j) := by
  unfold runningChunk
  cases h : x.txn with
  | none => rfl
  | some q => cases e : q.initiator <;> simp [carriedChunk, e]

theorem runningOperation_eq (i : Fin 32) (x : Port) :
    runningOperation i x = (x.txn.map Txn.initiator).bind (carriedOperation i) := by
  unfold runningOperation
  cases h : x.txn with
  | none => rfl
  | some q => cases e : q.initiator <;> simp [carriedOperation, e]

/-- An initiator that is neither a chunk nor an operation. -/
def IsPlain (i : Initiator) : Prop := (∀ j, carriedChunk j i = none) ∧ ∀ k, carriedOperation k i = none

/-- Two ports with the same chunks and operations. -/
structure SameChores (x y : Port) : Prop where
  offers : y.offers = x.offers
  opQueue : y.opQueue = x.opQueue
  chunk : ∀ j, runningChunk j y = runningChunk j x
  operation : ∀ i, runningOperation i y = runningOperation i x

theorem SameChores.refl (x : Port) : SameChores x x := ⟨rfl, rfl, fun _ => rfl, fun _ => rfl⟩

theorem SameChores.trans {x y z : Port} (h : SameChores x y) (k : SameChores y z) : SameChores x z :=
  ⟨k.offers.trans h.offers, k.opQueue.trans h.opQueue, fun j => (k.chunk j).trans (h.chunk j),
   fun i => (k.operation i).trans (h.operation i)⟩

/-- Of the transaction its initiator alone counts. -/
theorem sameChores_of_initiator {x y : Port} (offers : y.offers = x.offers) (opQueue : y.opQueue = x.opQueue)
    (txn : y.txn.map Txn.initiator = x.txn.map Txn.initiator) : SameChores x y :=
  ⟨offers, opQueue, fun j => by rw [runningChunk_eq, runningChunk_eq, txn],
   fun i => by rw [runningOperation_eq, runningOperation_eq, txn]⟩

/-- A transaction without a chunk or an operation, before and after. -/
theorem sameChores_of_plain {x y : Port} (offers : y.offers = x.offers) (opQueue : y.opQueue = x.opQueue)
    (before : ∀ q, x.txn = some q → IsPlain q.initiator) (after : ∀ q, y.txn = some q → IsPlain q.initiator) :
    SameChores x y := by
  have none_ : ∀ z : Port, (∀ q, z.txn = some q → IsPlain q.initiator) →
      (∀ j, runningChunk j z = none) ∧ ∀ i, runningOperation i z = none := fun z h => by
    constructor
    · intro j
      rw [runningChunk_eq]
      cases e : z.txn with
      | none => rfl
      | some q => exact (h q e).1 j
    · intro i
      rw [runningOperation_eq]
      cases e : z.txn with
      | none => rfl
      | some q => exact (h q e).2 i
  exact ⟨offers, opQueue, fun j => by rw [(none_ x before).1, (none_ y after).1],
    fun i => by rw [(none_ x before).2, (none_ y after).2]⟩

theorem SameWork.chores {x y : Port} (h : SameWork x y) : SameChores x y :=
  sameChores_of_initiator h.offers h.opQueue (by rw [h.txn])

/-- Every port holds the same chunks and operations. -/
def KeepsChores (s t : State) : Prop := ∀ p, SameChores (s.ports.get p) (t.ports.get p)

theorem KeepsChores.refl (s : State) : KeepsChores s s := fun _ => .refl _

theorem KeepsChores.trans (h : KeepsChores s t) (k : KeepsChores t u) : KeepsChores s u :=
  fun p => (h p).trans (k p)

theorem keepsChores_of_touches {bs : List Block} (h : Touches bs s t) (np : Block.ports ∉ bs := by simp) :
    KeepsChores s t := fun p => by rw [h.ports np]; exact .refl _

theorem keepsChores_modPort {p : Fin 4} {f : Port → Port} (h : SameChores (s.ports.get p) (f (s.ports.get p))) :
    KeepsChores s (s.modPort p f) := fun q => by
  rw [State.modPort_ports, Table.get_modify]
  split
  · next e => subst e; exact h
  · exact .refl _

theorem noticed_chores (x y : Port) : SameChores y (noticed x y) := SameWork.chores (noticed_sameWork (.refl y))

theorem keepsChores_changePort {p : Fin 4} {f : Port → Port}
    (h : SameChores (s.ports.get p) (f (s.ports.get p))) : KeepsChores s (changePort p f s) :=
  keepsChores_modPort (by rw [change_eq]; exact h.trans (noticed_chores _ _))

/-- A transaction that is no chunk and no operation ends. -/
theorem keepsChores_closeTxn {p : Fin 4} {x : Txn} (txn : (s.ports.get p).txn = some x)
    (plain : IsPlain x.initiator) (l : Option Lock) : KeepsChores s (closeTxn p l s) :=
  keepsChores_changePort (sameChores_of_plain rfl rfl
    (fun q e => by rw [txn] at e; cases e; exact plain) fun q e => nomatch e)

/-- A transaction that is no chunk and no operation starts on an idle port. -/
theorem keepsChores_startTxn {p : Fin 4} {i : Initiator} (idle : (s.ports.get p).txn = none)
    (plain : IsPlain i) (w : Bool) (a : Word) (n : Nat) (d : List Byte) (l : Bool) :
    KeepsChores s (startTxn p i w a n d l s) :=
  keepsChores_changePort (sameChores_of_plain rfl rfl (fun q e => by rw [idle] at e; cases e)
    fun q e => by cases e; exact plain)

theorem isPlain_request (i : Fin 32) : IsPlain (.request i) := ⟨fun _ => rfl, fun _ => rfl⟩
theorem isPlain_modifyRead (i : Fin 32) : IsPlain (.modifyRead i) := ⟨fun _ => rfl, fun _ => rfl⟩
theorem isPlain_modifyWrite (i : Fin 32) : IsPlain (.modifyWrite i) := ⟨fun _ => rfl, fun _ => rfl⟩
theorem isPlain_post (k : Fin 32) : IsPlain (.post k) := ⟨fun _ => rfl, fun _ => rfl⟩
theorem isPlain_fill : IsPlain .fill := ⟨fun _ => rfl, fun _ => rfl⟩

theorem keepsChores_fillTest (a : Access) (s : State) : KeepsChores s (fillTest a s) := by
  unfold fillTest
  split
  · refine keepsChores_modPort (SameWork.chores ?_)
    unfold Port.requestFill
    split
    · exact .refl _
    · split <;> exact ⟨rfl, rfl, rfl, rfl⟩
  · exact .refl s

theorem keepsChores_writeTest (p : Fin 4) (x : Txn) (s : State) : KeepsChores s (writeTest p x s) := by
  unfold writeTest
  split
  · refine keepsChores_modPort (SameWork.chores ?_)
    unfold Port.writeEnded
    split <;> exact ⟨rfl, rfl, rfl, rfl⟩
  · exact .refl s

/-! ## A transaction starts or ends -/

theorem changePort_offers (p q : Fin 4) {f : Port → Port} (h : (f (s.ports.get p)).offers = (s.ports.get p).offers) :
    ((changePort p f s).ports.get q).offers = (s.ports.get q).offers := by
  unfold changePort
  rw [State.modPort_ports, Table.get_modify]
  split
  · next e =>
    subst e
    rw [change_eq, (noticed_chores _ _).offers, h]
  · rfl

theorem changePort_opQueue (p q : Fin 4) {f : Port → Port}
    (h : (f (s.ports.get p)).opQueue = (s.ports.get p).opQueue) :
    ((changePort p f s).ports.get q).opQueue = (s.ports.get q).opQueue := by
  unfold changePort
  rw [State.modPort_ports, Table.get_modify]
  split
  · next e =>
    subst e
    rw [change_eq, (noticed_chores _ _).opQueue, h]
  · rfl

theorem closeTxn_offers (p q : Fin 4) (l : Option Lock) (s : State) :
    ((closeTxn p l s).ports.get q).offers = (s.ports.get q).offers := changePort_offers p q rfl

theorem closeTxn_opQueue (p q : Fin 4) (l : Option Lock) (s : State) :
    ((closeTxn p l s).ports.get q).opQueue = (s.ports.get q).opQueue := changePort_opQueue p q rfl

theorem startTxn_offers (p q : Fin 4) (i : Initiator) (w : Bool) (a : Word) (n : Nat) (d : List Byte) (l : Bool)
    (s : State) : ((startTxn p i w a n d l s).ports.get q).offers = (s.ports.get q).offers :=
  changePort_offers p q rfl

theorem startTxn_opQueue (p q : Fin 4) (i : Initiator) (w : Bool) (a : Word) (n : Nat) (d : List Byte) (l : Bool)
    (s : State) : ((startTxn p i w a n d l s).ports.get q).opQueue = (s.ports.get q).opQueue :=
  changePort_opQueue p q rfl

theorem startTxn_initiator (p q : Fin 4) (i : Initiator) (w : Bool) (a : Word) (n : Nat) (d : List Byte) (l : Bool)
    (s : State) : ((startTxn p i w a n d l s).ports.get q).txn.map Txn.initiator
      = if p = q then some i else (s.ports.get q).txn.map Txn.initiator := by
  unfold startTxn
  rw [changePort_txn]
  split <;> rfl

/-! ## Starts -/

/-- The items that the arbiter starts as neither a chunk nor an operation. -/
def IsPlainChoice : Choice → Prop
  | .chunk _ _ | .operation _ => False
  | _ => True

theorem keepsChores_countShare (p : Fin 4) (s : State) : KeepsChores s (s.modPort p (Port.countShare true)) :=
  keepsChores_modPort (SameWork.chores ⟨rfl, rfl, rfl, rfl⟩)

theorem idle_countShare {p : Fin 4} (idle : (s.ports.get p).txn = none) :
    ((s.modPort p (Port.countShare true)).ports.get p).txn = none := by
  rw [State.modPort_ports, Table.get_modify_self]
  exact idle

theorem startTagged_keepsChores {p : Fin 4} (idle : (s.ports.get p).txn = none) (i : Fin 32) (x : Tag)
    (a : Access) : KeepsChores s (startTagged p i x a s) := by
  have begin_ : KeepsChores s (((removeEntry (.tag i) s).modTag i fun x =>
      { x with state := .active, holdOff := none }).modPort p (Port.countShare true)) :=
    keepsChores_countShare p ((removeEntry (.tag i) s).modTag i _)
  have idle' := idle_countShare (s := (removeEntry (.tag i) s).modTag i fun x =>
      { x with state := .active, holdOff := none }) (p := p) idle
  unfold startTagged
  dsimp only
  split
  · exact begin_.trans (keepsChores_startTxn idle' (isPlain_request i) _ _ _ _ _)
  · exact begin_.trans (keepsChores_startTxn idle' (isPlain_modifyRead i) _ _ _ _ _)
  · exact begin_.trans (keepsChores_startTxn idle' (isPlain_request i) _ _ _ _ _)

theorem startHost_keepsChores {p : Fin 4} (idle : (s.ports.get p).txn = none) (e : Entry) :
    KeepsChores s (startHost p e s) := by
  cases e with
  | tag i =>
    unfold startHost
    dsimp only
    split
    · split
      · have ready : ∀ d, KeepsChores s (makeReady i .ok false d (removeEntry (.tag i) s)) := fun d =>
          keepsChores_of_touches ((removeEntry_touches _ s).within.trans (makeReady_touches _ _ _ _ _).within
            (bs := [.lists, .tags, .ready, .faults]))
        exact (ready _).trans (keepsChores_fillTest _ _)
      · exact startTagged_keepsChores idle _ _ _
    · exact .refl s
  | post k =>
    unfold startHost
    dsimp only
    split
    · next x _ =>
      have begin_ : KeepsChores s (((removeEntry (.post k) s).setSlot k
          (some { x with holdOff := none })).modPort p (Port.countShare true)) :=
        keepsChores_countShare p ((removeEntry (.post k) s).setSlot k _)
      exact begin_.trans (keepsChores_startTxn (idle_countShare (s := (removeEntry (.post k) s).setSlot k _) idle)
        (isPlain_post k) _ _ _ _ _)
    · exact .refl s

theorem startChoice_keepsChores {p : Fin 4} {c : Choice} (idle : (s.ports.get p).txn = none)
    (plain : IsPlainChoice c) : KeepsChores s (startChoice p c s) := by
  cases c with
  | lockContinuation l =>
    show KeepsChores s (startWriteHalf p l s)
    unfold startWriteHalf
    split
    · exact keepsChores_startTxn idle (isPlain_modifyWrite _) _ _ _ _ _
    · exact .refl s
  | host e => exact startHost_keepsChores idle e
  | fill a =>
    have pending : KeepsChores s (s.modPort p fun x => { x with pendingFill := none }) :=
      keepsChores_modPort (SameWork.chores ⟨rfl, rfl, rfl, rfl⟩)
    refine pending.trans (keepsChores_startTxn ?_ isPlain_fill _ _ _ _ _)
    rw [State.modPort_ports, Table.get_modify_self]
    exact idle
  | chunk j o => exact plain.elim
  | operation op => exact plain.elim

/-! ## Ends -/

theorem requeueTag_keepsChores (p : Fin 4) (i : Fin 32) (x : Txn) (s : State) :
    KeepsChores s (requeueTag p i x s) := keepsChores_of_touches (requeueTag_touches p i x s)

theorem finishRequest_keepsChores (i : Fin 32) (st : Status) (d : Option (List Byte)) (s : State) :
    KeepsChores s (finishRequest i st d s) := keepsChores_of_touches (finishRequest_touches i st d s)

section

variable {p : Fin 4} {x : Txn} (txn : (s.ports.get p).txn = some x)

include txn

theorem endRequest_keepsChores {i : Fin 32} (init : x.initiator = .request i) (o : BusOutcome) (d : List Byte) :
    KeepsChores s (endRequest p i x o d s) := by
  have close : KeepsChores s (closeTxn p none s) := keepsChores_closeTxn txn (init ▸ isPlain_request i) none
  unfold endRequest
  dsimp only
  split
  · exact close.trans (requeueTag_keepsChores _ _ _ _)
  · refine close.trans ?_
    split
    · split
      · exact (finishRequest_keepsChores _ _ _ _).trans (keepsChores_fillTest _ _)
      · exact finishRequest_keepsChores _ _ _ _
    · exact finishRequest_keepsChores _ _ _ _

theorem endModifyRead_keepsChores {i : Fin 32} (init : x.initiator = .modifyRead i) (o : BusOutcome)
    (d : List Byte) : KeepsChores s (endModifyRead p i x o d s) := by
  have close : ∀ l, KeepsChores s (closeTxn p l s) := keepsChores_closeTxn txn (init ▸ isPlain_modifyRead i)
  unfold endModifyRead
  split
  · exact (close _).trans (keepsChores_of_touches (modTag_touches _ _ _))
  · split
    · exact (close none).trans (requeueTag_keepsChores _ _ _ _)
    · exact (close none).trans (finishRequest_keepsChores _ _ _ _)

theorem endModifyWrite_keepsChores {i : Fin 32} (init : x.initiator = .modifyWrite i) (o : BusOutcome) :
    KeepsChores s (endModifyWrite p i x o s) := by
  have close : ∀ l, KeepsChores s (closeTxn p l s) := keepsChores_closeTxn txn (init ▸ isPlain_modifyWrite i)
  unfold endModifyWrite
  dsimp only
  split
  · exact (close _).trans (keepsChores_of_touches (modTag_touches _ _ _))
  · exact (close none).trans (finishRequest_keepsChores _ _ _ _)

theorem endPosted_keepsChores {k : Fin 32} (init : x.initiator = .post k) (o : BusOutcome) :
    KeepsChores s (endPosted p k x o s) := by
  have close : KeepsChores s (closeTxn p none s) := keepsChores_closeTxn txn (init ▸ isPlain_post k) none
  have ended : ∀ y b u, KeepsChores u (endPost k y b u) := fun y b u =>
    keepsChores_of_touches (endPost_touches k y b u)
  unfold endPosted
  dsimp only
  split
  · exact close
  · split
    · exact close.trans (ended _ _ _)
    · split
      · exact close.trans (keepsChores_of_touches ((setSlot_touches _ _ _).within.trans
          (returnEntry_touches _ _ _).within (bs := [.pool, .lists])))
      · split
        · exact close.trans (ended _ _ _)
        · exact (close.trans (ended _ _ _)).trans (keepsChores_of_touches (report_touches _ _ _))

theorem endFill_keepsChores (init : x.initiator = .fill) (o : BusOutcome) (d : List Byte) :
    KeepsChores s (endFill p x o d s) := by
  refine (keepsChores_closeTxn txn (init ▸ isPlain_fill) none).trans (keepsChores_modPort (SameWork.chores ?_))
  unfold Port.fillEnded
  split <;> exact ⟨rfl, rfl, rfl, rfl⟩

/-- The end of a transaction that is no chunk and no operation. -/
theorem endTxn_keepsChores (plain : IsPlain x.initiator) (o : BusOutcome) (d : List Byte) :
    KeepsChores s (endTxn p x o d s) := by
  cases init : x.initiator with
  | request i =>
    exact endTxn_request p o d s init ▸ (endRequest_keepsChores txn init o d).trans (keepsChores_writeTest _ _ _)
  | modifyRead i =>
    exact endTxn_modifyRead p o d s init ▸
      (endModifyRead_keepsChores txn init o d).trans (keepsChores_writeTest _ _ _)
  | modifyWrite i =>
    exact endTxn_modifyWrite p o d s init ▸
      (endModifyWrite_keepsChores txn init o).trans (keepsChores_writeTest _ _ _)
  | post k =>
    exact endTxn_post p o d s init ▸ (endPosted_keepsChores txn init o).trans (keepsChores_writeTest _ _ _)
  | fill => exact endTxn_fill p o d s init ▸ (endFill_keepsChores txn init o d).trans (keepsChores_writeTest _ _ _)
  | chunk j c =>
    have := plain.1 j
    simp [init, carriedChunk] at this
  | operation op =>
    have := plain.2 op.source
    simp [init, carriedOperation] at this

end

/-! ## The blocks of the job slots and of the sources at such starts and ends -/

theorem startChoice_touches_plain (p : Fin 4) {c : Choice} (plain : IsPlainChoice c) (s : State) :
    Touches [.lists, .tags, .ready, .faults, .ports, .pool] s (startChoice p c s) := by
  cases c with
  | lockContinuation l => exact (startWriteHalf_touches p l s).within
  | host e => exact (startHost_touches p e s).within
  | fill a => exact (startFill_touches p a s).within
  | chunk j o => exact plain.elim
  | operation op => exact plain.elim

theorem writeTest_touches (p : Fin 4) (x : Txn) (s : State) : Touches [.ports] s (writeTest p x s) := by
  unfold writeTest
  split
  · exact modPort_touches _ _ _
  · exact .refl _ _

theorem endTxn_touches_plain (p : Fin 4) {x : Txn} (plain : IsPlain x.initiator) (o : BusOutcome)
    (d : List Byte) (s : State) :
    Touches [.lists, .tags, .ready, .faults, .ports, .pool] s (endTxn p x o d s) := by
  cases init : x.initiator with
  | request i =>
    exact endTxn_request p o d s init ▸ (endRequest_touches _ _ _ _ _ _).within.trans (writeTest_touches _ _ _).within
  | modifyRead i =>
    exact endTxn_modifyRead p o d s init ▸
      (endModifyRead_touches _ _ _ _ _ _).within.trans (writeTest_touches _ _ _).within
  | modifyWrite i =>
    exact endTxn_modifyWrite p o d s init ▸
      (endModifyWrite_touches _ _ _ _ _).within.trans (writeTest_touches _ _ _).within
  | post k =>
    exact endTxn_post p o d s init ▸ (endPosted_touches _ _ _ _ _).within.trans (writeTest_touches _ _ _).within
  | fill =>
    exact endTxn_fill p o d s init ▸ (endFill_touches _ _ _ _ _).within.trans (writeTest_touches _ _ _).within
  | chunk j c =>
    have := plain.1 j
    simp [init, carriedChunk] at this
  | operation op =>
    have := plain.2 op.source
    simp [init, carriedOperation] at this


/-! ## The chunk and the operation that the arbiter starts -/

/-- What is not a lock continuation, the arbiter chooses on an IDLE port. -/
theorem idleChoice_of_arbiterChoice {p : Fin 4} {c : Choice} (h : arbiterChoice p s = some c)
    (other : ∀ l, c ≠ .lockContinuation l) : idleChoice (s.ports.get p) (candidate p s) = some c := by
  unfold arbiterChoice at h
  dsimp only at h
  split at h
  · cases h
  · split at h
    · split at h
      · cases h; exact absurd rfl (other _)
      · cases h
    · split at h
      · cases h
      · exact h

theorem waitingChunk_of_idleChoice {x : Port} {e : Option Entry} {j : Fin 4} {o : Offer}
    (h : idleChoice x e = some (.chunk j o)) : x.waitingChunk = some (j, o) := by
  unfold idleChoice at h
  split at h
  · cases h
  · split at h
    · cases h
    · next waits => cases h; exact waits
    · next waits =>
      split at h
      · cases h
      · cases h; exact waits
    · cases fill : x.pendingFill <;> simp [fill] at h

theorem oldestOperation_of_idleChoice {x : Port} {e : Option Entry} {op : IrqOp}
    (h : idleChoice x e = some (.operation op)) : x.oldestOperation = some op := by
  unfold idleChoice at h
  split at h
  · next oldest => cases h; exact oldest
  · split at h
    · cases h
    · cases h
    · split at h <;> cases h
    · cases fill : x.pendingFill <;> simp [fill] at h

theorem offer_of_waitingChunk {x : Port} {j : Fin 4} {o : Offer} (h : x.waitingChunk = some (j, o)) :
    x.offers.get j = some o ∧ o.holdOff = none := by
  obtain ⟨k, -, found⟩ := List.exists_of_findSome?_eq_some h
  split at found
  · next offered =>
    split at found
    · next ready => cases found; exact ⟨offered, Option.isNone_iff_eq_none.mp ready⟩
    · cases found
  · cases found

/-- The chunk that a port starts was offered to it. -/
theorem offer_of_arbiterChoice {p j : Fin 4} {o : Offer} (h : arbiterChoice p s = some (.chunk j o)) :
    (s.ports.get p).offers.get j = some o :=
  (offer_of_waitingChunk (waitingChunk_of_idleChoice (idleChoice_of_arbiterChoice h (by simp)))).1

/-- The operation that a port starts was in its queue. -/
theorem mem_of_arbiterChoice {p : Fin 4} {op : IrqOp} (h : arbiterChoice p s = some (.operation op)) :
    op ∈ (s.ports.get p).opQueue :=
  List.mem_of_find?_eq_some (oldestOperation_of_idleChoice (idleChoice_of_arbiterChoice h (by simp)))

end Sys2Proof.Proofs.Chores

/-! # The law of the job slots (05) -/

namespace Sys2Proof.Proofs.JobSlots

-- One theorem after another: the proofs of this part at once ask for more threads than the check allows.
set_option Elab.async false

open Sys2Proof.Machine Sys2Proof.Safety Sys2Proof.Proofs.Steps Sys2Proof.Proofs.Work
  Sys2Proof.Proofs.RequestTurns Sys2Proof.Proofs.TagTable Sys2Proof.Proofs.PostedPool Sys2Proof.Proofs.Chores

variable {s t u : State} {j : Fin 4}

/-! ## The law, slot by slot -/

/-- The lengths of the chunk transactions of slot `j` that a port holds, offered or in progress. -/
def chunkSizes (j : Fin 4) (x : Port) : List Nat :=
  ((x.offers.get j).toList ++ (runningChunk j x).toList).map Offer.size

/-- No port holds a chunk transaction of the slot. -/
def Nowhere (j : Fin 4) (s : State) : Prop := ∀ p, chunkSizes j (s.ports.get p) = []

/-- One port alone holds one chunk transaction of the slot. -/
def OnlyAt (j p : Fin 4) (n : Nat) (s : State) : Prop :=
  chunkSizes j (s.ports.get p) = [n] ∧ ∀ q, q ≠ p → chunkSizes j (s.ports.get q) = []

/-- What the law says of the slot's own record. -/
structure RecordLaw (x : JobSlot) : Prop where
  progress : ∀ d, x.active = some d → x.bytesDone + x.bytesLeft = d.length.toNat
  chunk : ∀ c, x.chunk = some c → c.length ≤ x.bytesLeft ∧ x.state.isStarted = true
  paused : x.state = .paused → x.chunk = none
  flush : x.flushMark = true → x.state = .stopping

/-- The law of one slot. -/
structure SlotLaw (j : Fin 4) (s : State) : Prop where
  record : RecordLaw (s.jobs.get j)
  placed : Nowhere j s ∨ ∃ p c, OnlyAt j p c.length s ∧ (s.jobs.get j).chunk = some c
  started : ∀ p o, runningChunk j (s.ports.get p) = some o →
    ∃ c, (s.jobs.get j).chunk = some c ∧ c.started = true

theorem outstanding_sizes (s : State) (j : Fin 4) :
    (outstanding s j).map Offer.size = (Table.indices 4).flatMap fun p => chunkSizes j (s.ports.get p) :=
  List.map_flatMap

theorem outstanding_of_nowhere (h : Nowhere j s) : outstanding s j = [] := by
  have := outstanding_sizes s j
  rw [List.flatMap_eq_nil_iff.mpr fun p _ => h p] at this
  exact List.map_eq_nil_iff.mp this

/-- Two terms of a sum over the indices. -/
theorem add_le_sum {n : Nat} (f : Fin n → Nat) {p q : Fin n} (ne : q ≠ p) :
    f p + f q ≤ ((Table.indices n).map f).sum := by
  unfold Table.indices
  rw [← Fin.sum_univ_def, ← Finset.add_sum_erase _ f (Finset.mem_univ p)]
  exact Nat.add_le_add_left
    (Finset.single_le_sum (f := f) (fun _ _ => Nat.zero_le _) (Finset.mem_erase.mpr ⟨ne, Finset.mem_univ q⟩)) _

theorem length_outstanding (s : State) (j : Fin 4) :
    (outstanding s j).length = ((Table.indices 4).map fun p => (chunkSizes j (s.ports.get p)).length).sum := by
  rw [← List.length_map (f := Offer.size), outstanding_sizes, List.length_flatMap]

theorem length_of_onlyAt {p : Fin 4} {n : Nat} (h : OnlyAt j p n s) : (outstanding s j).length = 1 := by
  obtain ⟨one, none_⟩ := h
  rw [length_outstanding]
  have := sum_change (f := fun _ : Fin 4 => 0) (g := fun q => (chunkSizes j (s.ports.get q)).length) p
    fun q ne => by rw [none_ q ne]; rfl
  simpa [one] using this

/-- At most one chunk transaction is nowhere or at one port. -/
theorem placed_of_length (h : (outstanding s j).length ≤ 1) : Nowhere j s ∨ ∃ p n, OnlyAt j p n s := by
  rw [length_outstanding] at h
  by_cases nowhere : Nowhere j s
  · exact .inl nowhere
  · refine .inr ?_
    obtain ⟨p, hp⟩ := not_forall.mp nowhere
    have others : ∀ q, q ≠ p → chunkSizes j (s.ports.get q) = [] := fun q ne => by
      have two : (chunkSizes j (s.ports.get p)).length + (chunkSizes j (s.ports.get q)).length ≤ _ :=
        add_le_sum (fun q => (chunkSizes j (s.ports.get q)).length) ne
      have := List.length_pos_of_ne_nil hp
      exact List.length_eq_zero_iff.mp (by omega)
    obtain ⟨q, ne⟩ : ∃ q : Fin 4, q ≠ p := exists_ne p
    have two : (chunkSizes j (s.ports.get p)).length + (chunkSizes j (s.ports.get q)).length ≤ _ :=
      add_le_sum (fun q => (chunkSizes j (s.ports.get q)).length) ne
    obtain ⟨n, hn⟩ : ∃ n, chunkSizes j (s.ports.get p) = [n] := by
      refine List.length_eq_one_iff.mp ?_
      have := List.length_pos_of_ne_nil hp
      omega
    exact ⟨p, n, hn, others⟩

theorem mem_sizes {n : Nat} : n ∈ (outstanding s j).map Offer.size ↔ ∃ p, n ∈ chunkSizes j (s.ports.get p) := by
  rw [outstanding_sizes, List.mem_flatMap]
  exact ⟨fun ⟨p, _, h⟩ => ⟨p, h⟩, fun ⟨p, h⟩ => ⟨p, Table.mem_indices p, h⟩⟩

theorem jobLaw_iff (s : State) : JobLaw s ↔ ∀ j, SlotLaw j s := by
  constructor
  · refine fun law j => ⟨⟨law.progress j, law.chunk j, law.paused j, law.flush j⟩, ?_, law.started j⟩
    rcases placed_of_length (law.one j) with nowhere | ⟨p, n, only⟩
    · exact .inl nowhere
    · have mem : n ∈ (outstanding s j).map Offer.size := mem_sizes.mpr ⟨p, by simp [only.1]⟩
      obtain ⟨o, ho, rfl⟩ := List.mem_map.mp mem
      obtain ⟨c, hc, len⟩ := law.size j o ho
      exact .inr ⟨p, c, len ▸ only, hc⟩
  · intro law
    refine ⟨fun j => (law j).record.progress, fun j => (law j).record.chunk, fun j => (law j).record.paused,
      fun j => (law j).record.flush, fun j => ?_, fun j o mem => ?_, fun j => (law j).started⟩
    · rcases (law j).placed with nowhere | ⟨p, c, only, -⟩
      · rw [outstanding_of_nowhere nowhere]
        exact Nat.zero_le _
      · exact Nat.le_of_eq (length_of_onlyAt only)
    · rcases (law j).placed with nowhere | ⟨p, c, only, hc⟩
      · rw [outstanding_of_nowhere nowhere] at mem
        cases mem
      · obtain ⟨q, hq⟩ := mem_sizes.mp (List.mem_map_of_mem mem)
        refine ⟨c, hc, ?_⟩
        by_cases e : q = p
        · rw [e, only.1] at hq
          exact (List.mem_singleton.mp hq).symm
        · rw [only.2 q e] at hq
          cases hq

/-! ## What the law does not look at -/

/-- The fields of a slot that its law looks at. -/
structure SameRun (x y : JobSlot) : Prop where
  state : y.state = x.state
  active : y.active = x.active
  bytesDone : y.bytesDone = x.bytesDone
  bytesLeft : y.bytesLeft = x.bytesLeft
  chunk : y.chunk = x.chunk
  flushMark : y.flushMark = x.flushMark

theorem SameRun.refl (x : JobSlot) : SameRun x x := ⟨rfl, rfl, rfl, rfl, rfl, rfl⟩

theorem recordLaw_of_same {x y : JobSlot} (law : RecordLaw x) (h : SameRun x y) : RecordLaw y := by
  obtain ⟨state, active, bytesDone, bytesLeft, chunk, flushMark⟩ := h
  exact ⟨by rw [active, bytesDone, bytesLeft]; exact law.progress, by rw [chunk, bytesLeft, state]; exact law.chunk,
    by rw [state, chunk]; exact law.paused, by rw [flushMark, state]; exact law.flush⟩

/-- A port that holds chunk transactions of the same lengths, in progress in the same slots. -/
structure SameChunks (j : Fin 4) (x y : Port) : Prop where
  sizes : chunkSizes j y = chunkSizes j x
  running : (runningChunk j y).isSome = (runningChunk j x).isSome

theorem SameChunks.refl (j : Fin 4) (x : Port) : SameChunks j x x := ⟨rfl, rfl⟩

theorem slotLaw_of_same (law : SlotLaw j s) (jobs : SameRun (s.jobs.get j) (t.jobs.get j))
    (ports : ∀ p, SameChunks j (s.ports.get p) (t.ports.get p)) : SlotLaw j t where
  record := recordLaw_of_same law.record jobs
  placed := by
    rcases law.placed with nowhere | ⟨p, c, ⟨one, none_⟩, hc⟩
    · exact .inl fun p => (ports p).sizes.trans (nowhere p)
    · exact .inr ⟨p, c, ⟨(ports p).sizes.trans one, fun q ne => (ports q).sizes.trans (none_ q ne)⟩,
        jobs.chunk.trans hc⟩
  started p o h := by
    have running := (ports p).running
    rw [h] at running
    obtain ⟨o', ho'⟩ := Option.isSome_iff_exists.mp running.symm
    rw [jobs.chunk]
    exact law.started p o' ho'

theorem jobLaw_of_same (law : JobLaw s) (jobs : ∀ j, SameRun (s.jobs.get j) (t.jobs.get j))
    (ports : ∀ j p, SameChunks j (s.ports.get p) (t.ports.get p)) : JobLaw t :=
  (jobLaw_iff t).mpr fun j => slotLaw_of_same ((jobLaw_iff s).mp law j) (jobs j) (ports j)

theorem sameChunks_of_chores {x y : Port} (h : SameChores x y) (j : Fin 4) : SameChunks j x y :=
  ⟨by unfold chunkSizes; rw [h.offers, h.chunk], by rw [h.chunk]⟩

/-- A port changed in its queue, or in parts of its transaction other than the initiator. -/
theorem sameChunks_of_offers {x y : Port} (offers : y.offers = x.offers)
    (txn : y.txn.map Txn.initiator = x.txn.map Txn.initiator) (j : Fin 4) : SameChunks j x y := by
  have running : runningChunk j y = runningChunk j x := by rw [runningChunk_eq, runningChunk_eq, txn]
  exact ⟨by unfold chunkSizes; rw [offers, running], by rw [running]⟩

/-- What leaves the slots, and every port's chunks, alone. -/
theorem jobLaw_of_chores {bs : List Block} (law : JobLaw s) (h : Touches bs s t) (k : KeepsChores s t)
    (nj : Block.jobs ∉ bs := by simp) : JobLaw t :=
  jobLaw_of_same law (fun j => by rw [h.jobs nj]; exact .refl _) fun j p => sameChunks_of_chores (k p) j

theorem jobLaw_of_touches {bs : List Block} (law : JobLaw s) (h : Touches bs s t)
    (nj : Block.jobs ∉ bs := by simp) (np : Block.ports ∉ bs := by simp) : JobLaw t :=
  jobLaw_of_chores law h (keepsChores_of_touches h np) nj

theorem SourceActs.sameChunks {i : Fin 32} (h : SourceActs i s t) (j p : Fin 4) :
    SameChunks j (s.ports.get p) (t.ports.get p) := by
  obtain ⟨l, -, hl⟩ := h.ports p
  exact sameChunks_of_offers (by rw [hl]) (by rw [hl]) j

theorem jobLaw_of_source {bs : List Block} {i : Fin 32} (law : JobLaw s) (h : SourceActs i s t)
    (touches : Touches bs s t) (nj : Block.jobs ∉ bs := by simp) : JobLaw t :=
  jobLaw_of_same law (fun j => by rw [touches.jobs nj]; exact .refl _) (SourceActs.sameChunks h)

/-! ## One slot acts -/

theorem SlotActs.sameChunks (h : SlotActs j s t) {k : Fin 4} (ne : k ≠ j) (p : Fin 4) :
    SameChunks k (s.ports.get p) (t.ports.get p) := by
  obtain ⟨o, ho⟩ := h.ports p
  have offers : (t.ports.get p).offers.get k = (s.ports.get p).offers.get k := by
    rw [ho]
    exact Table.get_set_of_ne _ _ (Ne.symm ne)
  have running : runningChunk k (t.ports.get p) = runningChunk k (s.ports.get p) := by
    rw [runningChunk_eq, runningChunk_eq, ho]
  exact ⟨by unfold chunkSizes; rw [offers, running], by rw [running]⟩

/-- The law of the other slots is kept; that of the slot itself is what is to show. -/
theorem jobLaw_of_slot (law : JobLaw s) (h : SlotActs j s t) (self : SlotLaw j t) : JobLaw t := by
  rw [jobLaw_iff] at law ⊢
  intro k
  by_cases e : k = j
  · exact e ▸ self
  · exact slotLaw_of_same (law k) (by rw [h.jobs k e]; exact .refl _) (SlotActs.sameChunks h e)

/-- A slot with no chunk: its progress is right, no FLUSH winds it down, and no port holds anything of it. -/
structure Resting (j : Fin 4) (s : State) : Prop where
  progress : ∀ d, (s.jobs.get j).active = some d →
    (s.jobs.get j).bytesDone + (s.jobs.get j).bytesLeft = d.length.toNat
  chunk : (s.jobs.get j).chunk = none
  flush : (s.jobs.get j).flushMark = false
  nowhere : Nowhere j s

theorem running_of_nowhere (h : Nowhere j s) (p : Fin 4) : runningChunk j (s.ports.get p) = none := by
  have nil := h p
  unfold chunkSizes at nil
  simp only [List.map_eq_nil_iff, List.append_eq_nil_iff, Option.toList_eq_nil_iff] at nil
  exact nil.2

theorem offer_of_nowhere (h : Nowhere j s) (p : Fin 4) : (s.ports.get p).offers.get j = none := by
  have nil := h p
  unfold chunkSizes at nil
  simp only [List.map_eq_nil_iff, List.append_eq_nil_iff, Option.toList_eq_nil_iff] at nil
  exact nil.1

theorem Resting.law (h : Resting j s) : SlotLaw j s where
  record := ⟨h.progress, fun _ e => absurd (h.chunk.symm.trans e) (by simp), fun _ => h.chunk,
    fun e => absurd (h.flush.symm.trans e) (by simp)⟩
  placed := .inl h.nowhere
  started p _ e := absurd ((running_of_nowhere h.nowhere p).symm.trans e) (by simp)

theorem modJob_get (j : Fin 4) (f : JobSlot → JobSlot) (s : State) :
    (s.modJob j f).jobs.get j = f (s.jobs.get j) := Table.get_modify_self _ _ _

/-- A change of the slot's record that leaves it at rest. -/
theorem Resting.modJob (h : Resting j s) {f : JobSlot → JobSlot}
    (progress : ∀ d, (f (s.jobs.get j)).active = some d →
      (f (s.jobs.get j)).bytesDone + (f (s.jobs.get j)).bytesLeft = d.length.toNat)
    (chunk : (f (s.jobs.get j)).chunk = none) (flush : (f (s.jobs.get j)).flushMark = false) :
    Resting j (s.modJob j f) :=
  ⟨by rw [modJob_get]; exact progress, by rw [modJob_get]; exact chunk, by rw [modJob_get]; exact flush,
   h.nowhere⟩

/-- A change that leaves the progress, the chunk and the flush mark alone. -/
theorem Resting.modJob_same (h : Resting j s) {f : JobSlot → JobSlot}
    (active : (f (s.jobs.get j)).active = (s.jobs.get j).active)
    (bytesDone : (f (s.jobs.get j)).bytesDone = (s.jobs.get j).bytesDone)
    (bytesLeft : (f (s.jobs.get j)).bytesLeft = (s.jobs.get j).bytesLeft)
    (chunk : (f (s.jobs.get j)).chunk = none)
    (flush : (f (s.jobs.get j)).flushMark = (s.jobs.get j).flushMark) : Resting j (s.modJob j f) :=
  h.modJob (by rw [active, bytesDone, bytesLeft]; exact h.progress) chunk (flush.trans h.flush)

/-- A descriptor becomes active with the progress reset. -/
theorem Resting.activate (h : Resting j s) (d : Descriptor) {f : JobSlot → JobSlot}
    (active : (f (s.jobs.get j)).active = some d) (bytesDone : (f (s.jobs.get j)).bytesDone = 0)
    (bytesLeft : (f (s.jobs.get j)).bytesLeft = d.length.toNat) (chunk : (f (s.jobs.get j)).chunk = none)
    (flush : (f (s.jobs.get j)).flushMark = (s.jobs.get j).flushMark) : Resting j (s.modJob j f) := by
  refine h.modJob (fun d' e => ?_) chunk (flush.trans h.flush)
  rw [active] at e
  cases e
  rw [bytesDone, bytesLeft, Nat.zero_add]

/-! ### Laying out a chunk -/

theorem chunkSizes_offer (j p q : Fin 4) (o : Offer) (h : Nowhere j s) :
    chunkSizes j ((offerChunk j p o s).ports.get q) = if p = q then [o.size] else [] := by
  unfold offerChunk
  rw [State.modPort_ports, Table.get_modify]
  split
  · unfold chunkSizes
    have running : runningChunk j { s.ports.get q with offers := (s.ports.get q).offers.set j (some o) } = none :=
      running_of_nowhere h q
    rw [running, Table.get_set_self]
    rfl
  · exact h q

theorem running_offer (j p q : Fin 4) (o : Offer) (s : State) :
    runningChunk j ((offerChunk j p o s).ports.get q) = runningChunk j (s.ports.get q) := by
  unfold offerChunk
  rw [State.modPort_ports, Table.get_modify]
  split <;> rfl

/-- A slot that has a chunk and nothing at the ports offers a transaction of that length. -/
theorem slotLaw_offer {p : Fin 4} {o : Offer} {c : Chunk} (record : RecordLaw (s.jobs.get j))
    (chunk : (s.jobs.get j).chunk = some c) (size : o.size = c.length) (h : Nowhere j s) :
    SlotLaw j (offerChunk j p o s) where
  record := record
  placed := .inr ⟨p, c, ⟨by rw [chunkSizes_offer _ _ _ _ h, if_pos rfl, size],
    fun q ne => by rw [chunkSizes_offer _ _ _ _ h, if_neg (Ne.symm ne)]⟩, chunk⟩
  started q o' e := by
    rw [running_offer, running_of_nowhere h] at e
    cases e

theorem chunkLength_le (d : Descriptor) (left : Nat) (a b : Word) : chunkLength d left a b ≤ left := by
  unfold chunkLength
  dsimp only
  split <;> split <;> omega

theorem slotLaw_layOut (h : Resting j s) : SlotLaw j (layOut j s) := by
  unfold layOut
  dsimp only
  split
  · next d r running _ active _ =>
    split
    · exact h.law
    · have record : ∀ c : Chunk, c.length ≤ (s.jobs.get j).bytesLeft →
          RecordLaw ((s.modJob j fun x => { x with chunk := some c }).jobs.get j) := fun c len => by
        rw [modJob_get]
        refine ⟨h.progress, fun c' e => ?_, fun e => ?_, fun e => ?_⟩
        · cases e
          exact ⟨len, by simp [running, JobState.isStarted]⟩
        · simp [running] at e
        · simp [h.flush] at e
      have len := chunkLength_le d (s.jobs.get j).bytesLeft (nextAddr r.source (s.jobs.get j).bytesDone)
        (nextAddr r.destination (s.jobs.get j).bytesDone)
      have law : ∀ c : Chunk, c.length ≤ (s.jobs.get j).bytesLeft →
          SlotLaw j (s.modJob j fun x => { x with chunk := some c }) := fun c len =>
        ⟨record c len, .inl h.nowhere, fun p o e => by
          have e : runningChunk j (s.ports.get p) = some o := e
          rw [running_of_nowhere h.nowhere] at e
          cases e⟩
      split
      · split
        · exact slotLaw_offer (record _ len) (by rw [modJob_get]) rfl h.nowhere
        · exact law _ len
      · split
        · exact slotLaw_offer (record _ len) (by rw [modJob_get]) rfl h.nowhere
        · exact law _ len
  · exact h.law

theorem slotLaw_runJob (h : Resting j s) (r : RunDecode) : SlotLaw j (runJob j r s) :=
  slotLaw_layOut (h.modJob_same rfl rfl rfl h.chunk rfl)

theorem slotLaw_startJob (h : Resting j s) : SlotLaw j (startJob j s).2 := by
  unfold startJob
  split
  · split
    · exact slotLaw_runJob h _
    · exact h.law
  · exact h.law

/-! ### A job ends -/

/-- The slot of a job whose end has been recorded. -/
theorem close_fields (x : JobSlot) (e : JobState) :
    (x.close e).active = x.active ∧ (x.close e).bytesDone = x.bytesDone
      ∧ (x.close e).bytesLeft = x.bytesLeft ∧ (x.close e).chunk = none
      ∧ (x.close e).flushMark = x.flushMark := by
  unfold JobSlot.close JobSlot.record
  dsimp only
  split
  · split
    · split <;> exact ⟨rfl, rfl, rfl, rfl, rfl⟩
    · exact ⟨rfl, rfl, rfl, rfl, rfl⟩
  · exact ⟨rfl, rfl, rfl, rfl, rfl⟩

theorem Resting.close (h : Resting j s) (e : JobState) : Resting j (s.modJob j fun x => x.close e) := by
  obtain ⟨active, bytesDone, bytesLeft, chunk, flush⟩ := close_fields (s.jobs.get j) e
  exact h.modJob_same active bytesDone bytesLeft chunk flush

theorem Resting.report (h : Resting j s) (k : FaultKind) (d : FaultDetail) : Resting j (report k d s) :=
  ⟨h.progress, h.chunk, h.flush, h.nowhere⟩

theorem slotLaw_failChained (h : Resting j s) (f : ValidationFailure) : SlotLaw j (failChained j f s) := by
  have fields : Resting j (s.modJob j fun x => { x with failStatus := some f.status, failAddr := none }) :=
    h.modJob_same rfl rfl rfl h.chunk rfl
  have closed := fields.close .failed
  have same : (s.modJob j fun x => { x with failStatus := some f.status, failAddr := none }).modJob j
        (fun x => x.close .failed)
      = s.modJob j fun x => JobSlot.close { x with failStatus := some f.status, failAddr := none } .failed := by
    show s.setJobs _ = s.setJobs _
    congr 1
    simp [Table.modify, Table.set_set]
  rw [same] at closed
  exact (closed.report .jobFailed (jobFailure j f.status none none f.hostAddr)).law

theorem slotLaw_endJob (h : Resting j s) (e : JobState) : SlotLaw j (endJob j e s) := by
  have closed := h.close e
  unfold endJob
  dsimp only
  split
  · exact closed.law
  · next d _ =>
    have loaded : Resting j ((s.modJob j fun x => x.close e).modJob j fun x =>
        { x.activate d with staged := none, state := .loaded }) :=
      closed.activate d rfl rfl rfl closed.chunk rfl
    split
    · split
      · exact slotLaw_runJob loaded _
      · exact slotLaw_failChained loaded _
    · exact loaded.law

/-! ### A chunk ends -/

/-- What is left alone of the law when the slot's record changes. -/
theorem slotLaw_modJob (law : SlotLaw j s) {f : JobSlot → JobSlot} (record : RecordLaw (f (s.jobs.get j)))
    (chunk : (f (s.jobs.get j)).chunk = (s.jobs.get j).chunk) : SlotLaw j (s.modJob j f) where
  record := by rw [modJob_get]; exact record
  placed := by rw [modJob_get, chunk]; exact law.placed
  started := by rw [modJob_get, chunk]; exact law.started

theorem slotLaw_of_nowhere (record : RecordLaw (s.jobs.get j)) (nowhere : Nowhere j s) : SlotLaw j s :=
  ⟨record, .inl nowhere, fun p _ e => absurd ((running_of_nowhere nowhere p).symm.trans e) (by simp)⟩

section

variable {c : Chunk} (record : RecordLaw (s.jobs.get j)) (nowhere : Nowhere j s)
  (chunk : (s.jobs.get j).chunk = some c)

include record nowhere

theorem slotLaw_chunkFailed (flush : (s.jobs.get j).flushMark = false) (p : Fin 4) (o : Offer) (st : Status) :
    SlotLaw j (chunkFailed j p o st s) := by
  have rest : Resting j (s.modJob j fun x =>
      { x with failStatus := some st, failAddr := some o.localAddr, chunk := none }) :=
    ⟨fun d e => by rw [modJob_get] at e ⊢; exact record.progress d e, by rw [modJob_get],
     by rw [modJob_get]; exact flush, nowhere⟩
  exact slotLaw_endJob (rest.report _ _) _

include chunk

theorem slotLaw_chunkDone (flush : (s.jobs.get j).flushMark = false) (data : List Byte) :
    SlotLaw j (chunkDone j c.length data s) := by
  have rest : Resting j (s.modJob j fun x =>
      { x with crc := crc32Fold x.crc data, bytesDone := x.bytesDone + c.length
               bytesLeft := x.bytesLeft - c.length, chunk := none }) := by
    refine ⟨fun d e => ?_, by rw [modJob_get], by rw [modJob_get]; exact flush, nowhere⟩
    rw [modJob_get] at e ⊢
    have sum := record.progress d e
    have fits := (record.chunk c chunk).1
    dsimp only
    omega
  unfold chunkDone
  dsimp only
  split
  · exact slotLaw_endJob rest _
  · split
    · exact (rest.modJob_same (f := fun x => { x with state := .paused }) rfl rfl rfl rest.chunk rfl).law
    · exact slotLaw_endJob rest _
    · exact slotLaw_layOut rest

theorem slotLaw_copyReadDone (data : List Byte) : SlotLaw j (copyReadDone j data s) := by
  unfold copyReadDone
  dsimp only
  rw [chunk]
  split
  · next c' r e _ =>
    cases e
    have record' : RecordLaw ((s.modJob j fun x =>
        { x with buffer := fillBuffer x.buffer data, chunk := some { c with phase := .write } }).jobs.get j) := by
      rw [modJob_get]
      refine ⟨record.progress, fun c' e => ?_, fun e => ?_, record.flush⟩
      · cases e
        exact record.chunk c chunk
      · have := record.paused e
        rw [chunk] at this
        cases this
    split
    · exact slotLaw_offer (c := { c with phase := .write }) record' (by rw [modJob_get]) rfl nowhere
    · exact slotLaw_of_nowhere record' nowhere
  · exact slotLaw_of_nowhere record nowhere

theorem slotLaw_chunkEnded {o : Offer} (size : o.size = c.length) (p : Fin 4) (st : Status) (data : List Byte) :
    SlotLaw j (chunkEnded j p o st data s) := by
  unfold chunkEnded
  dsimp only
  split
  · refine Resting.law ⟨?_, ?_, ?_, nowhere⟩ <;> rw [modJob_get] <;> unfold JobSlot.flushEnded <;> split
    · exact fun d e => nomatch e
    · intro d e
      cases e
      exact Nat.zero_add _
    all_goals rfl
  · next unmarked =>
    have flush : (s.jobs.get j).flushMark = false := by simpa using unmarked
    split
    · split
      · exact slotLaw_copyReadDone record nowhere chunk data
      · exact size ▸ slotLaw_chunkDone record nowhere chunk flush _
    · exact slotLaw_chunkFailed record nowhere flush p o st

end

/-- At the end of a chunk's transaction the slot has its chunk and nothing at the ports; the other slots
keep their law. -/
theorem of_closeChunk (law : JobLaw s) {p : Fin 4} {x : Txn} {o : Offer} (txn : (s.ports.get p).txn = some x)
    (init : x.initiator = .chunk j o) :
    (∃ c, (s.jobs.get j).chunk = some c ∧ o.size = c.length) ∧ Nowhere j (closeTxn p none s)
      ∧ ∀ k, k ≠ j → SlotLaw k (closeTxn p none s) := by
  rw [jobLaw_iff] at law
  have run : ∀ k, runningChunk k (s.ports.get p) = if j = k then some o else none := fun k => by
    rw [runningChunk_eq, txn]
    show carriedChunk k x.initiator = _
    rw [init]
    rfl
  have sizes : ∀ k q, chunkSizes k ((closeTxn p none s).ports.get q)
      = if p = q then ((s.ports.get q).offers.get k).toList.map Offer.size else chunkSizes k (s.ports.get q) := by
    intro k q
    unfold chunkSizes
    rw [closeTxn_offers, runningChunk_eq, runningChunk_eq, closeTxn_txn]
    split <;> simp
  rcases (law j).placed with nowhere | ⟨q, c, ⟨one, none_⟩, chunk⟩
  · have := running_of_nowhere nowhere p
    rw [run j, if_pos rfl] at this
    cases this
  · have here : p = q := by
      by_contra ne
      have := none_ p ne
      unfold chunkSizes at this
      rw [run j, if_pos rfl] at this
      simp at this
    subst here
    have both : ((s.ports.get p).offers.get j).toList.map Offer.size ++ [o.size] = [c.length] := by
      rw [← one]
      unfold chunkSizes
      rw [run j, if_pos rfl, List.map_append]
      rfl
    have offer : ((s.ports.get p).offers.get j).toList.map Offer.size = [] ∧ o.size = c.length := by
      cases e : ((s.ports.get p).offers.get j).toList.map Offer.size with
      | nil =>
        rw [e] at both
        exact ⟨rfl, by simpa using both⟩
      | cons a l =>
        rw [e] at both
        simp at both
    refine ⟨⟨c, chunk, offer.2⟩, fun q => ?_, fun k ne => slotLaw_of_same (law k) (.refl _) fun q => ?_⟩
    · rw [sizes]
      split
      · next e => exact e ▸ offer.1
      · next ne => exact none_ q (Ne.symm ne)
    · have running : runningChunk k ((closeTxn p none s).ports.get q) = runningChunk k (s.ports.get q) := by
        rw [runningChunk_eq, closeTxn_txn]
        split
        · next e =>
          subst e
          rw [run k, if_neg (Ne.symm ne)]
          rfl
        · rw [runningChunk_eq]
      refine ⟨?_, by rw [running]⟩
      unfold chunkSizes
      rw [running, closeTxn_offers]

theorem jobLaw_of_others (others : ∀ k, k ≠ j → SlotLaw k s) (h : SlotActs j s t) (self : SlotLaw j t) :
    JobLaw t := by
  rw [jobLaw_iff]
  intro k
  by_cases e : k = j
  · exact e ▸ self
  · exact slotLaw_of_same (others k e) (by rw [h.jobs k e]; exact .refl _) (SlotActs.sameChunks h e)

theorem jobLaw_endChunk (law : JobLaw s) {p : Fin 4} {x : Txn} {o : Offer}
    (txn : (s.ports.get p).txn = some x) (init : x.initiator = .chunk j o) (b : BusOutcome) (d : List Byte) :
    JobLaw (endChunk p j o x b d s) := by
  have record : RecordLaw (s.jobs.get j) := ((jobLaw_iff s).mp law j).record
  obtain ⟨⟨c, chunk, size⟩, nowhere, others⟩ := of_closeChunk law txn init
  unfold endChunk
  dsimp only
  split
  · exact jobLaw_of_others others (offerChunk_slotActs _ _ _ _)
      (slotLaw_offer (s := closeTxn p none s) record chunk size nowhere)
  · exact jobLaw_of_others others (chunkEnded_slotActs _ _ _ _ _ _)
      (slotLaw_chunkEnded (s := closeTxn p none s) record nowhere chunk size _ _ _)

/-! ### A chunk starts -/

theorem startChunk_port (p q j : Fin 4) (o : Offer) (s : State) :
    ((startChunk p j o s).ports.get q).offers
        = (if p = q then (s.ports.get q).offers.set j none else (s.ports.get q).offers)
      ∧ ((startChunk p j o s).ports.get q).txn.map Txn.initiator
        = if p = q then some (.chunk j { o with started := true })
          else (s.ports.get q).txn.map Txn.initiator := by
  unfold startChunk
  dsimp only
  rw [startTxn_offers, startTxn_initiator]
  have port : ∀ u : State, (u.modPort p fun x => Port.countShare false
      { x with offers := x.offers.set j none, lastSlot := j }).ports.get q
      = if p = q then Port.countShare false
          { u.ports.get q with offers := (u.ports.get q).offers.set j none, lastSlot := j }
        else u.ports.get q := fun u => Table.get_modify _ _ _ _
  rw [State.modJob_ports, port]
  split <;> exact ⟨rfl, rfl⟩

theorem startChunk_jobs (p k j : Fin 4) (o : Offer) (s : State) :
    (startChunk p j o s).jobs.get k = if j = k then
        { s.jobs.get k with chunk := (s.jobs.get k).chunk.map fun c => { c with started := true } }
      else s.jobs.get k :=
  Table.get_modify _ _ _ _

theorem jobLaw_startChunk (law : JobLaw s) {p : Fin 4} {o : Offer} (idle : (s.ports.get p).txn = none)
    (offered : (s.ports.get p).offers.get j = some o) : JobLaw (startChunk p j o s) := by
  rw [jobLaw_iff] at law ⊢
  have port := fun q => startChunk_port p q j o s
  have run : ∀ k q, runningChunk k ((startChunk p j o s).ports.get q)
      = if p = q then (if j = k then some { o with started := true } else none)
        else runningChunk k (s.ports.get q) := fun k q => by
    rw [runningChunk_eq, (port q).2]
    split
    · rfl
    · rw [runningChunk_eq]
  have before : ∀ k, runningChunk k (s.ports.get p) = none := fun k => by
    rw [runningChunk_eq, idle]
    rfl
  intro k
  by_cases e : j = k
  · subst e
    have sizes : ∀ q, chunkSizes j ((startChunk p j o s).ports.get q) = chunkSizes j (s.ports.get q) := by
      intro q
      unfold chunkSizes
      rw [run, (port q).1]
      split
      · next e =>
        subst e
        rw [Table.get_set_self, if_pos rfl, before, offered]
        rfl
      · rfl
    have jobs := startChunk_jobs p j j o s
    rw [if_pos rfl] at jobs
    have record := (law j).record
    rcases (law j).placed with nowhere | ⟨q, c, ⟨one, none_⟩, chunk⟩
    · have := offer_of_nowhere nowhere p
      rw [offered] at this
      cases this
    · refine ⟨?_, .inr ⟨q, { c with started := true }, ⟨(sizes q).trans one, fun r ne => (sizes r).trans (none_ r ne)⟩,
        by rw [jobs, chunk]; rfl⟩, fun _ _ _ => ⟨{ c with started := true }, by rw [jobs, chunk]; rfl, rfl⟩⟩
      rw [jobs]
      refine ⟨record.progress, fun c' h => ?_, fun h => ?_, record.flush⟩
      · rw [chunk] at h
        cases h
        exact record.chunk c chunk
      · have := record.paused h
        rw [chunk] at this
        cases this
  · refine slotLaw_of_same (law k) (by rw [startChunk_jobs, if_neg e]; exact .refl _) fun q => ?_
    have running : runningChunk k ((startChunk p j o s).ports.get q) = runningChunk k (s.ports.get q) := by
      rw [run, if_neg e]
      split
      · next h => rw [← h, before]
      · rfl
    have offers : ((startChunk p j o s).ports.get q).offers.get k = (s.ports.get q).offers.get k := by
      rw [(port q).1]
      split
      · exact Table.get_set_of_ne _ _ e
      · rfl
    exact ⟨by unfold chunkSizes; rw [offers, running], by rw [running]⟩

/-! ### The requests of the engine -/

/-- A slot that is not started has no chunk and is not winding down. -/
theorem resting_of_not_started (law : SlotLaw j s) (h : (s.jobs.get j).state.isStarted = false) : Resting j s := by
  have chunk : (s.jobs.get j).chunk = none := by
    cases e : (s.jobs.get j).chunk with
    | none => rfl
    | some c =>
      have := (law.record.chunk c e).2
      rw [h] at this
      cases this
  refine ⟨law.record.progress, chunk, ?_, ?_⟩
  · cases e : (s.jobs.get j).flushMark with
    | false => rfl
    | true =>
      rw [law.record.flush e] at h
      cases h
  · rcases law.placed with nowhere | ⟨p, c, -, hc⟩
    · exact nowhere
    · rw [chunk] at hc
      cases hc

theorem resting_of_paused (law : SlotLaw j s) (h : (s.jobs.get j).state = .paused) : Resting j s := by
  have chunk := law.record.paused h
  refine ⟨law.record.progress, chunk, ?_, ?_⟩
  · cases e : (s.jobs.get j).flushMark with
    | false => rfl
    | true =>
      rw [law.record.flush e] at h
      cases h
  · rcases law.placed with nowhere | ⟨p, c, -, hc⟩
    · exact nowhere
    · rw [chunk] at hc
      cases hc

/-- The withdrawal of a chunk that is not in flight leaves nothing of the slot at the ports. -/
theorem nowhere_withdrawChunk (law : SlotLaw j s) (h : (s.jobs.get j).inFlight = false) :
    Nowhere j (withdrawChunk j s) := fun p => by
  have port : (withdrawChunk j s).ports.get p
      = { s.ports.get p with offers := (s.ports.get p).offers.set j none } := Table.get_map _ _ _
  have running : runningChunk j ((withdrawChunk j s).ports.get p) = none := by
    rw [port]
    cases e : runningChunk j (s.ports.get p) with
    | none => exact e
    | some o =>
      obtain ⟨c, chunk, started⟩ := law.started p o e
      unfold JobSlot.inFlight at h
      simp only [chunk] at h
      rw [started] at h
      cases h
  unfold chunkSizes
  rw [running, port, Table.get_set_self]
  rfl

/-- The record of a started slot with another started state, PAUSED aside. -/
theorem recordLaw_restate {x : JobSlot} (law : RecordLaw x) {st : JobState} (started : st.isStarted = true)
    (paused : st ≠ .paused) (flush : x.flushMark = false) : RecordLaw { x with state := st } :=
  ⟨law.progress, fun c e => ⟨(law.chunk c e).1, started⟩, fun e => absurd e paused,
   fun e => absurd (flush.symm.trans e) (by simp)⟩

theorem unflushed (law : SlotLaw j s) (h : (s.jobs.get j).state ≠ .stopping) :
    (s.jobs.get j).flushMark = false := by
  cases e : (s.jobs.get j).flushMark with
  | false => rfl
  | true => exact absurd (law.record.flush e) h

theorem slotLaw_pauseJob (law : SlotLaw j s) : SlotLaw j (pauseJob j s).2 := by
  unfold pauseJob
  dsimp only
  split
  · next running =>
    have flush := unflushed law (by simp [running])
    split
    · exact slotLaw_modJob law (recordLaw_restate law.record rfl (by simp) flush) rfl
    · next still =>
      refine Resting.law ⟨?_, ?_, ?_, nowhere_withdrawChunk law (by simpa using still)⟩ <;> rw [modJob_get]
      · exact law.record.progress
      · exact flush
  · exact law

theorem slotLaw_resumeJob (law : SlotLaw j s) : SlotLaw j (resumeJob j s).2 := by
  unfold resumeJob
  split
  · next paused =>
    have rest := resting_of_paused law paused
    exact slotLaw_layOut (rest.modJob_same (f := fun x => { x with state := .running }) rfl rfl rfl rest.chunk rfl)
  · next pausing =>
    exact slotLaw_modJob law (recordLaw_restate law.record rfl (by simp) (unflushed law (by simp [pausing]))) rfl
  · exact law

theorem slotLaw_stopJob (law : SlotLaw j s) : SlotLaw j (stopJob j s).2 := by
  unfold stopJob
  dsimp only
  split
  · next running =>
    have flush := unflushed law (by simp [running])
    split
    · exact slotLaw_modJob law (recordLaw_restate law.record rfl (by simp) flush) rfl
    · next still =>
      have rest : Resting j ((withdrawChunk j s).modJob j fun x => { x with chunk := none }) := by
        refine ⟨?_, ?_, ?_, nowhere_withdrawChunk law (by simpa using still)⟩ <;> rw [modJob_get]
        · exact law.record.progress
        · exact flush
      exact slotLaw_endJob rest _
  · next pausing =>
    exact slotLaw_modJob law (recordLaw_restate law.record rfl (by simp) (unflushed law (by simp [pausing]))) rfl
  · next paused => exact slotLaw_endJob (resting_of_paused law paused) _
  · exact law

theorem slotLaw_loadJob (law : SlotLaw j s) (d : Descriptor) : SlotLaw j (loadJob j d s).2.2 := by
  unfold loadJob
  dsimp only
  split
  · exact slotLaw_modJob law (recordLaw_of_same law.record ⟨rfl, rfl, rfl, rfl, rfl, rfl⟩) rfl
  · next idle =>
    have rest := resting_of_not_started law (by simpa using idle)
    have loaded := rest.activate d (f := fun x => { x.activate d with state := .loaded }) rfl rfl rfl rest.chunk rfl
    split
    · exact slotLaw_startJob loaded
    · exact loaded.law

/-! ### FLUSH -/

theorem flushOffers_get (x : Table (Option Offer) 4) (j : Fin 4) :
    (flushOffers x).get j = x.get j ∨ (flushOffers x).get j = none ∧ ∀ o, x.get j = some o → o.started = false := by
  unfold flushOffers
  rw [Table.get_map]
  cases x.get j with
  | none => exact .inl rfl
  | some o =>
    cases e : o.started with
    | true => exact .inl (by simp [e])
    | false => exact .inr ⟨by simp [e], fun o' h => by cases h; exact e⟩

theorem flushJobs_ports (s : State) (p : Fin 4) :
    (flushJobs s).ports.get p = { s.ports.get p with offers := flushOffers (s.ports.get p).offers } :=
  Table.get_map _ _ _

theorem flushJobs_jobs (s : State) (j : Fin 4) :
    (flushJobs s).jobs.get j = flushJob (slotRunning s j) (s.jobs.get j) := by
  show Table.get ⟨(Table.indices 4).map _, _⟩ j = _
  simp [Table.get, Table.indices]

theorem slotRunning_false {s : State} {j : Fin 4} (h : slotRunning s j = false) (p : Fin 4) :
    runningChunk j (s.ports.get p) = none
      ∧ ∀ o, (s.ports.get p).offers.get j = some o → o.started = false := by
  have none_ := List.any_eq_false.mp h _ ((Table.mem_rows_iff _ _).mpr ⟨p, rfl⟩)
  simp only [Bool.or_eq_true, not_or, Bool.not_eq_true] at none_
  obtain ⟨run, offer⟩ := none_
  constructor
  · unfold runningChunk
    cases txn : (s.ports.get p).txn with
    | none => rfl
    | some x =>
      cases init : x.initiator <;> simp [txn, init] at run ⊢
      exact run
  · intro o e
    simpa [e] using offer

/-- A slot with work in progress at a FLUSH winds down. -/
theorem flushJob_running {x : JobSlot} {c : Chunk} (law : RecordLaw x) (chunk : x.chunk = some c) :
    flushJob true x = { x with staged := none, state := .stopping, flushMark := true } := by
  have started := (law.chunk c chunk).2
  unfold flushJob
  cases e : x.state <;> simp [e, JobState.isStarted] at started ⊢
  have := law.paused e
  rw [chunk] at this
  cases this

theorem flushJob_still (x : JobSlot) : flushJob false x = x.emptied := by
  unfold flushJob
  split <;> rfl

/-- A slot with no chunk is emptied by a FLUSH, or is marked as winding down. -/
theorem recordLaw_flushJob {x : JobSlot} (law : RecordLaw x) (b : Bool) (h : b = true → ∃ c, x.chunk = some c) :
    RecordLaw (flushJob b x) := by
  cases b with
  | false =>
    rw [flushJob_still]
    exact ⟨fun d e => (nomatch e), fun c e => (nomatch e), fun _ => rfl, fun e => (nomatch e)⟩
  | true =>
    obtain ⟨c, chunk⟩ := h rfl
    rw [flushJob_running law chunk]
    exact ⟨law.progress, fun c e => ⟨(law.chunk c e).1, rfl⟩, fun e => (nomatch e), fun _ => rfl⟩

theorem jobLaw_flushJobs (law : JobLaw s) : JobLaw (flushJobs s) := by
  rw [jobLaw_iff] at law ⊢
  intro j
  have law := law j
  have running : ∀ p, runningChunk j ((flushJobs s).ports.get p) = runningChunk j (s.ports.get p) := fun p => by
    rw [flushJobs_ports, runningChunk_eq, runningChunk_eq]
  have offer := fun p => flushOffers_get (s.ports.get p).offers j
  have offers : ∀ p, ((flushJobs s).ports.get p).offers.get j = (flushOffers (s.ports.get p).offers).get j :=
    fun p => by rw [flushJobs_ports]
  cases work : slotRunning s j with
  | false =>
    have still := slotRunning_false work
    have nowhere : Nowhere j (flushJobs s) := fun p => by
      unfold chunkSizes
      rw [running, (still p).1, offers]
      rcases offer p with same | ⟨gone, -⟩
      · rw [same]
        cases e : (s.ports.get p).offers.get j with
        | none => rfl
        | some o =>
          have kept : (flushOffers (s.ports.get p).offers).get j = none := by
            unfold flushOffers
            rw [Table.get_map, e]
            simp [(still p).2 o e]
          rw [same, e] at kept
          cases kept
      · rw [gone]
        rfl
    refine slotLaw_of_nowhere ?_ nowhere
    rw [flushJobs_jobs, work]
    exact recordLaw_flushJob law.record false (fun e => nomatch e)
  | true =>
    have sizes : ∀ p, chunkSizes j ((flushJobs s).ports.get p) = chunkSizes j (s.ports.get p)
        ∨ chunkSizes j ((flushJobs s).ports.get p) = [] ∨ 2 ≤ (chunkSizes j (s.ports.get p)).length := fun p => by
      unfold chunkSizes
      rw [running, offers]
      rcases offer p with same | ⟨gone, -⟩
      · exact .inl (by rw [same])
      · rw [gone]
        cases (s.ports.get p).offers.get j with
        | none => exact .inl rfl
        | some o =>
          cases runningChunk j (s.ports.get p) with
          | none => exact .inr (.inl rfl)
          | some o' => exact .inr (.inr (Nat.le_refl 2))
    rcases law.placed with nowhere | ⟨p, c, ⟨one, none_⟩, chunk⟩
    · have : slotRunning s j = false := by
        unfold slotRunning
        refine List.any_eq_false.mpr fun x mem => ?_
        obtain ⟨p, rfl⟩ := (Table.mem_rows_iff _ _).mp mem
        have run := running_of_nowhere nowhere p
        rw [offer_of_nowhere nowhere p]
        unfold runningChunk at run
        cases txn : (s.ports.get p).txn with
        | none => simp
        | some x =>
          rw [txn] at run
          cases init : x.initiator <;> simp [init] at run ⊢
          exact run
      rw [this] at work
      cases work
    · have jobs : (flushJobs s).jobs.get j
          = { s.jobs.get j with staged := none, state := .stopping, flushMark := true } := by
        rw [flushJobs_jobs, work, flushJob_running law.record chunk]
      refine ⟨?_, ?_, ?_⟩
      · rw [flushJobs_jobs]
        exact recordLaw_flushJob law.record _ fun _ => ⟨c, chunk⟩
      · have others : ∀ q, q ≠ p → chunkSizes j ((flushJobs s).ports.get q) = [] := fun q ne => by
          rcases sizes q with same | gone | two
          · rw [same, none_ q ne]
          · exact gone
          · rw [none_ q ne] at two
            cases two
        rcases sizes p with same | gone | two
        · exact .inr ⟨p, c, ⟨same.trans one, others⟩, by rw [jobs]; exact chunk⟩
        · refine .inl fun q => ?_
          by_cases e : q = p
          · exact e ▸ gone
          · exact others q e
        · rw [one] at two
          exact absurd two (by simp)
      · intro q o e
        rw [running] at e
        rw [jobs]
        exact law.started q o e

/-- At a FLUSH a port keeps its chunks: of its transaction the operation alone is marked. -/
theorem sameChunks_flush (x : Port) (j : Fin 4) : SameChunks j x x.flush := by
  have running : runningChunk j x.flush = runningChunk j x := by
    rw [runningChunk_eq, runningChunk_eq]
    unfold Port.flush
    cases x.txn with
    | none => rfl
    | some q => cases e : q.initiator <;> simp [Initiator.flushed, e, carriedChunk]
  exact ⟨by unfold chunkSizes; rw [running]; rfl, by rw [running]⟩

theorem SameChunks.trans {x y z : Port} (h : SameChunks j x y) (k : SameChunks j y z) : SameChunks j x z :=
  ⟨k.sizes.trans h.sizes, k.running.trans h.running⟩

theorem jobLaw_foldOver_judge (l : List (Fin 32)) (law : JobLaw s) : JobLaw (foldOver l judgeAfterFlush s) := by
  induction l generalizing s with
  | nil => exact law
  | cons i l ih => exact ih (jobLaw_of_source law (judgeAfterFlush_sourceActs i s) (judgeAfterFlush_touches i s))

theorem jobLaw_flushSources (law : JobLaw s) : JobLaw (flushSources s) := by
  unfold flushSources
  exact jobLaw_foldOver_judge _ (jobLaw_of_touches law (bs := [.sources, .freeDraws])
    ((setSources_touches _ _).within.trans (setFreeDraws_touches _ _).within))

theorem jobLaw_flushPart (law : JobLaw s) : JobLaw (flushPart s) := by
  have requests : JobLaw (flushRequests s) := jobLaw_of_touches law (flushRequests_touches s)
  have ports : JobLaw (changeEveryPort Port.flush (flushJobs (flushRequests s))) := by
    refine jobLaw_of_same (jobLaw_flushJobs requests) (fun _ => .refl _) fun j p => ?_
    have port : (changeEveryPort Port.flush (flushJobs (flushRequests s))).ports.get p
        = ((flushJobs (flushRequests s)).ports.get p).change Port.flush := Table.get_map _ _ _
    rw [port, change_eq]
    exact (sameChunks_flush _ j).trans (sameChunks_of_chores (noticed_chores _ _) j)
  exact jobLaw_flushSources ports

/-! ## Link down, reset and time -/

theorem linkDown_run (x : JobSlot) : SameRun x x.linkDown := by
  unfold JobSlot.linkDown
  split
  · split <;> exact ⟨rfl, rfl, rfl, rfl, rfl, rfl⟩
  · exact .refl x

theorem acknowledged_run (x : JobSlot) : SameRun x x.acknowledged := by
  unfold JobSlot.acknowledged
  split
  · exact ⟨rfl, rfl, rfl, rfl, rfl, rfl⟩
  · exact .refl x

theorem jobLaw_modJob (law : JobLaw s) {f : JobSlot → JobSlot} (h : ∀ x, SameRun x (f x)) :
    JobLaw (s.modJob j f) := by
  refine jobLaw_of_same law (fun k => ?_) fun k p => .refl k _
  rw [State.modJob_jobs, Table.get_modify]
  split
  · exact h _
  · exact .refl _

theorem jobLaw_linkDownNotices (law : JobLaw s) : JobLaw (linkDownNotices s) := by
  refine jobLaw_of_same law (fun j => ?_) fun j p => ?_
  · have jobs : (linkDownNotices s).jobs.get j = (s.jobs.get j).linkDown := Table.get_map _ _ _
    rw [jobs]
    exact linkDown_run _
  · have ports : (linkDownNotices s).ports.get p = (s.ports.get p).linkDown := Table.get_map _ _ _
    rw [ports]
    unfold Port.linkDown
    split <;> exact sameChunks_of_offers (by rfl) (by rfl) j

theorem jobLaw_goDown (law : JobLaw s) (c : Status) : JobLaw (goDown c s) := by
  have reported : JobLaw (report .linkDown (linkDownDetail c) s) := jobLaw_of_touches law (report_touches _ _ s)
  have link : JobLaw ((report .linkDown (linkDownDetail c) s).modLink Link.down) :=
    jobLaw_of_touches reported (modLink_touches _ _)
  exact jobLaw_linkDownNotices (jobLaw_of_touches (jobLaw_of_touches link (setDirect_touches _ []))
    (linkDownRequests_touches _))

theorem jobLaw_reset (c : ResetCause) (s : State) : JobLaw (resetBlocks c s) := by
  have jobs : ∀ j, (resetBlocks c s).jobs.get j = JobSlot.zero := fun j => Table.get_fill _ _
  refine (jobLaw_iff _).mpr fun j => Resting.law ⟨?_, ?_, ?_, fun p => ?_⟩
  · rw [jobs]
    exact fun d e => nomatch e
  · rw [jobs]
    rfl
  · rw [jobs]
    rfl
  · have port : (resetBlocks c s).ports.get p = Port.atReset s.pins.freeze := Table.get_fill _ _
    have offers : (Port.atReset s.pins.freeze).offers.get j = none := Table.get_fill _ _
    rw [port]
    unfold chunkSizes
    rw [offers]
    rfl

/-- Offered chunks whose lengths stay, and the initiator in progress. -/
theorem sameChunks_of_sizes {x y : Port}
    (offers : (y.offers.get j).map Offer.size = (x.offers.get j).map Offer.size)
    (txn : y.txn.map Txn.initiator = x.txn.map Txn.initiator) : SameChunks j x y := by
  have running : runningChunk j y = runningChunk j x := by rw [runningChunk_eq, runningChunk_eq, txn]
  refine ⟨?_, by rw [running]⟩
  unfold chunkSizes
  rw [running, List.map_append, List.map_append, ← Option.toList_map (o := y.offers.get j),
    ← Option.toList_map (o := x.offers.get j), offers]

theorem sameChunks_tick (x : Port) (j : Fin 4) : SameChunks j x x.tick := by
  refine sameChunks_of_sizes ?_ ?_
  · have offer : x.tick.offers.get j
        = (x.offers.get j).map fun c => { c with holdOff := countDown c.holdOff } := Table.get_map _ _ _
    rw [offer]
    cases x.offers.get j <;> rfl
  · unfold Port.tick
    cases x.txn <;> rfl

theorem jobLaw_tick (law : JobLaw s) : JobLaw (tick s) := by
  unfold tick
  split
  · exact law
  · refine jobLaw_of_same law (fun _ => .refl _) fun j p => ?_
    have port : ∀ u : State, ((u.setPorts (s.ports.map Port.tick)).modLink Link.tick).ports.get p
        = (s.ports.get p).tick := fun _ => Table.get_map _ _ _
    rw [port]
    exact sameChunks_tick _ j

theorem jobLaw_endHoldOff (law : JobLaw s) (item : HoldItem) : JobLaw (endHoldOff item s) := by
  cases item with
  | request i => exact jobLaw_of_touches law (modTag_touches s i _)
  | posted k => exact jobLaw_of_touches law (setSlot_touches s k _)
  | chunk k =>
    refine jobLaw_of_same law (fun _ => .refl _) fun j p => sameChunks_of_sizes ?_ ?_
    · unfold endHoldOff
      dsimp only
      rw [State.setPorts_ports, Table.get_map, Table.get_modify]
      split
      · cases (s.ports.get p).offers.get j <;> rfl
      · rfl
    · unfold endHoldOff
      dsimp only
      rw [State.setPorts_ports, Table.get_map]
  | operation i =>
    refine jobLaw_of_same law (fun _ => .refl _) fun j p => ?_
    unfold endHoldOff
    dsimp only
    rw [State.modPort_ports, Table.get_modify]
    split <;> exact sameChunks_of_offers (by rfl) (by rfl) j

/-! ## Starts and ends at a port -/

theorem jobLaw_startOperation (law : JobLaw s) {p : Fin 4} (op : IrqOp) (idle : (s.ports.get p).txn = none) :
    JobLaw (startOperation p op s) := by
  refine jobLaw_of_same law (fun _ => .refl _) fun j q => ?_
  have port : ∀ f : Port → Port, (s.modPort p f).ports.get q
      = if p = q then f (s.ports.get q) else s.ports.get q := fun f => Table.get_modify _ _ _ _
  have offers : ((startOperation p op s).ports.get q).offers = (s.ports.get q).offers := by
    unfold startOperation
    dsimp only
    rw [startTxn_offers, port]
    split <;> rfl
  have running : runningChunk j ((startOperation p op s).ports.get q) = runningChunk j (s.ports.get q) := by
    rw [runningChunk_eq, runningChunk_eq]
    unfold startOperation
    dsimp only
    rw [startTxn_initiator, port]
    split
    · next e =>
      subst e
      rw [idle]
      rfl
    · rfl
  exact ⟨by unfold chunkSizes; rw [offers, running], by rw [running]⟩

theorem jobLaw_startChoice (law : JobLaw s) {p : Fin 4} {c : Choice} (h : arbiterChoice p s = some c) :
    JobLaw (startChoice p c s) := by
  have idle := txn_of_arbiterChoice h
  cases c with
  | chunk j o => exact jobLaw_startChunk law idle (offer_of_arbiterChoice h)
  | operation op => exact jobLaw_startOperation law op idle
  | lockContinuation l =>
    exact jobLaw_of_chores law (startChoice_touches_plain p (c := .lockContinuation l) trivial s)
      (startChoice_keepsChores idle trivial)
  | host e =>
    exact jobLaw_of_chores law (startChoice_touches_plain p (c := .host e) trivial s)
      (startChoice_keepsChores idle trivial)
  | fill a =>
    exact jobLaw_of_chores law (startChoice_touches_plain p (c := .fill a) trivial s)
      (startChoice_keepsChores idle trivial)

theorem jobLaw_endOperation (law : JobLaw s) {p : Fin 4} {x : Txn} {op : IrqOp}
    (txn : (s.ports.get p).txn = some x) (init : x.initiator = .operation op) (o : BusOutcome) (d : List Byte) :
    JobLaw (endOperation p op x o d s) := by
  have close : JobLaw (closeTxn p none s) := by
    refine jobLaw_of_same law (fun _ => .refl _) fun j q => ?_
    have running : runningChunk j ((closeTxn p none s).ports.get q) = runningChunk j (s.ports.get q) := by
      rw [runningChunk_eq, runningChunk_eq, closeTxn_txn]
      split
      · next e =>
        subst e
        rw [txn]
        show none = carriedChunk j x.initiator
        rw [init]
        rfl
      · rfl
    exact ⟨by unfold chunkSizes; rw [closeTxn_offers, running], by rw [running]⟩
  unfold endOperation
  dsimp only
  split
  · refine jobLaw_of_same close (fun _ => .refl _) fun j q => ?_
    rw [State.modPort_ports, Table.get_modify]
    split
    · exact sameChunks_of_offers (by rfl) (by rfl) j
    · exact .refl _ _
  · exact jobLaw_of_source close (operationEnded_sourceActs _ _ _ _) (operationEnded_touches _ _ _ _)

theorem jobLaw_endTxn (law : JobLaw s) {p : Fin 4} {x : Txn} (txn : (s.ports.get p).txn = some x)
    (o : BusOutcome) (d : List Byte) : JobLaw (endTxn p x o d s) := by
  have tested : ∀ u, JobLaw u → JobLaw (writeTest p x u) := fun u law =>
    jobLaw_of_chores law (writeTest_touches p x u) (keepsChores_writeTest p x u)
  have plain : IsPlain x.initiator → JobLaw (endTxn p x o d s) := fun plain =>
    jobLaw_of_chores law (endTxn_touches_plain p plain o d s) (endTxn_keepsChores txn plain o d)
  cases init : x.initiator with
  | request i => exact plain (init ▸ isPlain_request i)
  | modifyRead i => exact plain (init ▸ isPlain_modifyRead i)
  | modifyWrite i => exact plain (init ▸ isPlain_modifyWrite i)
  | post k => exact plain (init ▸ isPlain_post k)
  | fill => exact plain (init ▸ isPlain_fill)
  | chunk j c => exact endTxn_chunk p o d s init ▸ tested _ (jobLaw_endChunk law txn init o d)
  | operation op => exact endTxn_operation p o d s init ▸ tested _ (jobLaw_endOperation law txn init o d)

/-! ## Every move keeps the law -/

theorem jobLaw_ports (law : JobLaw s) {x : Table Port 4} (h : ∀ p, SameWork (s.ports.get p) (x.get p)) :
    JobLaw (s.setPorts x) :=
  jobLaw_of_same law (fun _ => .refl _) fun j p => sameChunks_of_offers (h p).offers (by rw [(h p).txn]) j

theorem jobLaw_move (m : Move s t) (law : JobLaw s) : JobLaw t := by
  have slot := (jobLaw_iff s).mp law
  cases m with
  | quiet h => exact jobLaw_of_touches law h
  | reset c => exact jobLaw_reset c s
  | tick => exact jobLaw_tick law
  | down c => exact jobLaw_goDown law c
  | flush => exact jobLaw_flushPart law
  | report k d => exact jobLaw_of_touches law (report_touches k d s)
  | clear b => exact jobLaw_of_touches law (setFaults_touches s _)
  | faultSent _ => exact jobLaw_of_touches law (setFaults_touches s _)
  | faultAck => exact jobLaw_of_touches law (setFaults_touches s _)
  | window i w _ _ => exact jobLaw_of_touches law (setWindows_touches s _)
  | ports x h => exact jobLaw_ports law h
  | start p c h => exact jobLaw_startChoice law h
  | ends p x o d h => exact jobLaw_endTxn law h o d
  | holdOff item => exact jobLaw_endHoldOff law item
  | admitTagged k id body h i ok => exact jobLaw_of_touches law (admitTagged_touches k id body h i s)
  | admitPost body h k ok => exact jobLaw_of_touches law (admitPost_touches body h k s)
  | admitFence id i ok => exact jobLaw_of_touches law (admitFence_touches id i s)
  | abort target => exact jobLaw_of_touches law (abortTarget_touches target s)
  | expire i => exact jobLaw_of_touches law (expireTag_touches i s)
  | release i l h =>
    exact jobLaw_of_touches law ((setReady_touches s l).within.trans (releaseTag_touches i _).within
      (bs := [.ready, .tags]))
  | loadJob j d => exact jobLaw_of_slot law (loadJob_slotActs j d s) (slotLaw_loadJob (slot j) d)
  | startJob j h =>
    exact jobLaw_of_slot law (startJob_slotActs j s)
      (slotLaw_startJob (resting_of_not_started (slot j) (by rw [h]; rfl)))
  | pauseJob j => exact jobLaw_of_slot law (pauseJob_slotActs j s) (slotLaw_pauseJob (slot j))
  | resumeJob j => exact jobLaw_of_slot law (resumeJob_slotActs j s) (slotLaw_resumeJob (slot j))
  | stopJob j => exact jobLaw_of_slot law (stopJob_slotActs j s) (slotLaw_stopJob (slot j))
  | jobSent j => exact jobLaw_modJob law fun _ => ⟨rfl, rfl, rfl, rfl, rfl, rfl⟩
  | jobAck j => exact jobLaw_modJob law acknowledged_run
  | rise i =>
    exact jobLaw_of_source (jobLaw_of_touches law (modSource_touches s i Source.edge))
      (judgeSource_sourceActs i _) (judgeSource_touches i _)
  | irqSet i body _ => exact jobLaw_of_source law (takeIrqSet_sourceActs i body s) (takeIrqSet_touches i body s)
  | mask v i => exact jobLaw_of_source law (maskSource_sourceActs v i s) (maskSource_touches v i s)
  | done i _ => exact jobLaw_of_source law (closeCycle_sourceActs i s) (closeCycle_touches i s)
  | sourceSent i _ => exact jobLaw_of_touches law (modSource_touches s i _)
  | sourceAck i q => exact jobLaw_of_touches law (modSource_touches s i _)

end Sys2Proof.Proofs.JobSlots

/-! # The law of the interrupt sources (06) -/

namespace Sys2Proof.Proofs.InterruptSources

-- One theorem after another: the proofs of this part at once ask for more threads than the check allows.
set_option Elab.async false

open Sys2Proof.Machine Sys2Proof.Safety Sys2Proof.Proofs.Steps Sys2Proof.Proofs.Work
  Sys2Proof.Proofs.RequestTurns Sys2Proof.Proofs.PostedPool Sys2Proof.Proofs.Chores

variable {s t u : State} {i : Fin 32}

/-! ## The law, source by source -/

/-- What the law looks at in an operation: whether it is the acknowledge write, and the mark of a FLUSH. -/
def opKind (op : IrqOp) : Bool × Bool := (op.isWrite, op.flushed)

/-- The operations of source `i` that a port holds, queued or in progress, by their kinds. -/
def opKinds (i : Fin 32) (x : Port) : List (Bool × Bool) :=
  (x.opQueue.filter (fun op => op.source = i) ++ (runningOperation i x).toList).map opKind

/-- No port holds an operation of the source. -/
def NoOperation (i : Fin 32) (s : State) : Prop := ∀ p, opKinds i (s.ports.get p) = []

/-- An operation of this kind belongs to a source in this state. -/
def Suits (st : SourceState) (k : Bool × Bool) : Prop :=
  (st = .fetching ∧ k = (false, false)) ∨ (st = .acking ∧ k = (true, false)) ∨ (st = .idle ∧ k.2 = true)

/-- What the law says of the source's own record. -/
structure CycleLaw (x : Source) : Prop where
  asking : x.state = .fetching ∨ x.state = .acking → x.inFlight = true
  enabled : x.state ≠ .idle → x.state ≠ .fetching → x.enabled = true
  latch : x.trigger = .level → x.latch = false
  sent : x.sentCount.isSome = true ↔ x.state = .sent

/-- Operation in flight says whether the source's own port holds an operation, which suits its state. -/
def Holding (x : Source) (l : List (Bool × Bool)) : Prop :=
  (x.inFlight = false ∧ l = []) ∨ (x.inFlight = true ∧ ∃ k, l = [k] ∧ Suits x.state k)

theorem Holding.same {x y : Source} {l : List (Bool × Bool)} (h : Holding x l) (flight : y.inFlight = x.inFlight)
    (state : y.state = x.state) : Holding y l := by
  unfold Holding
  rw [flight, state]
  exact h

theorem Holding.quiet {x y : Source} {l : List (Bool × Bool)} (h : Holding x l) (before : x.inFlight = false)
    (after : y.inFlight = false) : Holding y l := by
  rcases h with ⟨-, nil⟩ | ⟨flight, -⟩
  · exact .inl ⟨after, nil⟩
  · rw [before] at flight
    cases flight

/-- The law of one source. -/
structure SourceFits (i : Fin 32) (s : State) : Prop where
  cycle : CycleLaw (s.sources.get i)
  elsewhere : ∀ p, p ≠ portOfSource i → opKinds i (s.ports.get p) = []
  holding : Holding (s.sources.get i) (opKinds i (s.ports.get (portOfSource i)))

theorem flatMap_single {α β : Type} {f : α → List β} {x : α} {l : List α} (nodup : l.Nodup) (mem : x ∈ l)
    (others : ∀ y, y ≠ x → f y = []) : l.flatMap f = f x := by
  induction l with
  | nil => cases mem
  | cons y l ih =>
    rw [List.flatMap_cons]
    by_cases e : y = x
    · subst e
      have rest : l.flatMap f = [] := List.flatMap_eq_nil_iff.mpr fun z hz =>
        others z fun e => (List.nodup_cons.mp nodup).1 (e ▸ hz)
      rw [rest, List.append_nil]
    · rw [others y e, List.nil_append]
      exact ih (List.nodup_cons.mp nodup).2 ((List.mem_cons.mp mem).resolve_left (Ne.symm e))

theorem opKinds_nil_iff (i : Fin 32) (x : Port) :
    opKinds i x = [] ↔ (∀ op ∈ x.opQueue, op.source ≠ i) ∧ runningOperation i x = none := by
  unfold opKinds
  rw [List.map_eq_nil_iff, List.append_eq_nil_iff, List.filter_eq_nil_iff, Option.toList_eq_nil_iff]
  simp

theorem kinds_operationsOf (s : State) (i : Fin 32)
    (elsewhere : ∀ p, p ≠ portOfSource i → opKinds i (s.ports.get p) = []) :
    (operationsOf s i).map opKind = opKinds i (s.ports.get (portOfSource i)) := by
  unfold operationsOf
  rw [List.map_flatMap]
  exact flatMap_single (f := fun p => opKinds i (s.ports.get p)) Table.nodup_indices (Table.mem_indices _) elsewhere

theorem suits_opKind (st : SourceState) (op : IrqOp) : Suits st (opKind op)
    ↔ (st = .fetching ∧ op.isWrite = false ∧ op.flushed = false)
      ∨ (st = .acking ∧ op.isWrite = true ∧ op.flushed = false) ∨ (st = .idle ∧ op.flushed = true) := by
  unfold Suits opKind
  rw [Prod.mk.injEq, Prod.mk.injEq]

theorem sourceLaw_iff (s : State) : SourceLaw s ↔ ∀ i, SourceFits i s := by
  constructor
  · intro law i
    have elsewhere : ∀ p, p ≠ portOfSource i → opKinds i (s.ports.get p) = [] := fun p ne =>
      (opKinds_nil_iff i _).mpr (law.home i p fun e => ne (Fin.ext e.symm))
    refine ⟨⟨law.asking i, law.enabled i, law.latch i, law.sent i⟩, elsewhere, ?_⟩
    have kinds := kinds_operationsOf s i elsewhere
    have one := law.one i
    unfold Holding
    rw [← kinds]
    cases flight : (s.sources.get i).inFlight with
    | false =>
      rw [flight, if_neg (by simp)] at one
      exact .inl ⟨rfl, by rw [List.length_eq_zero_iff.mp one]; rfl⟩
    | true =>
      rw [flight, if_pos rfl] at one
      obtain ⟨op, hop⟩ := List.length_eq_one_iff.mp one
      refine .inr ⟨rfl, opKind op, by rw [hop]; rfl, ?_⟩
      rw [suits_opKind]
      exact law.kind i op (by rw [hop]; exact List.mem_singleton_self op)
  · intro law
    have kinds := fun i => kinds_operationsOf s i (law i).elsewhere
    refine ⟨fun i => ?_, fun i p ne => ?_, fun i op mem => ?_, fun i => (law i).cycle.asking,
      fun i => (law i).cycle.enabled, fun i => (law i).cycle.latch, fun i => (law i).cycle.sent⟩
    · rw [← List.length_map (f := opKind), kinds i]
      rcases (law i).holding with ⟨flight, nil⟩ | ⟨flight, k, one, -⟩
      · rw [flight, nil]
        rfl
      · rw [flight, one]
        rfl
    · exact (opKinds_nil_iff i _).mp ((law i).elsewhere p fun e => ne (by rw [e]; rfl))
    · have mem' := List.mem_map_of_mem (f := opKind) mem
      rw [kinds i] at mem'
      rw [← suits_opKind]
      rcases (law i).holding with ⟨-, nil⟩ | ⟨-, k, one, suits⟩
      · rw [nil] at mem'
        cases mem'
      · rw [one] at mem'
        exact List.mem_singleton.mp mem' ▸ suits

/-! ## What the law does not look at -/

theorem sourceFits_of_same (law : SourceFits i s) (source : t.sources.get i = s.sources.get i)
    (ports : ∀ p, opKinds i (t.ports.get p) = opKinds i (s.ports.get p)) : SourceFits i t where
  cycle := source ▸ law.cycle
  elsewhere p ne := (ports p).trans (law.elsewhere p ne)
  holding := by rw [source, ports]; exact law.holding

theorem sourceLaw_of_same (law : SourceLaw s) (sources : t.sources = s.sources)
    (ports : ∀ i p, opKinds i (t.ports.get p) = opKinds i (s.ports.get p)) : SourceLaw t :=
  (sourceLaw_iff t).mpr fun i =>
    sourceFits_of_same ((sourceLaw_iff s).mp law i) (by rw [sources]) (ports i)

theorem opKinds_of_chores {x y : Port} (h : SameChores x y) (i : Fin 32) : opKinds i y = opKinds i x := by
  unfold opKinds
  rw [h.opQueue, h.operation]

/-- A port changed in its offers, or in parts of its transaction other than the initiator. -/
theorem opKinds_of_queue {x y : Port} (opQueue : y.opQueue = x.opQueue)
    (txn : y.txn.map Txn.initiator = x.txn.map Txn.initiator) (i : Fin 32) : opKinds i y = opKinds i x := by
  unfold opKinds
  rw [opQueue, runningOperation_eq, runningOperation_eq, txn]

theorem sourceLaw_of_chores {bs : List Block} (law : SourceLaw s) (h : Touches bs s t) (k : KeepsChores s t)
    (ns : Block.sources ∉ bs := by simp) : SourceLaw t :=
  sourceLaw_of_same law (h.sources ns) fun i p => opKinds_of_chores (k p) i

theorem sourceLaw_of_touches {bs : List Block} (law : SourceLaw s) (h : Touches bs s t)
    (ns : Block.sources ∉ bs := by simp) (np : Block.ports ∉ bs := by simp) : SourceLaw t :=
  sourceLaw_of_chores law h (keepsChores_of_touches h np) ns

theorem sourceLaw_of_slot {bs : List Block} {j : Fin 4} (law : SourceLaw s) (h : SlotActs j s t)
    (touches : Touches bs s t) (ns : Block.sources ∉ bs := by simp) : SourceLaw t :=
  sourceLaw_of_same law (touches.sources ns) fun i p => by
    obtain ⟨o, ho⟩ := h.ports p
    exact opKinds_of_queue (by rw [ho]) (by rw [ho]) i

/-! ## One source acts -/

theorem opKinds_of_source {k : Fin 32} (h : SourceActs i s t) (ne : k ≠ i) (p : Fin 4) :
    opKinds k (t.ports.get p) = opKinds k (s.ports.get p) := by
  obtain ⟨l, own, hl⟩ := h.ports p
  have none_ : l.filter (fun op => op.source = k) = [] := List.filter_eq_nil_iff.mpr fun op mem => by
    simpa using (own op mem).1.trans_ne (Ne.symm ne)
  have queue : (t.ports.get p).opQueue.filter (fun op => op.source = k)
      = (s.ports.get p).opQueue.filter (fun op => op.source = k) := by
    rw [hl, List.filter_append, none_, List.append_nil]
  have running : runningOperation k (t.ports.get p) = runningOperation k (s.ports.get p) := by
    rw [runningOperation_eq, runningOperation_eq, h.txn]
  unfold opKinds
  rw [queue, running]

/-- The law of the other sources is kept; that of the source itself is what is to show. -/
theorem sourceLaw_of_others (law : ∀ k, k ≠ i → SourceFits k s) (h : SourceActs i s t)
    (self : SourceFits i t) : SourceLaw t := by
  rw [sourceLaw_iff]
  intro k
  by_cases e : k = i
  · exact e ▸ self
  · exact sourceFits_of_same (law k e) (h.sources k e) (opKinds_of_source h e)

theorem sourceLaw_of_source (law : SourceLaw s) (h : SourceActs i s t) (self : SourceFits i t) : SourceLaw t :=
  sourceLaw_of_others (fun k _ => (sourceLaw_iff s).mp law k) h self

theorem modSource_get (i : Fin 32) (f : Source → Source) (s : State) :
    (s.modSource i f).sources.get i = f (s.sources.get i) := Table.get_modify_self _ _ _

/-- A source with no operation at the ports. -/
theorem sourceFits_of_none (cycle : CycleLaw (s.sources.get i)) (flight : (s.sources.get i).inFlight = false)
    (none_ : NoOperation i s) : SourceFits i s :=
  ⟨cycle, fun p _ => none_ p, .inl ⟨flight, none_ _⟩⟩

/-- A source with no operation in flight has none at the ports. -/
theorem SourceFits.none (law : SourceFits i s) (h : (s.sources.get i).inFlight = false) : NoOperation i s := fun p => by
  by_cases e : p = portOfSource i
  · subst e
    rcases law.holding with ⟨-, nil⟩ | ⟨flight, -⟩
    · exact nil
    · rw [h] at flight
      cases flight
  · exact law.elsewhere p e

/-- A state that no operation suits. -/
theorem SourceFits.not_inFlight (law : SourceFits i s) (fetching : (s.sources.get i).state ≠ .fetching)
    (acking : (s.sources.get i).state ≠ .acking) (idle : (s.sources.get i).state ≠ .idle) :
    (s.sources.get i).inFlight = false := by
  rcases law.holding with ⟨flight, -⟩ | ⟨-, k, -, suits⟩
  · exact flight
  · rcases suits with ⟨e, -⟩ | ⟨e, -⟩ | ⟨e, -⟩
    · exact absurd e fetching
    · exact absurd e acking
    · exact absurd e idle

/-- A change of the source's record. -/
theorem sourceFits_modSource (law : SourceFits i s) {f : Source → Source}
    (cycle : CycleLaw (f (s.sources.get i)))
    (holding : ∀ l, Holding (s.sources.get i) l → Holding (f (s.sources.get i)) l) :
    SourceFits i (s.modSource i f) where
  cycle := by rw [modSource_get]; exact cycle
  elsewhere := law.elsewhere
  holding := by rw [modSource_get]; exact holding _ law.holding

/-- A change of the source's record while it has no operation. -/
theorem sourceFits_modSource_none (none_ : NoOperation i s) {f : Source → Source}
    (cycle : CycleLaw (f (s.sources.get i))) (flight : (f (s.sources.get i)).inFlight = false) :
    SourceFits i (s.modSource i f) :=
  sourceFits_of_none (by rw [modSource_get]; exact cycle) (by rw [modSource_get]; exact flight) none_

/-! ### Asking for an operation -/

theorem askPort_source (i : Fin 32) (w : Bool) (a : Word) (n : Nat) (v : Word) (s : State) :
    (askPort i w a n v s).sources.get i = { s.sources.get i with inFlight := true } := Table.get_modify_self _ _ _

theorem askPort_port (i : Fin 32) (w : Bool) (a : Word) (n : Nat) (v : Word) (s : State) (p : Fin 4) :
    (askPort i w a n v s).ports.get p = if portOfSource i = p then
        { s.ports.get p with
          opQueue := (s.ports.get p).opQueue ++ [⟨i, w, a, n, v, 0, none, s.nextPlace, false⟩] }
      else s.ports.get p := Table.get_modify _ _ _ _

theorem sourceFits_askPort (none_ : NoOperation i s) {w : Bool}
    (suits : Suits (s.sources.get i).state (w, false)) (a : Word) (n : Nat) (v : Word)
    (cycle : CycleLaw { s.sources.get i with inFlight := true }) : SourceFits i (askPort i w a n v s) where
  cycle := by rw [askPort_source]; exact cycle
  elsewhere p ne := by rw [askPort_port, if_neg (Ne.symm ne)]; exact none_ p
  holding := by
    obtain ⟨queue, running⟩ := (opKinds_nil_iff i _).mp (none_ (portOfSource i))
    rw [askPort_source, askPort_port, if_pos rfl]
    refine .inr ⟨rfl, (w, false), ?_, suits⟩
    have running' : ∀ l, runningOperation i { s.ports.get (portOfSource i) with opQueue := l } = none := fun l => by
      rw [runningOperation_eq] at running ⊢
      exact running
    have queue' : (s.ports.get (portOfSource i)).opQueue.filter (fun op => op.source = i) = [] :=
      List.filter_eq_nil_iff.mpr fun op mem => by simpa using queue op mem
    unfold opKinds
    rw [running', List.filter_append, queue']
    simp [opKind]

/-- A cycle that goes on: the source is enabled and has no operation, its latch is clear and no frame of it
is on its way. -/
theorem sourceFits_fetchOrDue (none_ : NoOperation i s) (flight : (s.sources.get i).inFlight = false)
    (enabled : (s.sources.get i).enabled = true)
    (latch : (s.sources.get i).trigger = .level → (s.sources.get i).latch = false)
    (sent : (s.sources.get i).sentCount = none) : SourceFits i (fetchOrDue i s) := by
  unfold fetchOrDue
  split
  · refine sourceFits_askPort (s := s.modSource i _) none_ ?_ _ _ _ ?_
    · rw [modSource_get]
      exact .inl ⟨rfl, rfl⟩
    · rw [modSource_get]
      exact ⟨fun _ => rfl, fun _ e => absurd rfl e, latch, by simp [sent]⟩
  · exact sourceFits_modSource_none none_
      ⟨fun e => by simp at e, fun _ _ => enabled, latch, by simp [sent]⟩ flight

theorem CycleLaw.sent_none {x : Source} (law : CycleLaw x) (h : x.state ≠ .sent) : x.sentCount = none := by
  cases e : x.sentCount with
  | none => rfl
  | some c => exact absurd (law.sent.mp (by rw [e]; rfl)) h

/-- A source that is judged keeps its law. -/
theorem sourceFits_judgeSource (law : SourceFits i s) : SourceFits i (judgeSource i s) := by
  unfold judgeSource
  dsimp only
  split
  · next starts =>
    unfold Source.startsCycle at starts
    simp only [Bool.and_eq_true, beq_iff_eq, Bool.not_eq_true'] at starts
    obtain ⟨⟨⟨idle, enabled⟩, -⟩, flight⟩ := starts
    have sent := law.cycle.sent_none (by simp [idle])
    have none_ := law.none flight
    split
    · refine sourceFits_modSource_none (s := s.modSource i _) none_ ?_ ?_ <;> rw [modSource_get]
      · exact ⟨fun e => by simp at e, fun _ _ => enabled, fun _ => rfl, by simp [sent]⟩
      · exact flight
    · refine sourceFits_fetchOrDue (s := s.modSource i _) none_ ?_ ?_ ?_ ?_ <;> rw [modSource_get]
      · exact flight
      · exact enabled
      · exact fun _ => rfl
      · exact sent
  · exact law

/-- A change of fields that the law does not look at. -/
theorem sourceFits_modSource_quiet (law : SourceFits i s) {f : Source → Source}
    (state : (f (s.sources.get i)).state = (s.sources.get i).state)
    (enabled : (f (s.sources.get i)).enabled = (s.sources.get i).enabled)
    (trigger : (f (s.sources.get i)).trigger = (s.sources.get i).trigger)
    (latch : (f (s.sources.get i)).latch = (s.sources.get i).latch)
    (sent : (f (s.sources.get i)).sentCount = (s.sources.get i).sentCount)
    (flight : (f (s.sources.get i)).inFlight = (s.sources.get i).inFlight) : SourceFits i (s.modSource i f) := by
  refine sourceFits_modSource law ⟨?_, ?_, ?_, ?_⟩ fun l => ?_
  · rw [state, flight]; exact law.cycle.asking
  · rw [state, enabled]; exact law.cycle.enabled
  · rw [trigger, latch]; exact law.cycle.latch
  · rw [sent, state]; exact law.cycle.sent
  · unfold Holding
    rw [state, flight]
    exact id

theorem sourceFits_judgeAfterFlush (law : SourceFits i s) : SourceFits i (judgeAfterFlush i s) := by
  unfold judgeAfterFlush
  dsimp only
  split
  · exact sourceFits_modSource_quiet (sourceFits_judgeSource law) rfl rfl rfl rfl rfl rfl
  · exact sourceFits_judgeSource law

/-! ### The requests and the lines -/

theorem sourceFits_edge (law : SourceFits i s) : SourceFits i (s.modSource i Source.edge) := by
  unfold Source.edge
  refine sourceFits_modSource law ?_ fun l => ?_
  · split
    · next edge =>
      simp only [Bool.and_eq_true, beq_iff_eq] at edge
      refine ⟨law.cycle.asking, law.cycle.enabled, fun e => ?_, law.cycle.sent⟩
      rw [show (s.sources.get i).trigger = .level from e] at edge
      cases edge.2
    · exact law.cycle
  · split <;> exact id

theorem sourceFits_takeIrqSet (law : SourceFits i s) {body : List Byte}
    (ok : irqSetStatus (s.sources.get i) body = .ok) : SourceFits i (takeIrqSet i body s) := by
  unfold irqSetStatus at ok
  unfold takeIrqSet
  have sent := law.cycle.sent
  split
  · next on =>
    rw [if_pos on] at ok
    have state : (s.sources.get i).state = .idle ∨ (s.sources.get i).state = .pending := by
      cases e : (s.sources.get i).state <;> simp [e] at ok ⊢
    refine sourceFits_judgeSource (sourceFits_modSource law ⟨?_, ?_, ?_, sent⟩ fun l h => h)
    · exact law.cycle.asking
    · exact fun _ _ => on
    · intro level
      unfold Source.configure
      dsimp only at level ⊢
      rw [if_pos]
      rw [show triggerOf (u8 body 2) = .level from level]
      simp
  · next off =>
    rw [if_neg off] at ok
    have cleared : (Source.configure (s.sources.get i) body).latch = false := by
      unfold Source.configure
      dsimp only
      rw [if_pos]
      rw [Bool.not_eq_true] at off
      rw [off]
      rfl
    have flight : (s.sources.get i).state = .pending ∨ (s.sources.get i).state = .due →
        (s.sources.get i).inFlight = false := fun e =>
      law.not_inFlight (by rcases e with e | e <;> simp [e]) (by rcases e with e | e <;> simp [e])
        (by rcases e with e | e <;> simp [e])
    refine sourceFits_modSource law ⟨?_, ?_, fun _ => cleared, ?_⟩ fun l h => ?_
    · intro asks
      refine law.cycle.asking ?_
      unfold Source.disabledState at asks
      cases e : (s.sources.get i).state <;> simp [e] at ok asks ⊢
    · intro idle fetching
      unfold Source.disabledState at idle fetching
      cases e : (s.sources.get i).state <;> simp [e] at ok idle fetching
    · show (s.sources.get i).sentCount.isSome = true ↔ (s.sources.get i).disabledState = .sent
      unfold Source.disabledState
      rw [sent]
      cases e : (s.sources.get i).state <;> simp [e] at ok ⊢
    · cases e : (s.sources.get i).state <;> simp only [e] at ok
      case idle => exact h.same rfl (by simp [Source.disabledState, e])
      case fetching => exact h.same rfl (by simp [Source.disabledState, e])
      case pending => exact h.quiet (flight (.inl e)) (flight (.inl e))
      case due => exact h.quiet (flight (.inr e)) (flight (.inr e))
      all_goals cases ok

theorem sourceFits_maskSource (law : SourceFits i s) (v : Bool) : SourceFits i (maskSource v i s) := by
  have masked : SourceFits i (s.modSource i fun x => { x with masked := v }) :=
    sourceFits_modSource_quiet law rfl rfl rfl rfl rfl rfl
  have same : (s.modSource i fun x => { x with masked := v }).sources.get i = { s.sources.get i with masked := v } :=
    modSource_get _ _ _
  have quiet : (s.sources.get i).state = .due ∨ (s.sources.get i).state = .pending →
      (s.sources.get i).inFlight = false ∧ (s.sources.get i).enabled = true
        ∧ (s.sources.get i).sentCount = none := fun e => by
    rcases e with e | e <;>
      exact ⟨law.not_inFlight (by simp [e]) (by simp [e]) (by simp [e]), law.cycle.enabled (by simp [e]) (by simp [e]),
        law.cycle.sent_none (by simp [e])⟩
  unfold maskSource
  dsimp only
  split
  · next due =>
    obtain ⟨flight, enabled, sent⟩ := quiet (.inl due)
    refine sourceFits_modSource_none (s := s.modSource i _) (law.none flight) ?_ ?_ <;> rw [same]
    · exact ⟨fun e => by simp at e, fun _ _ => enabled, law.cycle.latch, by simp [sent]⟩
    · exact flight
  · exact sourceFits_judgeSource masked
  · next pending =>
    obtain ⟨flight, enabled, sent⟩ := quiet (.inr pending)
    refine sourceFits_fetchOrDue (s := s.modSource i _) (law.none flight) ?_ ?_ ?_ ?_ <;> rw [same]
    · exact flight
    · exact enabled
    · exact law.cycle.latch
    · exact sent
  · exact masked

theorem sourceFits_closeCycle (law : SourceFits i s) (h : (s.sources.get i).state = .notified) :
    SourceFits i (closeCycle i s) := by
  have flight := law.not_inFlight (by simp [h]) (by simp [h]) (by simp [h])
  have sent := law.cycle.sent_none (by simp [h])
  unfold closeCycle
  split
  · refine sourceFits_askPort (s := s.modSource i _) (law.none flight) ?_ _ _ _ ?_ <;> rw [modSource_get]
    · exact .inr (.inl ⟨rfl, rfl⟩)
    · exact ⟨fun _ => rfl, fun _ _ => law.cycle.enabled (by simp [h]) (by simp [h]), law.cycle.latch, by simp [sent]⟩
  · exact sourceFits_judgeSource (sourceFits_modSource_none (law.none flight)
      ⟨fun e => by simp at e, fun e => absurd rfl e, law.cycle.latch, by simp [sent]⟩ flight)

theorem sourceFits_sent (law : SourceFits i s) (h : (s.sources.get i).state = .due) (q : Seq) :
    SourceFits i (s.modSource i fun x =>
      { x with state := .sent, sentCount := some x.coalesced, coalesced := 0, noticeSeq := some q }) :=
  sourceFits_modSource_none
    (law.none (law.not_inFlight (by simp [h]) (by simp [h]) (by simp [h])))
    ⟨fun e => by simp at e, fun _ _ => law.cycle.enabled (by simp [h]) (by simp [h]), law.cycle.latch, by simp⟩
    (law.not_inFlight (by simp [h]) (by simp [h]) (by simp [h]))

theorem sourceFits_acknowledged (law : SourceFits i s) (q : Seq) :
    SourceFits i (s.modSource i (Source.acknowledged q)) := by
  by_cases h : ((s.sources.get i).state == .sent && (s.sources.get i).noticeSeq == some q) = true
  · have acked : (s.sources.get i).acknowledged q
        = { s.sources.get i with state := .notified, sentCount := none, noticeSeq := none } := if_pos h
    have sent : (s.sources.get i).state = .sent := by simp at h; exact h.1
    have flight := law.not_inFlight (by simp [sent]) (by simp [sent]) (by simp [sent])
    refine sourceFits_modSource_none (law.none flight) ?_ ?_ <;> rw [acked]
    · exact ⟨fun e => by simp at e, fun _ _ => law.cycle.enabled (by simp [sent]) (by simp [sent]), law.cycle.latch, by simp⟩
    · exact flight
  · have acked : (s.sources.get i).acknowledged q = s.sources.get i := if_neg h
    refine sourceFits_modSource law ?_ fun l => ?_ <;> rw [acked]
    · exact law.cycle
    · exact id

/-! ### An operation ends -/

section

variable {op : IrqOp} (cycle : CycleLaw (s.sources.get op.source)) (none_ : NoOperation op.source s)
  (suits : Suits (s.sources.get op.source).state (opKind op))

include cycle none_ suits

theorem sourceFits_vectorReadEnded (read : op.isWrite = false) (unmarked : op.flushed = false) (st : Status)
    (d : List Byte) : SourceFits op.source (vectorReadEnded op st d s) := by
  have fetching : (s.sources.get op.source).state = .fetching := by
    rw [suits_opKind] at suits
    simpa [read, unmarked] using suits
  have ended : ∀ v, SourceFits op.source (s.modSource op.source fun x =>
      { x with inFlight := false, vecStatus := some st, vecValue := v, state := x.afterFetch }) := by
    intro v
    refine sourceFits_modSource_none none_ ⟨?_, ?_, cycle.latch, ?_⟩ rfl <;> dsimp only <;>
      unfold Source.afterFetch
    · cases (s.sources.get op.source).enabled <;> cases (s.sources.get op.source).masked <;> simp
    · cases e : (s.sources.get op.source).enabled <;> simp
    · rw [cycle.sent_none (by simp [fetching])]
      cases (s.sources.get op.source).enabled <;> cases (s.sources.get op.source).masked <;> simp
  unfold vectorReadEnded
  dsimp only
  refine sourceFits_judgeSource ?_
  split
  · exact ended _
  · exact sourceFits_of_same (ended _) (by rfl) fun _ => by rfl

theorem sourceFits_ackWriteEnded (write : op.isWrite = true) (unmarked : op.flushed = false) (st : Status) :
    SourceFits op.source (ackWriteEnded op st s) := by
  have acking : (s.sources.get op.source).state = .acking := by
    rw [suits_opKind] at suits
    simpa [write, unmarked] using suits
  have ended : SourceFits op.source (s.modSource op.source fun x =>
      { x with inFlight := false, ackStatus := some st, state := .idle }) :=
    sourceFits_modSource_none none_ ⟨fun e => by simp at e, fun e => absurd rfl e, cycle.latch,
      by simp [cycle.sent_none (show _ ≠ SourceState.sent by simp [acking])]⟩ rfl
  unfold ackWriteEnded
  dsimp only
  refine sourceFits_judgeSource ?_
  split
  · exact ended
  · exact sourceFits_of_same ended (by rfl) fun _ => by rfl

theorem sourceFits_operationEnded (st : Status) (d : List Byte) :
    SourceFits op.source (operationEnded op st d s) := by
  unfold operationEnded
  split
  · next marked =>
    have idle : (s.sources.get op.source).state = .idle := by
      rw [suits_opKind] at suits
      simpa [marked] using suits
    exact sourceFits_judgeAfterFlush (sourceFits_modSource_none none_
      ⟨fun e => by simp [idle] at e, fun e => absurd idle e, cycle.latch, cycle.sent⟩ rfl)
  · next marked =>
    have unmarked : op.flushed = false := by simpa using marked
    split
    · next write => exact sourceFits_ackWriteEnded cycle none_ suits write unmarked st
    · next read =>
      exact sourceFits_vectorReadEnded cycle none_ suits (by simpa using read) unmarked st d

end

theorem runningOperation_close (i : Fin 32) (p q : Fin 4) (l : Option Lock) (s : State) :
    runningOperation i ((closeTxn p l s).ports.get q)
      = if p = q then none else runningOperation i (s.ports.get q) := by
  rw [runningOperation_eq, closeTxn_txn]
  split
  · rfl
  · rw [runningOperation_eq]

/-- At the end of an operation its source has none left, and the other sources keep their law. -/
theorem of_closeOperation (law : SourceLaw s) {p : Fin 4} {x : Txn} {op : IrqOp}
    (txn : (s.ports.get p).txn = some x) (init : x.initiator = .operation op) :
    NoOperation op.source (closeTxn p none s) ∧ p = portOfSource op.source
      ∧ (s.sources.get op.source).inFlight = true ∧ Suits (s.sources.get op.source).state (opKind op)
      ∧ ∀ k, k ≠ op.source → SourceFits k (closeTxn p none s) := by
  rw [sourceLaw_iff] at law
  have run : ∀ k, runningOperation k (s.ports.get p) = if op.source = k then some op else none := fun k => by
    rw [runningOperation_eq, txn]
    show carriedOperation k x.initiator = _
    rw [init]
    rfl
  have own := law op.source
  have here : p = portOfSource op.source := by
    by_contra ne
    have := ((opKinds_nil_iff _ _).mp (own.elsewhere p ne)).2
    rw [run, if_pos rfl] at this
    cases this
  subst here
  have holds : opKinds op.source (s.ports.get (portOfSource op.source))
      = ((s.ports.get (portOfSource op.source)).opQueue.filter fun o => o.source = op.source).map opKind
        ++ [opKind op] := by
    unfold opKinds
    rw [run, if_pos rfl, List.map_append]
    rfl
  rcases own.holding with ⟨-, nil⟩ | ⟨flight, k, one, suits⟩
  · rw [holds] at nil
    simp at nil
  · rw [holds] at one
    obtain ⟨queue, kind⟩ : ((s.ports.get (portOfSource op.source)).opQueue.filter
        fun o => o.source = op.source).map opKind = [] ∧ opKind op = k := by
      cases e : ((s.ports.get (portOfSource op.source)).opQueue.filter fun o => o.source = op.source).map opKind with
      | nil => rw [e] at one; exact ⟨rfl, by simpa using one⟩
      | cons a l => rw [e] at one; simp at one
    refine ⟨fun q => ?_, rfl, flight, kind ▸ suits, fun k ne => sourceFits_of_same (law k) rfl fun q => ?_⟩
    · unfold opKinds
      rw [closeTxn_opQueue, runningOperation_close]
      split
      · next e => rw [← e]; simpa using queue
      · next ne => exact own.elsewhere q (Ne.symm ne)
    · unfold opKinds
      rw [closeTxn_opQueue, runningOperation_close]
      split
      · next e => rw [← e, run, if_neg (Ne.symm ne)]
      · rfl

theorem filter_insertByKey {α : Type} (key : α → Nat) (x : α) (l : List α) (f : α → Bool) :
    (f x = false → (insertByKey key x l).filter f = l.filter f)
      ∧ (f x = true → l.filter f = [] → (insertByKey key x l).filter f = [x]) := by
  obtain ⟨pre, post, hl, hx, -, -⟩ := insertByKey_split key x l
  rw [hx, hl, List.filter_append, List.filter_append, List.filter_cons]
  constructor
  · intro no
    rw [no]
    rfl
  · intro yes nil
    obtain ⟨left, right⟩ := List.append_eq_nil_iff.mp nil
    rw [yes, left, right]
    rfl

theorem sourceLaw_endOperation (law : SourceLaw s) {p : Fin 4} {x : Txn} {op : IrqOp}
    (txn : (s.ports.get p).txn = some x) (init : x.initiator = .operation op) (o : BusOutcome) (d : List Byte) :
    SourceLaw (endOperation p op x o d s) := by
  have cycle : CycleLaw (s.sources.get op.source) := ((sourceLaw_iff s).mp law op.source).cycle
  obtain ⟨none_, here, flight, suits, others⟩ := of_closeOperation law txn init
  unfold endOperation
  dsimp only
  split
  · rw [sourceLaw_iff]
    intro k
    have port : ∀ q, opKinds k (((closeTxn p none s).modPort p fun y => { y with
          opQueue := insertByKey IrqOp.place { op with retries := op.retries + 1, holdOff := some x.holdOff }
            y.opQueue }).ports.get q)
        = if p = q ∧ op.source = k then [opKind op] else opKinds k ((closeTxn p none s).ports.get q) := by
      intro q
      have split_ := filter_insertByKey IrqOp.place
        { op with retries := op.retries + 1, holdOff := some x.holdOff }
        ((closeTxn p none s).ports.get q).opQueue (fun o => o.source = k)
      have running : ∀ l, runningOperation k { (closeTxn p none s).ports.get q with opQueue := l }
          = runningOperation k ((closeTxn p none s).ports.get q) := fun l => by
        rw [runningOperation_eq, runningOperation_eq]
      rw [State.modPort_ports, Table.get_modify]
      by_cases e : p = q
      · rw [if_pos e]
        unfold opKinds
        rw [running]
        by_cases mine : op.source = k
        · have nil := (opKinds_nil_iff _ _).mp (none_ q)
          rw [mine] at nil
          rw [if_pos ⟨e, mine⟩, nil.2, split_.2 (by simpa using mine)
            (List.filter_eq_nil_iff.mpr fun o mem => by simpa using nil.1 o mem)]
          rfl
        · rw [if_neg (by simp [mine]), split_.1 (by simpa using mine)]
      · rw [if_neg e, if_neg (by simp [e])]
    by_cases mine : op.source = k
    · subst mine
      refine ⟨cycle, fun q ne => ?_, ?_⟩
      · rw [port, if_neg (fun e => ne (e.1.symm.trans here))]
        exact none_ q
      · rw [port, if_pos ⟨here, rfl⟩]
        exact .inr ⟨flight, _, rfl, suits⟩
    · refine sourceFits_of_same (others k (Ne.symm mine)) rfl fun q => ?_
      rw [port, if_neg (by simp [mine])]
  · exact sourceLaw_of_others others (operationEnded_sourceActs _ _ _ _)
      (sourceFits_operationEnded (s := closeTxn p none s) cycle none_ suits _ _)

/-! ### An operation starts -/

theorem startOperation_opQueue (p q : Fin 4) (op : IrqOp) (s : State) :
    ((startOperation p op s).ports.get q).opQueue
      = if p = q then (s.ports.get q).opQueue.filter (fun o => o != op) else (s.ports.get q).opQueue := by
  have port : (s.modPort p fun x => { x with opQueue := x.opQueue.filter fun o => o != op }).ports.get q
      = if p = q then { s.ports.get q with opQueue := (s.ports.get q).opQueue.filter fun o => o != op }
        else s.ports.get q := Table.get_modify _ _ _ _
  unfold startOperation
  dsimp only
  rw [startTxn_opQueue, port]
  split <;> rfl

theorem startOperation_running {p : Fin 4} (idle : (s.ports.get p).txn = none) (i : Fin 32) (q : Fin 4) (op : IrqOp) :
    runningOperation i ((startOperation p op s).ports.get q)
      = if p = q ∧ op.source = i then some op else runningOperation i (s.ports.get q) := by
  have port : (s.modPort p fun x => { x with opQueue := x.opQueue.filter fun o => o != op }).ports.get q
      = if p = q then { s.ports.get q with opQueue := (s.ports.get q).opQueue.filter fun o => o != op }
        else s.ports.get q := Table.get_modify _ _ _ _
  have start : ((startOperation p op s).ports.get q).txn.map Txn.initiator
      = if p = q then some (.operation op) else (s.ports.get q).txn.map Txn.initiator := by
    unfold startOperation
    dsimp only
    rw [startTxn_initiator, port]
    split <;> rfl
  rw [runningOperation_eq, start, runningOperation_eq]
  by_cases e : p = q
  · subst e
    rw [if_pos rfl, idle]
    by_cases mine : op.source = i <;> simp [carriedOperation, mine]
  · rw [if_neg e, if_neg (by simp [e])]

theorem sourceLaw_startOperation (law : SourceLaw s) {p : Fin 4} {op : IrqOp} (idle : (s.ports.get p).txn = none)
    (queued : op ∈ (s.ports.get p).opQueue) : SourceLaw (startOperation p op s) := by
  refine sourceLaw_of_same law rfl fun i q => ?_
  have law := (sourceLaw_iff s).mp law i
  unfold opKinds
  rw [startOperation_opQueue, startOperation_running idle]
  by_cases e : p = q
  · subst e
    rw [if_pos rfl, List.filter_filter]
    by_cases mine : op.source = i
    · have here : p = portOfSource i := by
        by_contra ne
        exact ((opKinds_nil_iff i _).mp (law.elsewhere p ne)).1 op queued mine
      have running : runningOperation i (s.ports.get p) = none := by rw [runningOperation_eq, idle]; rfl
      have one : (s.ports.get p).opQueue.filter (fun o => o.source = i) = [op] := by
        have mem : op ∈ (s.ports.get p).opQueue.filter (fun o => o.source = i) :=
          List.mem_filter.mpr ⟨queued, by simpa using mine⟩
        have length : ((s.ports.get p).opQueue.filter (fun o => o.source = i)).length ≤ 1 := by
          have holding := law.holding
          rw [← here] at holding
          unfold opKinds at holding
          rw [running] at holding
          rcases holding with ⟨-, nil⟩ | ⟨-, k, single, -⟩
          · simpa using Nat.le_of_eq (congrArg List.length nil) |>.trans (Nat.zero_le 1)
          · simpa using Nat.le_of_eq (congrArg List.length single)
        obtain ⟨x, hx⟩ := List.length_eq_one_iff.mp
          (Nat.le_antisymm length (List.length_pos_of_mem mem))
        rw [hx] at mem ⊢
        rw [List.mem_singleton.mp mem]
      have gone : (s.ports.get p).opQueue.filter (fun o => decide (o.source = i) && (o != op)) = [] := by
        have := congrArg (List.filter fun o => o != op) one
        rw [List.filter_filter] at this
        simp only [Bool.and_comm] at this ⊢
        simpa using this
      rw [if_pos ⟨rfl, mine⟩, gone, one, running]
      rfl
    · have same : (s.ports.get p).opQueue.filter (fun o => decide (o.source = i) && (o != op))
          = (s.ports.get p).opQueue.filter (fun o => o.source = i) := by
        refine List.filter_congr fun o _ => ?_
        by_cases h : o.source = i
        · have : o ≠ op := fun e => mine (e ▸ h)
          simp [h, this]
        · simp [h]
      rw [if_neg (by simp [mine]), same]
  · rw [if_neg e, if_neg (by simp [e])]

/-! ### FLUSH -/

/-- An operation that a FLUSH has reached. -/
def marked (op : IrqOp) : IrqOp := { op with flushed := true }

/-- Of the operations a FLUSH leaves the one in progress, marked. -/
theorem runningOperation_flush (i : Fin 32) (x : Port) :
    runningOperation i x.flush = (runningOperation i x).map marked := by
  rw [runningOperation_eq, runningOperation_eq]
  unfold Port.flush
  cases x.txn with
  | none => rfl
  | some q =>
    cases e : q.initiator with
    | operation op => by_cases mine : op.source = i <;> simp [Initiator.flushed, carriedOperation, e, mine, marked]
    | _ => simp [Initiator.flushed, carriedOperation, e]

theorem opQueue_flush (x : Port) : x.flush.opQueue = [] := rfl

theorem operationRunning_eq (s : State) (i : Fin 32) :
    operationRunning s i = (runningOperation i (s.ports.get (portOfSource i))).isSome := by
  unfold operationRunning runningOperation
  cases (s.ports.get (portOfSource i)).txn with
  | none => rfl
  | some q =>
    cases e : q.initiator with
    | operation op => by_cases mine : op.source = i <;> simp [e, mine]
    | _ => simp [e]

theorem sourceLaw_foldOver_judge (l : List (Fin 32)) (law : SourceLaw s) : SourceLaw (foldOver l judgeAfterFlush s) := by
  induction l generalizing s with
  | nil => exact law
  | cons i l ih =>
    exact ih (sourceLaw_of_source law (judgeAfterFlush_sourceActs i s)
      (sourceFits_judgeAfterFlush ((sourceLaw_iff s).mp law i)))

/-- The sources once the ports have emptied their queues: those whose operation is in progress keep it. -/
theorem sourceLaw_flushSources (law : SourceLaw s) (sources : t.sources = s.sources)
    (queue : ∀ p, (t.ports.get p).opQueue = [])
    (running : ∀ i p, runningOperation i (t.ports.get p) = (runningOperation i (s.ports.get p)).map marked) :
    SourceLaw (flushSources t) := by
  unfold flushSources
  refine sourceLaw_foldOver_judge _ (sourceLaw_of_touches (bs := [.freeDraws]) ?_ (setFreeDraws_touches _ _))
  rw [sourceLaw_iff] at law ⊢
  intro i
  have law := law i
  have ports : ∀ p, opKinds i (t.ports.get p)
      = ((runningOperation i (s.ports.get p)).map marked).toList.map opKind := fun p => by
    unfold opKinds
    rw [queue, running]
    rfl
  have source : ∀ h, (t.setSources ⟨(Table.indices 32).map fun i =>
      { (t.sources.get i).flush with inFlight := (t.sources.get i).inFlight && operationRunning t i }, h⟩).sources.get i
      = { (s.sources.get i).flush with
          inFlight := (s.sources.get i).inFlight && operationRunning t i } := fun h => by
    rw [← sources]
    exact Table.get_ofIndices _ _ i
  refine ⟨?_, fun p ne => ?_, ?_⟩
  · rw [source]
    exact ⟨fun e => by simp [Source.flush] at e, fun e => absurd rfl e, fun _ => rfl, by simp [Source.flush]⟩
  · show opKinds i (t.ports.get p) = []
    rw [ports, ((opKinds_nil_iff i _).mp (law.elsewhere p ne)).2]
    rfl
  · rw [source, operationRunning_eq, running]
    show Holding _ (opKinds i (t.ports.get (portOfSource i)))
    rw [ports]
    cases e : runningOperation i (s.ports.get (portOfSource i)) with
    | none => exact .inl ⟨by simp, rfl⟩
    | some op =>
      have flight : (s.sources.get i).inFlight = true := by
        rcases law.holding with ⟨-, nil⟩ | ⟨flight, -⟩
        · rw [((opKinds_nil_iff i _).mp nil).2] at e
          cases e
        · exact flight
      exact .inr ⟨by simp [flight], _, rfl, .inr (.inr ⟨rfl, rfl⟩)⟩

theorem sourceLaw_flushPart (law : SourceLaw s) : SourceLaw (flushPart s) := by
  have port : ∀ p, (changeEveryPort Port.flush (flushJobs (flushRequests s))).ports.get p
      = noticed ((flushJobs (flushRequests s)).ports.get p) ((flushJobs (flushRequests s)).ports.get p).flush :=
    fun p => (Table.get_map _ _ _).trans (change_eq _ _)
  refine sourceLaw_flushSources law ?_ (fun p => ?_) fun i p => ?_
  · have touches : Touches [.pool, .lists, .tags, .ready, .faults, .jobs, .ports] s
        (changeEveryPort Port.flush (flushJobs (flushRequests s))) :=
      (flushRequests_touches s).within.trans ((flushJobs_touches _).within.trans
        (changeEveryPort_touches _ _).within)
    exact touches.sources (by simp)
  · rw [port, (noticed_chores _ _).opQueue, opQueue_flush]
  · rw [port, (noticed_chores _ _).operation, runningOperation_flush]
    congr 1
    have same : ((flushJobs (flushRequests s)).ports.get p).txn = (s.ports.get p).txn := by
      have flushed : (flushJobs (flushRequests s)).ports.get p
          = { (flushRequests s).ports.get p with offers := flushOffers ((flushRequests s).ports.get p).offers } :=
        Table.get_map _ _ _
      rw [flushed, (flushRequests_touches s).ports (by simp)]
    rw [runningOperation_eq, runningOperation_eq, same]

/-! ## Link down, reset and time -/

theorem sourceFits_linkDown {x : Source} {l : List (Bool × Bool)} (cycle : CycleLaw x) (holding : Holding x l) :
    CycleLaw x.linkDown ∧ Holding x.linkDown l := by
  unfold Source.linkDown
  split
  · next sent =>
    have flight : x.inFlight = false := by
      rcases holding with ⟨flight, -⟩ | ⟨-, k, -, suits⟩
      · exact flight
      · unfold Suits at suits
        simp [sent] at suits
    exact ⟨⟨fun e => by simp at e, fun _ _ => cycle.enabled (by simp [sent]) (by simp [sent]), cycle.latch, by simp⟩,
      holding.quiet flight flight⟩
  · exact ⟨cycle, holding⟩

theorem sourceLaw_linkDownNotices (law : SourceLaw s) : SourceLaw (linkDownNotices s) := by
  rw [sourceLaw_iff] at law ⊢
  intro i
  have law := law i
  have ports : ∀ p, opKinds i ((linkDownNotices s).ports.get p) = opKinds i (s.ports.get p) := fun p => by
    have port : (linkDownNotices s).ports.get p = (s.ports.get p).linkDown := Table.get_map _ _ _
    rw [port]
    unfold Port.linkDown
    split <;> exact opKinds_of_queue (by rfl) (by rfl) i
  have source : (linkDownNotices s).sources.get i = (s.sources.get i).linkDown := Table.get_map _ _ _
  obtain ⟨cycle, holding⟩ := sourceFits_linkDown law.cycle law.holding
  exact ⟨source ▸ cycle, fun p ne => (ports p).trans (law.elsewhere p ne), by rw [source, ports]; exact holding⟩

theorem sourceLaw_goDown (law : SourceLaw s) (c : Status) : SourceLaw (goDown c s) := by
  have reported : SourceLaw (report .linkDown (linkDownDetail c) s) := sourceLaw_of_touches law (report_touches _ _ s)
  have link : SourceLaw ((report .linkDown (linkDownDetail c) s).modLink Link.down) :=
    sourceLaw_of_touches reported (modLink_touches _ _)
  exact sourceLaw_linkDownNotices (sourceLaw_of_touches (sourceLaw_of_touches link (setDirect_touches _ []))
    (linkDownRequests_touches _))

theorem sourceLaw_reset (c : ResetCause) (s : State) : SourceLaw (resetBlocks c s) := by
  refine (sourceLaw_iff _).mpr fun i => ?_
  have source : (resetBlocks c s).sources.get i = Source.zero := Table.get_fill _ _
  refine sourceFits_of_none ?_ ?_ fun p => ?_
  · rw [source]
    exact ⟨fun e => by simp [Source.zero] at e, fun e => absurd rfl e, fun _ => rfl, by simp [Source.zero]⟩
  · rw [source]
    rfl
  · have port : (resetBlocks c s).ports.get p = Port.atReset s.pins.freeze := Table.get_fill _ _
    rw [port]
    rfl

/-- A queue whose operations change in fields that the law does not look at. -/
theorem opKinds_mapQueue {x y : Port} {f : IrqOp → IrqOp} (source : ∀ op, (f op).source = op.source)
    (kind : ∀ op, opKind (f op) = opKind op) (opQueue : y.opQueue = x.opQueue.map f)
    (txn : y.txn.map Txn.initiator = x.txn.map Txn.initiator) (i : Fin 32) : opKinds i y = opKinds i x := by
  have running : runningOperation i y = runningOperation i x := by
    rw [runningOperation_eq, runningOperation_eq, txn]
  have filtered : ((x.opQueue.map f).filter fun op => op.source = i)
      = (x.opQueue.filter fun op => op.source = i).map f := by
    rw [List.filter_map]
    congr 1
    refine List.filter_congr fun op _ => ?_
    simp [source]
  have kinds : ∀ l : List IrqOp, (l.map f).map opKind = l.map opKind := fun l => by
    rw [List.map_map]
    exact List.map_congr_left fun op _ => kind op
  unfold opKinds
  rw [running, opQueue, filtered, List.map_append, kinds, List.map_append]

theorem sourceLaw_tick (law : SourceLaw s) : SourceLaw (tick s) := by
  unfold tick
  split
  · exact law
  · refine sourceLaw_of_same law rfl fun i p => ?_
    have port : ∀ u : State, ((u.setPorts (s.ports.map Port.tick)).modLink Link.tick).ports.get p
        = (s.ports.get p).tick := fun _ => Table.get_map _ _ _
    rw [port]
    refine opKinds_mapQueue (f := fun op => { op with holdOff := countDown op.holdOff })
      (fun _ => rfl) (fun _ => rfl) rfl ?_ i
    unfold Port.tick
    cases (s.ports.get p).txn <;> rfl

theorem sourceLaw_endHoldOff (law : SourceLaw s) (item : HoldItem) : SourceLaw (endHoldOff item s) := by
  cases item with
  | request i => exact sourceLaw_of_touches law (modTag_touches s i _)
  | posted k => exact sourceLaw_of_touches law (setSlot_touches s k _)
  | chunk k =>
    refine sourceLaw_of_same law rfl fun i p => ?_
    unfold endHoldOff
    dsimp only
    rw [State.setPorts_ports, Table.get_map]
    exact opKinds_of_queue (by rfl) (by rfl) i
  | operation k =>
    refine sourceLaw_of_same law rfl fun i p => ?_
    unfold endHoldOff
    dsimp only
    rw [State.modPort_ports, Table.get_modify]
    split
    · refine opKinds_mapQueue (f := fun op => if op.source == k then { op with holdOff := none } else op)
        (fun op => ?_) (fun op => ?_) (by rfl) (by rfl) i <;> split <;> rfl
    · rfl

/-! ## Starts and ends at a port -/

theorem sourceLaw_startChunk (law : SourceLaw s) {p : Fin 4} (j : Fin 4) (o : Offer)
    (idle : (s.ports.get p).txn = none) : SourceLaw (startChunk p j o s) := by
  refine sourceLaw_of_same law rfl fun i q => ?_
  have port : ∀ u : State, (u.modPort p fun x => Port.countShare false
      { x with offers := x.offers.set j none, lastSlot := j }).ports.get q
      = if p = q then Port.countShare false
          { u.ports.get q with offers := (u.ports.get q).offers.set j none, lastSlot := j }
        else u.ports.get q := fun u => Table.get_modify _ _ _ _
  have queue : ((startChunk p j o s).ports.get q).opQueue = (s.ports.get q).opQueue := by
    unfold startChunk
    dsimp only
    rw [startTxn_opQueue, State.modJob_ports, port]
    split <;> rfl
  have running : runningOperation i ((startChunk p j o s).ports.get q) = runningOperation i (s.ports.get q) := by
    unfold startChunk
    dsimp only
    rw [runningOperation_eq, startTxn_initiator, State.modJob_ports, port, runningOperation_eq]
    split
    · next e =>
      subst e
      rw [idle]
      rfl
    · rfl
  unfold opKinds
  rw [queue, running]

theorem sourceLaw_startChoice (law : SourceLaw s) {p : Fin 4} {c : Choice} (h : arbiterChoice p s = some c) :
    SourceLaw (startChoice p c s) := by
  have idle := txn_of_arbiterChoice h
  cases c with
  | chunk j o => exact sourceLaw_startChunk law j o idle
  | operation op => exact sourceLaw_startOperation law idle (mem_of_arbiterChoice h)
  | lockContinuation l =>
    exact sourceLaw_of_chores law (startChoice_touches_plain p (c := .lockContinuation l) trivial s)
      (startChoice_keepsChores idle trivial)
  | host e =>
    exact sourceLaw_of_chores law (startChoice_touches_plain p (c := .host e) trivial s)
      (startChoice_keepsChores idle trivial)
  | fill a =>
    exact sourceLaw_of_chores law (startChoice_touches_plain p (c := .fill a) trivial s)
      (startChoice_keepsChores idle trivial)

theorem sourceLaw_endChunk (law : SourceLaw s) {p j : Fin 4} {x : Txn} {c : Offer}
    (txn : (s.ports.get p).txn = some x) (init : x.initiator = .chunk j c) (o : BusOutcome) (d : List Byte) :
    SourceLaw (endChunk p j c x o d s) := by
  have close : SourceLaw (closeTxn p none s) := by
    refine sourceLaw_of_same law rfl fun i q => ?_
    have running : runningOperation i ((closeTxn p none s).ports.get q) = runningOperation i (s.ports.get q) := by
      rw [runningOperation_close]
      split
      · next e =>
        subst e
        rw [runningOperation_eq, txn]
        show none = carriedOperation i x.initiator
        rw [init]
        rfl
      · rfl
    unfold opKinds
    rw [closeTxn_opQueue, running]
  unfold endChunk
  dsimp only
  split
  · exact sourceLaw_of_slot close (offerChunk_slotActs _ _ _ _) (offerChunk_touches _ _ _ _)
  · exact sourceLaw_of_slot close (chunkEnded_slotActs _ _ _ _ _ _) (chunkEnded_touches _ _ _ _ _ _)

theorem sourceLaw_endTxn (law : SourceLaw s) {p : Fin 4} {x : Txn} (txn : (s.ports.get p).txn = some x)
    (o : BusOutcome) (d : List Byte) : SourceLaw (endTxn p x o d s) := by
  have tested : ∀ u, SourceLaw u → SourceLaw (writeTest p x u) := fun u law =>
    sourceLaw_of_chores law (writeTest_touches p x u) (keepsChores_writeTest p x u)
  have plain : IsPlain x.initiator → SourceLaw (endTxn p x o d s) := fun plain =>
    sourceLaw_of_chores law (endTxn_touches_plain p plain o d s) (endTxn_keepsChores txn plain o d)
  cases init : x.initiator with
  | request i => exact plain (init ▸ isPlain_request i)
  | modifyRead i => exact plain (init ▸ isPlain_modifyRead i)
  | modifyWrite i => exact plain (init ▸ isPlain_modifyWrite i)
  | post k => exact plain (init ▸ isPlain_post k)
  | fill => exact plain (init ▸ isPlain_fill)
  | chunk j c => exact endTxn_chunk p o d s init ▸ tested _ (sourceLaw_endChunk law txn init o d)
  | operation op => exact endTxn_operation p o d s init ▸ tested _ (sourceLaw_endOperation law txn init o d)

/-! ## Every move keeps the law -/

theorem sourceLaw_move (m : Move s t) (law : SourceLaw s) : SourceLaw t := by
  have fits := (sourceLaw_iff s).mp law
  cases m with
  | quiet h => exact sourceLaw_of_touches law h
  | reset c => exact sourceLaw_reset c s
  | tick => exact sourceLaw_tick law
  | down c => exact sourceLaw_goDown law c
  | flush => exact sourceLaw_flushPart law
  | report k d => exact sourceLaw_of_touches law (report_touches k d s)
  | clear b => exact sourceLaw_of_touches law (setFaults_touches s _)
  | faultSent _ => exact sourceLaw_of_touches law (setFaults_touches s _)
  | faultAck => exact sourceLaw_of_touches law (setFaults_touches s _)
  | window i w _ _ => exact sourceLaw_of_touches law (setWindows_touches s _)
  | ports x h =>
    exact sourceLaw_of_same law rfl fun i p => opKinds_of_queue (h p).opQueue (by rw [(h p).txn]) i
  | start p c h => exact sourceLaw_startChoice law h
  | ends p x o d h => exact sourceLaw_endTxn law h o d
  | holdOff item => exact sourceLaw_endHoldOff law item
  | admitTagged k id body h i ok => exact sourceLaw_of_touches law (admitTagged_touches k id body h i s)
  | admitPost body h k ok => exact sourceLaw_of_touches law (admitPost_touches body h k s)
  | admitFence id i ok => exact sourceLaw_of_touches law (admitFence_touches id i s)
  | abort target => exact sourceLaw_of_touches law (abortTarget_touches target s)
  | expire i => exact sourceLaw_of_touches law (expireTag_touches i s)
  | release i l h =>
    exact sourceLaw_of_touches law ((setReady_touches s l).within.trans (releaseTag_touches i _).within
      (bs := [.ready, .tags]))
  | loadJob j d => exact sourceLaw_of_slot law (loadJob_slotActs j d s) (loadJob_touches j d s)
  | startJob j h => exact sourceLaw_of_slot law (startJob_slotActs j s) (startJob_touches j s)
  | pauseJob j => exact sourceLaw_of_slot law (pauseJob_slotActs j s) (pauseJob_touches j s)
  | resumeJob j => exact sourceLaw_of_slot law (resumeJob_slotActs j s) (resumeJob_touches j s)
  | stopJob j => exact sourceLaw_of_slot law (stopJob_slotActs j s) (stopJob_touches j s)
  | jobSent j => exact sourceLaw_of_touches law (modJob_touches s j _)
  | jobAck j => exact sourceLaw_of_touches law (modJob_touches s j _)
  | rise i =>
    exact sourceLaw_of_source law ((modSource_sourceActs i Source.edge s).trans (judgeSource_sourceActs i _))
      (sourceFits_judgeSource (sourceFits_edge (fits i)))
  | irqSet i body ok => exact sourceLaw_of_source law (takeIrqSet_sourceActs i body s) (sourceFits_takeIrqSet (fits i) ok)
  | mask v i => exact sourceLaw_of_source law (maskSource_sourceActs v i s) (sourceFits_maskSource (fits i) v)
  | done i h => exact sourceLaw_of_source law (closeCycle_sourceActs i s) (sourceFits_closeCycle (fits i) h)
  | sourceSent i h => exact sourceLaw_of_source law (modSource_sourceActs i _ s) (sourceFits_sent (fits i) h _)
  | sourceAck i q => exact sourceLaw_of_source law (modSource_sourceActs i _ s) (sourceFits_acknowledged (fits i) q)

/-- Settles O59: every move of a step keeps the law of each job slot and of each source. -/
theorem jobLawIsKeptByEveryStep : Obligations.JobLawIsKeptByEveryStep := by
  intro s t h
  exact ⟨kept_by_step (fun _ _ => JobSlots.jobLaw_move) h, kept_by_step (fun _ _ => sourceLaw_move) h⟩

end Sys2Proof.Proofs.InterruptSources

/-! # The step's queue, and the frames of the host (08 R142 to R144) -/

namespace Sys2Proof.Proofs.HostFrames

-- One theorem after another: the proofs of this part at once ask for more threads than the check allows.
set_option Elab.async false

open Sys2Proof.Machine Sys2Proof.Safety Sys2Proof.Laws

/-- Settles O1: a queue that is not empty gives its front command to the part. -/
theorem stepTakesTheFrontCommand : Obligations.StepTakesTheFrontCommand := by
  intro c rest s
  rfl

/-- Settles O53: each frame's bytes are read. -/
theorem writtenFramesAreReadRight : Obligations.WrittenFramesAreReadRight := by
  unfold Obligations.WrittenFramesAreReadRight
  decide

/-! ## A frame's content is read back -/

theorem seqByte_toNat (q : Seq) : (seqByte q).toNat = q.toNat :=
  BitVec.toNat_setWidth_of_le (by decide)

theorem seqByte_le (q : Seq) : (seqByte q).toNat ≤ 63 := by
  have := q.isLt
  rw [seqByte_toNat]
  omega

theorem truncate_seqByte (q : Seq) : (seqByte q).truncate 6 = q := by
  simp [seqByte]

theorem half_of_bytes (id : Half) : id.extractLsb' 8 8 ++ id.extractLsb' 0 8 = id := by
  refine BitVec.eq_of_toNat_eq ?_
  have := id.isLt
  rw [BitVec.toNat_append, BitVec.extractLsb'_toNat, BitVec.extractLsb'_toNat,
    ← Nat.shiftLeft_add_eq_or_of_lt (Nat.mod_lt _ (by decide)), Nat.shiftLeft_eq, Nat.shiftRight_eq_div_pow,
    Nat.shiftRight_eq_div_pow]
  omega

theorem isMalformed_frame {ftype : Byte} {n : Nat} (least : leastLen ftype = some n) (f : FrameHead)
    {rest : List Byte} (length : n ≤ rest.length + 5) : isMalformed (frameContent ftype f rest) = false := by
  have := seqByte_le f.seq
  have := seqByte_le f.ack
  unfold isMalformed frameContent
  simp only [List.cons_append, List.nil_append, least, List.length_cons, Bool.or_eq_false_iff,
    decide_eq_false_iff_not]
  omega

theorem readFrame_data (f : FrameHead) (kind : Byte) (id : Half) (body : List Byte) :
    readFrame (dataContent f kind id body) = .data f kind id body := by
  have good := isMalformed_frame (ftype := ftypeData) (n := 8) rfl f (rest := kind :: (be16 id ++ body))
    (by simp [be16])
  unfold readFrame dataContent
  rw [if_neg (by simp [good])]
  simp only [frameContent, List.cons_append, List.nil_append, be16, truncate_seqByte, half_of_bytes]
  rfl

theorem readFrame_ack (f : FrameHead) (extra : List Byte) :
    readFrame (frameContent ftypeAck f extra) = .ack f extra := by
  have good := isMalformed_frame (ftype := ftypeAck) (n := 5) rfl f (rest := extra) (by simp)
  unfold readFrame
  rw [if_neg (by simp [good])]
  simp only [frameContent, List.cons_append, List.nil_append, truncate_seqByte]
  rfl

theorem readFrame_nak (f : FrameHead) (extra : List Byte) :
    readFrame (frameContent ftypeNak f extra) = .nak f extra := by
  have good := isMalformed_frame (ftype := ftypeNak) (n := 5) rfl f (rest := extra) (by simp)
  unfold readFrame
  rw [if_neg (by simp [good])]
  simp only [frameContent, List.cons_append, List.nil_append, truncate_seqByte]
  rfl

theorem readFrame_init (f : FrameHead) (extra : List Byte) :
    readFrame (frameContent ftypeInit f extra) = .init f extra := by
  have good := isMalformed_frame (ftype := ftypeInit) (n := 5) rfl f (rest := extra) (by simp)
  unfold readFrame
  rw [if_neg (by simp [good])]
  simp only [frameContent, List.cons_append, List.nil_append, truncate_seqByte]
  rfl

/-- A request's frame is read as the request. -/
theorem decode_request (k : RequestKind) (f : FrameHead) (id : Half) (body : List Byte) :
    decodeHostFrame (dataContent f k.code id body) = requestInstr k f id body := by
  unfold decodeHostFrame
  simp only [readFrame_data, ofCode_code]

theorem decode_unknown {kind : Byte} (unknown : RequestKind.ofCode kind = none) (f : FrameHead) (id : Half)
    (body : List Byte) : decodeHostFrame (dataContent f kind id body) = .unknownKind f kind id body := by
  unfold decodeHostFrame
  simp only [readFrame_data, unknown]

/-! ## The receiver collects a whole frame -/

theorem collect_wireFrame {content : List Byte} (fits : content.length ≤ 255) (rest : List Byte) :
    collect (wireFrame content ++ rest) = .good content rest := by
  have len : (lenByte content).toNat = content.length := by
    unfold lenByte
    rw [BitVec.toNat_ofNat]
    omega
  have crc : ∀ x : Half, (be16 x).length = 2 := fun _ => rfl
  unfold collect wireFrame
  simp only [List.cons_append, List.append_assoc, len, List.length_append, crc]
  rw [if_neg (by omega), List.take_left, List.drop_left, List.take_left' (crc _), if_pos rfl]
  congr 1
  rw [← List.append_assoc, List.drop_left']
  simp [crc]

/-- The commands that a frame is read as. -/
theorem decode_encode {i : Instr} {content : List Byte} (wf : i.wellFormed = true)
    (enc : encodeHostFrame i = some content) (notTaken : ∀ f k id b, i ≠ .hostDataFrameNotTaken f k id b)
    (notRate : ∀ f x, i ≠ .rateChange f x) (notReset : ∀ e, i ≠ .fullResetCarriedOut e) :
    decodeHostFrame content = i := by
  cases i
  case malformedFrame c =>
    cases enc
    simp only [Instr.wellFormed, Bool.and_eq_true] at wf
    unfold decodeHostFrame readFrame
    rw [if_pos wf.2]
  case hostDataFrameNotTaken f k id b => exact absurd rfl (notTaken f k id b)
  case rateChange f x => exact absurd rfl (notRate f x)
  case fullResetCarriedOut e => exact absurd rfl (notReset e)
  case hostAckFrame f x => cases enc; unfold decodeHostFrame; rw [readFrame_ack]
  case hostNak f x => cases enc; unfold decodeHostFrame; rw [readFrame_nak]
  case hostInit f x => cases enc; unfold decodeHostFrame; rw [readFrame_init]
  case unknownKind f k id b =>
    cases enc
    simp only [Instr.wellFormed, Bool.and_eq_true, Option.isNone_iff_eq_none] at wf
    exact decode_unknown wf.2 f id b
  case resetFlush f id b =>
    cases enc
    simp only [Instr.wellFormed, Bool.and_eq_true, decide_eq_true_eq] at wf
    rw [decode_request, requestInstr, if_neg wf.2]
  case resetFull f id b =>
    cases enc
    simp only [Instr.wellFormed, decide_eq_true_eq] at wf
    rw [decode_request, requestInstr, if_pos wf]
  all_goals cases enc
  all_goals rw [decode_request]; rfl

/-- Every well-formed frame's content fits the LEN byte (08 R142). -/
theorem frame_fits (i : Instr) : FrameFits.Statement i := by
  cases i with
  | powerOn => exact FrameFits.powerOn
  | resetNAssert => exact FrameFits.resetNAssert
  | resetNRelease => exact FrameFits.resetNRelease
  | freezeActive => exact FrameFits.freezeActive
  | freezeInactive => exact FrameFits.freezeInactive
  | irqLineRise a => exact FrameFits.irqLineRise a
  | irqLineFall a => exact FrameFits.irqLineFall a
  | frameCrcFailure a => exact FrameFits.frameCrcFailure a
  | malformedFrame a => exact FrameFits.malformedFrame a
  | hostDataFrameNotTaken a b c d => exact FrameFits.hostDataFrameNotTaken a b c d
  | hostAckFrame a b => exact FrameFits.hostAckFrame a b
  | rateChange a b => exact FrameFits.rateChange a b
  | fullResetCarriedOut a => exact FrameFits.fullResetCarriedOut a
  | hostNak a b => exact FrameFits.hostNak a b
  | hostInit a b => exact FrameFits.hostInit a b
  | replayTimerExpiry => exact FrameFits.replayTimerExpiry
  | beaconTimerExpiry => exact FrameFits.beaconTimerExpiry
  | frameTransmitEnd => exact FrameFits.frameTransmitEnd
  | unknownKind a b c d => exact FrameFits.unknownKind a b c d
  | read a b c => exact FrameFits.read a b c
  | write a b c => exact FrameFits.write a b c
  | post a b c => exact FrameFits.post a b c
  | modify a b c => exact FrameFits.modify a b c
  | fence a b c => exact FrameFits.fence a b c
  | identify a b c => exact FrameFits.identify a b c
  | statusGet a b c => exact FrameFits.statusGet a b c
  | configSet a b c => exact FrameFits.configSet a b c
  | configGet a b c => exact FrameFits.configGet a b c
  | linkRate a b c => exact FrameFits.linkRate a b c
  | resetFlush a b c => exact FrameFits.resetFlush a b c
  | resetFull a b c => exact FrameFits.resetFull a b c
  | windowSet a b c => exact FrameFits.windowSet a b c
  | windowGet a b c => exact FrameFits.windowGet a b c
  | portSet a b c => exact FrameFits.portSet a b c
  | portGet a b c => exact FrameFits.portGet a b c
  | portHold a b c => exact FrameFits.portHold a b c
  | portRelease a b c => exact FrameFits.portRelease a b c
  | abort a b c => exact FrameFits.abort a b c
  | jobLoad a b c => exact FrameFits.jobLoad a b c
  | jobStart a b c => exact FrameFits.jobStart a b c
  | jobPause a b c => exact FrameFits.jobPause a b c
  | jobResume a b c => exact FrameFits.jobResume a b c
  | jobStop a b c => exact FrameFits.jobStop a b c
  | jobGet a b c => exact FrameFits.jobGet a b c
  | irqSet a b c => exact FrameFits.irqSet a b c
  | irqMask a b c => exact FrameFits.irqMask a b c
  | irqDone a b c => exact FrameFits.irqDone a b c
  | irqGet a b c => exact FrameFits.irqGet a b c
  | faultGet a b c => exact FrameFits.faultGet a b c
  | faultClear a b c => exact FrameFits.faultClear a b c
  | portStart a => exact FrameFits.portStart a
  | targetAnswer a b => exact FrameFits.targetAnswer a b
  | responseLimitExpiry a => exact FrameFits.responseLimitExpiry a
  | holdOffExpiry a => exact FrameFits.holdOffExpiry a
  | completionTimerExpiry a => exact FrameFits.completionTimerExpiry a

/-- Settles O54: a command's frame fits the LEN byte, is collected whole and is read as the command. -/
theorem hostFramesRoundTrip : Obligations.HostFramesRoundTrip := by
  intro i content wf enc notTaken notRate notReset
  exact ⟨decode_encode wf enc notTaken notRate notReset, collect_wireFrame (frame_fits i wf content enc)⟩

end Sys2Proof.Proofs.HostFrames

/-! # What a command may change, and the reset values -/

namespace Sys2Proof.Proofs.Commands

-- One theorem after another: the proofs of this part at once ask for more threads than the check allows.
set_option Elab.async false

open Sys2Proof.Machine Sys2Proof.Safety Sys2Proof.Proofs.Steps

variable {s t : State}

/-! ## The blocks that a command may change -/

/-- The blocks that a frame of the host may change: not the pins and the waiting commands. -/
abbrev frameBlocks : List Block := .freeDraws :: resetBlocksOf

/-- The blocks that a command may change. -/
@[simp] def blocksOf : Instr → List Block
  | .powerOn | .resetNAssert | .resetNRelease => .pins :: resetBlocksOf
  | .freezeActive | .freezeInactive => [.pins, .ports]
  | .irqLineRise _ => [.pins, .ports, .sources, .nextPlace]
  | .irqLineFall _ => [.pins]
  | .frameCrcFailure _ | .beaconTimerExpiry => [.link]
  | .frameTransmitEnd => sendBlocks
  | .portStart _ => startBlocks
  | .targetAnswer _ _ | .responseLimitExpiry _ => endBlocks
  | .holdOffExpiry _ => [.tags, .pool, .ports]
  | .completionTimerExpiry _ => [.pool, .lists, .tags, .ready, .faults]
  | _ => frameBlocks

/-- An effect that is left out in some states. -/
theorem touches_ite {bs : List Block} {c : Prop} [Decidable c] {u : State} (h : Touches bs s t)
    (k : Touches bs s u) : Touches bs s (if c then t else u) := by
  split
  · exact h
  · exact k

theorem setFreezePin_touches (v : Bool) (s : State) : Touches [.pins, .ports] s (setFreezePin v s) := by
  unfold setFreezePin
  exact touches_ite (setPins_touches _ _).within
    ((setPins_touches _ _).within.trans (changeEveryPort_touches _ _).within)

theorem powerUp_touches (s : State) : Touches resetBlocksOf s (powerUp s) := by
  unfold powerUp
  exact touches_ite ((holdInReset_touches s).trans (modSettings_touches _ _).within) (resetBlocks_touches _ _)

theorem receiveBad_touches (hrx : List Byte) (s : State) : Touches [.link] s (receiveBad hrx s) := by
  unfold receiveBad
  dsimp only
  split
  · exact (modCounters_touches _ _).trans (modLink_touches _ _)
  · exact modLink_touches _ _

theorem FrameAct.touches {act : State → State} (h : FrameAct act) (s : State) : Touches frameBlocks s (act s) := by
  cases h with
  | malformed => exact (modCounters_touches _ _).within
  | ack f =>
    unfold takeAckFrame
    exact touches_ite (takeAck_touches _ s).within (.refl _ _)
  | nak f =>
    unfold takeNakFrame
    exact touches_ite (takeNak_touches _ s).within (.refl _ _)
  | init => exact (takeInit_touches s).within
  | data f kind id body =>
    exact takeData_touches (by simp) (fun t => (takenMessage_touches kind id body t).within) _ _ _

theorem goodFrame_touches (content : List Byte) (s : State) :
    Touches frameBlocks s (hostFrame content (goodFrame content) s) :=
  hostFrame_touches (by simp) (FrameAct.touches (goodFrame_act content)) s

theorem replayTimerOut_touches (s : State) : Touches frameBlocks s (replayTimerOut s) := by
  unfold replayTimerOut
  exact touches_ite (.refl _ _) (expireReplay_touches s).within

theorem exec_frame_touches (content : List Byte) {act : State → State} (h : FrameAct act) (s : State) :
    Touches frameBlocks s (hostFrame content act s) := hostFrame_touches (by simp) (FrameAct.touches h) s

theorem exec_request_touches (k : RequestKind) (f : FrameHead) (id : Half) (body : List Byte) (s : State) :
    ∃ t, exec (requestInstr k f id body) s = .next t ∧ Touches frameBlocks s t :=
  ⟨_, exec_requestInstr k f id body s, exec_frame_touches _ (.data f k.code id body) s⟩

/-- Every command answers a next state, which differs in the command's blocks alone. -/
theorem exec_touches (c : Instr) (s : State) : ∃ t, exec c s = .next t ∧ Touches (blocksOf c) s t := by
  cases c
  case powerOn => exact ⟨_, rfl, (powerUp_touches s).within⟩
  case resetNAssert =>
    exact ⟨_, rfl, touches_ite (.refl _ _) ((setPins_touches _ _).within.trans (holdInReset_touches _).within)⟩
  case resetNRelease =>
    exact ⟨_, rfl, touches_ite ((setPins_touches _ _).within.trans (resetBlocks_touches _ _).within) (.refl _ _)⟩
  case freezeActive => exact ⟨_, rfl, setFreezePin_touches true s⟩
  case freezeInactive => exact ⟨_, rfl, setFreezePin_touches false s⟩
  case irqLineRise i =>
    exact ⟨_, rfl, touches_ite (.refl _ _) (touches_ite (setPins_touches _ _).within
      ((setPins_touches _ _).within.trans ((modSource_touches _ _ _).within.trans
        (judgeSource_touches _ _).within)))⟩
  case irqLineFall i => exact ⟨_, rfl, setPins_touches _ _⟩
  case frameCrcFailure hrx => exact ⟨_, rfl, touches_ite (.refl _ _) (receiveBad_touches hrx s)⟩
  case beaconTimerExpiry =>
    exact ⟨_, rfl, touches_ite (.refl _ _) (touches_ite (sendInit_touches s) (modLink_touches s _))⟩
  case frameTransmitEnd =>
    exact ⟨_, rfl, touches_ite (.refl _ _) ((modLink_touches s _).within.trans (chooseFrame_touches _))⟩
  case portStart p =>
    refine ⟨_, rfl, touches_ite (.refl _ _) ?_⟩
    split
    · exact startChoice_touches _ _ _
    · exact .refl _ _
  case targetAnswer p a =>
    refine ⟨_, rfl, touches_ite (.refl _ _) ?_⟩
    split
    · exact endTxn_touches _ _ _ _ _
    · exact .refl _ _
  case responseLimitExpiry p =>
    refine ⟨_, rfl, touches_ite (.refl _ _) ?_⟩
    split
    · exact endTxn_touches _ _ _ _ _
    · exact .refl _ _
  case holdOffExpiry item => exact ⟨_, rfl, touches_ite (.refl _ _) (endHoldOff_touches item s)⟩
  case completionTimerExpiry t => exact ⟨_, rfl, touches_ite (.refl _ _) (expireTag_touches t s)⟩
  case malformedFrame content => exact ⟨_, rfl, goodFrame_touches content s⟩
  case hostDataFrameNotTaken f kind id body => exact ⟨_, rfl, exec_frame_touches _ (.data f kind id body) s⟩
  case unknownKind f kind id body => exact ⟨_, rfl, exec_frame_touches _ (.data f kind id body) s⟩
  case hostAckFrame f extra => exact ⟨_, rfl, exec_frame_touches _ (.ack f) s⟩
  case rateChange f extra => exact ⟨_, rfl, exec_frame_touches _ (.ack f) s⟩
  case hostNak f extra => exact ⟨_, rfl, exec_frame_touches _ (.nak f) s⟩
  case hostInit f extra => exact ⟨_, rfl, exec_frame_touches _ .init s⟩
  case fullResetCarriedOut event =>
    cases event with
    | acknowledged f extra => exact ⟨_, rfl, exec_frame_touches _ (.ack f) s⟩
    | exhausted => exact ⟨_, rfl, replayTimerOut_touches s⟩
    | hostInit f extra => exact ⟨_, rfl, exec_frame_touches _ .init s⟩
  case replayTimerExpiry => exact ⟨_, rfl, replayTimerOut_touches s⟩
  case resetFlush f id body => exact ⟨_, rfl, exec_frame_touches _ (.data f RequestKind.reset.code id body) s⟩
  case resetFull f id body => exact ⟨_, rfl, exec_frame_touches _ (.data f RequestKind.reset.code id body) s⟩
  case read f id body => exact exec_request_touches .read f id body s
  case write f id body => exact exec_request_touches .write f id body s
  case post f id body => exact exec_request_touches .post f id body s
  case modify f id body => exact exec_request_touches .modify f id body s
  case fence f id body => exact exec_request_touches .fence f id body s
  case identify f id body => exact exec_request_touches .identify f id body s
  case statusGet f id body => exact exec_request_touches .statusGet f id body s
  case configSet f id body => exact exec_request_touches .configSet f id body s
  case configGet f id body => exact exec_request_touches .configGet f id body s
  case linkRate f id body => exact exec_request_touches .linkRate f id body s
  case windowSet f id body => exact exec_request_touches .windowSet f id body s
  case windowGet f id body => exact exec_request_touches .windowGet f id body s
  case portSet f id body => exact exec_request_touches .portSet f id body s
  case portGet f id body => exact exec_request_touches .portGet f id body s
  case portHold f id body => exact exec_request_touches .portHold f id body s
  case portRelease f id body => exact exec_request_touches .portRelease f id body s
  case abort f id body => exact exec_request_touches .abort f id body s
  case jobLoad f id body => exact exec_request_touches .jobLoad f id body s
  case jobStart f id body => exact exec_request_touches .jobStart f id body s
  case jobPause f id body => exact exec_request_touches .jobPause f id body s
  case jobResume f id body => exact exec_request_touches .jobResume f id body s
  case jobStop f id body => exact exec_request_touches .jobStop f id body s
  case jobGet f id body => exact exec_request_touches .jobGet f id body s
  case irqSet f id body => exact exec_request_touches .irqSet f id body s
  case irqMask f id body => exact exec_request_touches .irqMask f id body s
  case irqDone f id body => exact exec_request_touches .irqDone f id body s
  case irqGet f id body => exact exec_request_touches .irqGet f id body s
  case faultGet f id body => exact exec_request_touches .faultGet f id body s
  case faultClear f id body => exact exec_request_touches .faultClear f id body s

theorem pending_not_mem (c : Instr) : Block.pending ∉ blocksOf c := by
  cases c <;> simp [blocksOf]

theorem pins_not_mem {c : Instr} (h : isPinCommand c = false) : Block.pins ∉ blocksOf c := by
  cases c <;> simp [blocksOf, isPinCommand] at h ⊢

/-- Settles O3: a command changes its own blocks alone, the waiting commands never among them. -/
theorem everyCommandAnswersANextState : Obligations.EveryCommandAnswersANextState := by
  intro c s
  obtain ⟨t, next, touches⟩ := exec_touches c s
  refine ⟨t, next, touches.pending (pending_not_mem c), fun pin => touches.pins (pins_not_mem pin), fun h => ?_⟩
  have quiet : Block.windows ∉ blocksOf c ∧ Block.settings ∉ blocksOf c := by
    rcases h with rfl | rfl | ⟨_, rfl⟩ | ⟨_, rfl⟩ | ⟨_, rfl⟩ | rfl | rfl | ⟨_, rfl⟩ | ⟨_, _, rfl⟩ | ⟨_, rfl⟩
      | ⟨_, rfl⟩ | ⟨_, rfl⟩ <;> simp [blocksOf]
  exact ⟨touches.windows quiet.1, touches.settings quiet.2⟩

/-! ## The reset values (07 R139 to R141) -/

theorem windowLaw_reset : WindowLaw State.reset.windows := by
  have off : ∀ i, (State.reset.windows.get i).enabled = false := fun i => by
    show ((Table.fill 16 Window.zero).get i).enabled = false
    rw [Table.get_fill]
    rfl
  have no : ∀ i, (State.reset.windows.get i).enabled ≠ true := fun i => by rw [off i]; simp
  exact ⟨fun i e => absurd e (no i), fun i e => absurd e (no i), fun i e => absurd e (no i),
    fun i _ _ e => absurd e (no i)⟩

theorem faultLaw_reset : FaultLaw State.reset.faults :=
  ⟨fun e => (nomatch e), fun e => (nomatch e), fun _ e => (nomatch e)⟩

/-- Settles O4: the state right after power-on is a state of the part after a reset. -/
theorem resetStateMeetsTheLaws : Obligations.ResetStateMeetsTheLaws := by
  have same : resetBlocks .power State.reset = State.reset := rfl
  have laws := (same ▸ ⟨TagTable.tagLaw_reset .power State.reset, PostedPool.postLaw_reset .power State.reset,
    PostedPool.orderLaw_reset .power State.reset, FenceCounts.fenceLaw_reset .power State.reset,
    HostLinkLaw.linkLaw_resetBlocks .power State.reset, JobSlots.jobLaw_reset .power State.reset,
    InterruptSources.sourceLaw_reset .power State.reset⟩ :
      TagLaw State.reset ∧ PostLaw State.reset ∧ OrderLaw State.reset ∧ FenceLaw State.reset
        ∧ LinkLaw State.reset ∧ JobLaw State.reset ∧ SourceLaw State.reset)
  obtain ⟨tags, posts, order, fences, link, jobs, sources⟩ := laws
  exact ⟨windowLaw_reset, tags, posts, order, fences, link, jobs, sources, faultLaw_reset⟩

theorem portReset_atReset (freeze : Bool) : PortReset freeze (Port.atReset freeze) := by
  have offers : ∀ j, (Port.atReset freeze).offers.get j = none := fun _ => Table.get_fill _ _
  cases freeze <;> exact ⟨rfl, rfl, rfl, rfl, rfl, rfl, offers, rfl, rfl, rfl, rfl, rfl, rfl, rfl, rfl⟩

theorem atReset_resetBlocks (c : ResetCause) (s : State) : AtReset c (resetBlocks c s) where
  windows _ := Table.get_fill _ _
  pool _ := Table.get_fill _ _
  lists _ := Table.get_fill _ _
  tags _ := Table.get_fill _ _
  ready := rfl
  ports p := by
    have port : (resetBlocks c s).ports.get p = Port.atReset s.pins.freeze := Table.get_fill _ _
    rw [port]
    exact portReset_atReset _
  jobs j := by
    have slot : (resetBlocks c s).jobs.get j = JobSlot.zero := Table.get_fill _ _
    rw [slot]
    exact ⟨rfl, rfl, rfl, rfl, rfl, rfl, rfl, rfl, rfl, rfl, rfl, rfl, rfl, rfl, rfl⟩
  sources i := by
    have source : (resetBlocks c s).sources.get i = Source.zero := Table.get_fill _ _
    rw [source]
    exact ⟨rfl, rfl, rfl, rfl, rfl, rfl, rfl, rfl, rfl, rfl, rfl, rfl, rfl, rfl, rfl, rfl⟩
  faults := ⟨rfl, fun _ => Table.get_fill _ _, fun _ => Table.get_fill _ _, rfl, rfl⟩
  direct := rfl
  link := ⟨rfl, rfl, rfl, rfl, rfl, rfl, rfl, rfl, rfl, rfl, rfl, rfl, rfl, rfl, rfl⟩
  settings := ⟨rfl, rfl, rfl, rfl, rfl, rfl⟩

/-- While the pin is low the part keeps the cause and the mark of a cold start, whatever they were before
it was held. -/
theorem heldInReset (s : State) : HeldInReset false (holdInReset s) :=
  ⟨atReset_resetBlocks s.settings.resetCause s, rfl, rfl, rfl⟩

theorem heldInReset_cold (s : State) :
    HeldInReset true ((holdInReset s).modSettings fun x => { x with coldStart := true }) :=
  ⟨atReset_resetBlocks s.settings.resetCause s, rfl, rfl, rfl⟩

section

variable (low : s.pins.resetLow = true)

include low

theorem hostFrame_low (content : List Byte) (act : State → State) : hostFrame content act s = s :=
  hostFrame_inReset content act s low

theorem replayTimerOut_low : replayTimerOut s = s := by
  unfold replayTimerOut
  rw [if_pos (by simp [low])]

theorem exec_request_low (k : RequestKind) (f : FrameHead) (id : Half) (body : List Byte) :
    exec (requestInstr k f id body) s = .next s := by
  rw [exec_requestInstr]
  exact congrArg _ (hostFrame_low low _ _)

/-- What the part does out of reset alone. -/
theorem next_low (t : State) :
    (Host.Outcome.next (if s.pins.resetLow then s else t) : Host.Outcome State Fault Refusal) = .next s := by
  rw [if_pos low]

/-- While RESET_N is low no command but those of the supply and the pins has any effect. -/
theorem exec_low (c : Instr) (notPin : isPinCommand c = false) : exec c s = .next s := by
  cases c
  case powerOn => cases notPin
  case resetNAssert => cases notPin
  case resetNRelease => cases notPin
  case freezeActive => cases notPin
  case freezeInactive => cases notPin
  case irqLineRise i => cases notPin
  case irqLineFall i => cases notPin
  case frameCrcFailure hrx => exact next_low low _
  case frameTransmitEnd => exact next_low low _
  case portStart p => exact next_low low _
  case targetAnswer p a => exact next_low low _
  case responseLimitExpiry p => exact next_low low _
  case holdOffExpiry item => exact next_low low _
  case completionTimerExpiry t => exact next_low low _
  case beaconTimerExpiry => exact congrArg Host.Outcome.next (if_pos (by simp [low]))
  case replayTimerExpiry => exact congrArg _ (replayTimerOut_low low)
  case fullResetCarriedOut event =>
    cases event with
    | acknowledged f extra => exact congrArg _ (hostFrame_low low _ _)
    | exhausted => exact congrArg _ (replayTimerOut_low low)
    | hostInit f extra => exact congrArg _ (hostFrame_low low _ _)
  case malformedFrame content => exact congrArg _ (hostFrame_low low _ _)
  case hostDataFrameNotTaken f kind id body => exact congrArg _ (hostFrame_low low _ _)
  case unknownKind f kind id body => exact congrArg _ (hostFrame_low low _ _)
  case hostAckFrame f extra => exact congrArg _ (hostFrame_low low _ _)
  case rateChange f extra => exact congrArg _ (hostFrame_low low _ _)
  case hostNak f extra => exact congrArg _ (hostFrame_low low _ _)
  case hostInit f extra => exact congrArg _ (hostFrame_low low _ _)
  case resetFlush f id body => exact congrArg _ (hostFrame_low low _ _)
  case resetFull f id body => exact congrArg _ (hostFrame_low low _ _)
  case read f id body => exact exec_request_low low .read f id body
  case write f id body => exact exec_request_low low .write f id body
  case post f id body => exact exec_request_low low .post f id body
  case modify f id body => exact exec_request_low low .modify f id body
  case fence f id body => exact exec_request_low low .fence f id body
  case identify f id body => exact exec_request_low low .identify f id body
  case statusGet f id body => exact exec_request_low low .statusGet f id body
  case configSet f id body => exact exec_request_low low .configSet f id body
  case configGet f id body => exact exec_request_low low .configGet f id body
  case linkRate f id body => exact exec_request_low low .linkRate f id body
  case windowSet f id body => exact exec_request_low low .windowSet f id body
  case windowGet f id body => exact exec_request_low low .windowGet f id body
  case portSet f id body => exact exec_request_low low .portSet f id body
  case portGet f id body => exact exec_request_low low .portGet f id body
  case portHold f id body => exact exec_request_low low .portHold f id body
  case portRelease f id body => exact exec_request_low low .portRelease f id body
  case abort f id body => exact exec_request_low low .abort f id body
  case jobLoad f id body => exact exec_request_low low .jobLoad f id body
  case jobStart f id body => exact exec_request_low low .jobStart f id body
  case jobPause f id body => exact exec_request_low low .jobPause f id body
  case jobResume f id body => exact exec_request_low low .jobResume f id body
  case jobStop f id body => exact exec_request_low low .jobStop f id body
  case jobGet f id body => exact exec_request_low low .jobGet f id body
  case irqSet f id body => exact exec_request_low low .irqSet f id body
  case irqMask f id body => exact exec_request_low low .irqMask f id body
  case irqDone f id body => exact exec_request_low low .irqDone f id body
  case irqGet f id body => exact exec_request_low low .irqGet f id body
  case faultGet f id body => exact exec_request_low low .faultGet f id body
  case faultClear f id body => exact exec_request_low low .faultClear f id body

theorem exec_freeze_low (v : Bool) : setFreezePin v s = { s with pins := { s.pins with freeze := v } } := by
  unfold setFreezePin
  exact if_pos low

theorem exec_rise_low (i : Fin 32) :
    exec (.irqLineRise i) s = .next { s with pins := { s.pins with lines := s.pins.lines.set i true } } := by
  refine congrArg Host.Outcome.next ?_
  split
  · next high =>
    rw [← high, Table.set_get_self]
  · exact if_pos low

end

/-- Settles O5: the supply and the pin set every block to its reset values, and every other command is
discarded while the pin is low. -/
theorem powerOnAndResetPinLeaveResetValues : Obligations.PowerOnAndResetPinLeaveResetValues := by
  refine ⟨fun s => ⟨fun high => ⟨?_, ?_, ?_⟩, fun low => ⟨?_, ?_, ?_⟩⟩,
    fun c s low => ⟨exec_low low c, ?_, ?_, exec_rise_low low, fun i => rfl⟩⟩
  · refine ⟨resetBlocks .power s, ?_, atReset_resetBlocks .power s, rfl, rfl⟩
    exact congrArg Host.Outcome.next (if_neg (by simp [high]))
  · refine ⟨holdInReset (setResetLow true s), ?_, heldInReset _, rfl⟩
    exact congrArg Host.Outcome.next (if_neg (by simp [high]))
  · exact congrArg Host.Outcome.next (if_neg (by simp [high]))
  · exact ⟨_, congrArg Host.Outcome.next (if_pos low), heldInReset_cold s, rfl⟩
  · refine ⟨_, congrArg Host.Outcome.next (if_pos low), ?_, rfl, rfl⟩
    exact atReset_resetBlocks _ _
  · exact congrArg Host.Outcome.next (if_pos low)
  · exact congrArg Host.Outcome.next (exec_freeze_low low true)
  · exact congrArg Host.Outcome.next (exec_freeze_low low false)

/-! ## A FULL reset that waits (07 R139) -/

theorem reportAcks_fullReset {l : List Sent} (waits : s.settings.fullWaiting = true)
    (full : ∃ e ∈ l, e.message.carries = .fullReply) :
    ∃ u, reportAcks l s = (fullReset u, true) ∧ u.pins = s.pins := by
  induction l generalizing s with
  | nil =>
    obtain ⟨e, mem, -⟩ := full
    cases mem
  | cons x l ih =>
    unfold reportAcks
    by_cases here : x.message.carries = .fullReply
    · exact ⟨s, if_pos (by simp [here, waits]), rfl⟩
    · rw [if_neg (by simp [here])]
      obtain ⟨e, mem, carries⟩ := full
      have later : e ∈ l := (List.mem_cons.mp mem).resolve_left fun e => here (e ▸ carries)
      obtain ⟨u, hu, pins⟩ := ih (s := reportAck x s)
        (by rw [(reportAck_touches x s).settings (by simp)]; exact waits) ⟨e, later, carries⟩
      exact ⟨u, hu, pins.trans ((reportAck_touches x s).pins (by simp))⟩

/-- The acknowledgement of a frame at or behind the FULL REPLY's carries out the waiting FULL reset. -/
theorem takeAck_fullReset {a : Seq} {pre post : List Sent} {e : Sent} (replay : s.link.replay = pre ++ e :: post)
    (waits : s.settings.fullWaiting = true) (full : e.message.carries = .fullReply)
    (before : ∀ x ∈ pre, x.seq ≠ a) (named : ∃ x ∈ e :: post, x.seq = a) :
    ∃ u, takeAck a s = (fullReset u, true) ∧ u.pins = s.pins := by
  have found : ∃ n, replayIndex s.link.replay a = some n := by
    obtain ⟨x, mem, seq⟩ := named
    refine Option.isSome_iff_exists.mp ?_
    unfold replayIndex
    rw [List.findIdx?_isSome, List.any_eq_true]
    exact ⟨x, by rw [replay]; exact List.mem_append_right _ mem, by simpa using seq⟩
  obtain ⟨n, index⟩ := found
  have behind : pre.length ≤ n := by
    obtain ⟨lt, seq, -⟩ := List.findIdx?_eq_some_iff_getElem.mp index
    by_contra lt'
    refine before (s.link.replay[n]) ?_ (by simpa using seq)
    rw [List.getElem_of_eq replay, List.getElem_append_left (by omega)]
    exact List.getElem_mem _
  have mem : e ∈ s.link.replay.take (n + 1) := by
    rw [replay, List.take_append, List.mem_append]
    right
    obtain ⟨k, hk⟩ : ∃ k, n + 1 - pre.length = k + 1 := ⟨n - pre.length, by omega⟩
    rw [hk]
    exact List.mem_cons_self
  obtain ⟨u, hu, pins⟩ := reportAcks_fullReset (s := progress n s) (l := s.link.replay.take (n + 1))
    waits ⟨e, mem, full⟩
  refine ⟨u, ?_, pins⟩
  unfold takeAck
  rw [index]
  exact hu

/-- Settles O6: each of the three events comes to a FULL reset. -/
theorem fullResetIsCarriedOut : Obligations.FullResetIsCarriedOut := by
  intro f extra s low waits
  refine ⟨fun ⟨_, up, rx⟩ pre e post replay full before named => ?_, fun ⟨_, up, rx⟩ => ?_, fun runs count => ?_⟩
  · obtain ⟨u, taken, pins⟩ := takeAck_fullReset replay waits full before named
    refine ⟨fullReset u, ?_, atReset_resetBlocks .soft u, pins⟩
    refine congrArg Host.Outcome.next ((hostFrame_clean _ _ s low rx).trans ?_)
    unfold takeAckFrame
    rw [if_pos up, taken]
  · refine ⟨fullReset (goDown .aborted s), ?_, atReset_resetBlocks .soft _, (goDown_touches .aborted s).pins (by simp)⟩
    refine congrArg Host.Outcome.next ((hostFrame_clean _ _ s low rx).trans ?_)
    unfold takeInit
    rw [if_pos up, if_pos waits]
  · refine ⟨fullReset (goDown .timeout s), ?_, atReset_resetBlocks .soft _, (goDown_touches .timeout s).pins (by simp)⟩
    refine congrArg Host.Outcome.next ?_
    unfold replayTimerOut
    rw [if_neg (by simp [low, Option.isSome_iff_ne_none.mp runs])]
    unfold expireReplay exhaust
    dsimp only
    rw [count, if_pos (by decide), if_pos waits]

end Sys2Proof.Proofs.Commands

/-! # The frames of the part (09 R163 to R167, R169) -/

namespace Sys2Proof.Proofs.Outbound

-- One theorem after another: the proofs of this part at once ask for more threads than the check allows.
set_option Elab.async false

open Sys2Proof.Machine Sys2Proof.Safety Sys2Proof.Proofs.HostLinkLaw Sys2Proof.Proofs.WindowTable

variable {s : State}

/-! ## The frames, in the words of Safety.lean -/

theorem sendUp_eq (ftype : Byte) (q a : Seq) (b : List Byte) (s : State) :
    sendUp ftype q a b s =
      { s with link := { s.link with ackOwed := false, tx := onLine s ftype q a b } } := by
  unfold sendUp
  rw [putFrame_eq]
  rfl

theorem sendData_eq (c : OutClass) (m : Message) (s : State) : sendData c m s = sentData s c m := by
  unfold sendData sentData
  dsimp only
  rw [sendUp_eq]
  have timer : (if s.link.replay.isEmpty = true then some (newReplayTimer s) else s.link.replayTimer)
      = if s.link.replay = [] then
          some ⟨4000 * s.settings.replayTimeout.toNat, s.settings.replayTimeout⟩
        else s.link.replayTimer := by
    have start : newReplayTimer s = ⟨4000 * s.settings.replayTimeout.toNat, s.settings.replayTimeout⟩ := by
      simp only [newReplayTimer, Config.ms, Config.us, Config.quantaPerUs, ReplayTimer.mk.injEq, and_true]
      omega
    cases s.link.replay <;> simp [start]
  simp only [State.modLink, State.setLink, timer]
  rfl

/-- The state whose line has just become free. -/
def lineFree (s : State) : State := { s with link := { s.link with tx := none } }

theorem exec_frameTransmitEnd (low : s.pins.resetLow = false) :
    exec .frameTransmitEnd s = .next (chooseFrame (lineFree s)) :=
  congrArg Host.Outcome.next (if_neg (by simp [low]))

theorem lineFree_sendUp (ftype : Byte) (q a : Seq) (b : List Byte) (s : State) :
    sendUp ftype q a b (lineFree s) =
      { s with link := { s.link with ackOwed := false, tx := onLine s ftype q a b } } := by
  rw [sendUp_eq]
  rfl

theorem sendInit_lineFree (s : State) : sendInit (lineFree s) =
    { s with link := { s.link with beacon := some 200000, tx := onLine s 5 0 0 [] } } := by
  unfold sendInit
  rw [putFrame_eq]
  rfl

/-! ## Which notice is due (09 R166) -/

theorem dueSource_none_iff (s : State) : dueSource s = none ↔ ∀ i, ¬IrqOffered s i := by
  unfold dueSource
  simp only [List.findSome?_eq_none_iff, Table.mem_indices, true_implies, find_indices_eq_none,
    Bool.and_eq_false_iff]
  constructor
  · intro h i offered
    have := h (s.sources.get i).priority i
    rw [(offersNotice_iff s i).mpr offered] at this
    simp at this
  · intro h pr i
    left
    have := mt (offersNotice_iff s i).mp (h i)
    simpa using this

/-- The notice class offers nothing exactly when no holder's notice is due. -/
theorem dueNotice_none_iff (s : State) : dueNotice s = none ↔ NoNoticeDue s := by
  unfold dueNotice NoNoticeDue
  by_cases fault : s.faults.notice = .due
  · simp [fault]
  · rw [if_neg (by simpa using fault)]
    cases port : (Table.indices 4).find? fun p => (s.ports.get p).notice == .due with
    | some p =>
      have := List.find?_some port
      simp only [reduceCtorEq, false_iff]
      exact fun h => h.2.1 p (by simpa using this)
    | none =>
      have ports : ∀ p, (s.ports.get p).notice ≠ .due := fun p => by
        simpa using find_indices_eq_none.mp port p
      dsimp only
      cases job : (Table.indices 4).find? fun j => (s.jobs.get j).notice == .due with
      | some j =>
        have := List.find?_some job
        simp only [reduceCtorEq, false_iff]
        exact fun h => h.2.2.1 j (by simpa using this)
      | none =>
        have jobs : ∀ j, (s.jobs.get j).notice ≠ .due := fun j => by
          simpa using find_indices_eq_none.mp job j
        dsimp only
        rw [Option.map_eq_none_iff, dueSource_none_iff]
        exact ⟨fun h => ⟨fault, ports, jobs, h⟩, fun h => h.2.2.2⟩

theorem dueNotice_fault (h : s.faults.notice = .due) : dueNotice s = some .faultNotice := by
  unfold dueNotice
  rw [if_pos (by simp [h])]

theorem dueNotice_port (fault : s.faults.notice ≠ .due) {p : Fin 4} (due : (s.ports.get p).notice = .due)
    (first : ∀ q, q < p → (s.ports.get q).notice ≠ .due) : dueNotice s = some (.portNotice p) := by
  unfold dueNotice
  rw [if_neg (by simpa using fault),
    find_indices_eq_some (p := fun p => (s.ports.get p).notice == .due) (j := p) (by simp [due])
      fun q lt => by simpa using first q lt]

theorem dueNotice_job (fault : s.faults.notice ≠ .due) (ports : ∀ p, (s.ports.get p).notice ≠ .due) {j : Fin 4}
    (due : (s.jobs.get j).notice = .due) (first : ∀ q, q < j → (s.jobs.get q).notice ≠ .due) :
    dueNotice s = some (.jobNotice j) := by
  unfold dueNotice
  rw [if_neg (by simpa using fault),
    find_indices_eq_none (p := fun p => (s.ports.get p).notice == .due) |>.mpr fun p => by simpa using ports p,
    find_indices_eq_some (p := fun j => (s.jobs.get j).notice == .due) (j := j) (by simp [due])
      fun q lt => by simpa using first q lt]

theorem findSome_indices {n : Nat} {β : Type} {f : Fin n → Option β} {i : Fin n} {b : β} (h : f i = some b)
    (first : ∀ k, k < i → f k = none) : (Table.indices n).findSome? f = some b := by
  rw [List.findSome?_eq_some_iff]
  refine ⟨(Table.indices n).take i.val, i, (Table.indices n).drop (i.val + 1), ?_, h, fun k mem => ?_⟩
  · have at_i : (Table.indices n)[i.val]'(by simp [Table.indices]) = i := by simp [Table.indices]
    conv_lhs => rw [← List.take_append_drop i.val (Table.indices n)]
    rw [List.drop_eq_getElem_cons (by simp [Table.indices]), at_i]
  · obtain ⟨m, lt, e⟩ := List.mem_iff_getElem.mp mem
    rw [List.length_take] at lt
    refine first k ?_
    rw [← e, List.getElem_take]
    have : (Table.indices n)[m]'(by omega) = ⟨m, by simp [Table.indices] at lt; omega⟩ := by simp [Table.indices]
    rw [this]
    exact Fin.lt_def.mpr (by simp at lt ⊢; omega)

/-- Of the sources that offer their notice the one of the lowest priority number, and of those the lowest. -/
theorem dueSource_eq {i : Fin 32} (offered : IrqOffered s i)
    (first : ∀ k, IrqOffered s k → (s.sources.get i).priority < (s.sources.get k).priority
      ∨ ((s.sources.get i).priority = (s.sources.get k).priority ∧ i ≤ k)) : dueSource s = some i := by
  unfold dueSource
  refine findSome_indices (i := (s.sources.get i).priority) (find_indices_eq_some ?_ fun k lt => ?_) fun pr lt =>
    find_indices_eq_none.mpr fun k => ?_
  · simp [(offersNotice_iff s i).mpr offered]
  · rw [Bool.and_eq_false_iff]
    by_contra h
    simp only [not_or, Bool.not_eq_false, beq_iff_eq] at h
    obtain ⟨off, pr⟩ := h
    rcases first k ((offersNotice_iff s k).mp off) with lt' | ⟨-, le⟩
    · rw [pr] at lt'
      exact lt_irrefl _ lt'
    · exact absurd lt (not_lt.mpr le)
  · rw [Bool.and_eq_false_iff]
    by_contra h
    simp only [not_or, Bool.not_eq_false, beq_iff_eq] at h
    obtain ⟨off, pr'⟩ := h
    rcases first k ((offersNotice_iff s k).mp off) with lt' | ⟨eq, -⟩
    · rw [pr'] at lt'
      exact absurd lt (not_lt.mpr (le_of_lt lt'))
    · rw [eq, pr'] at lt
      exact lt_irrefl _ lt

theorem dueNotice_source (fault : s.faults.notice ≠ .due) (ports : ∀ p, (s.ports.get p).notice ≠ .due)
    (jobs : ∀ j, (s.jobs.get j).notice ≠ .due) {i : Fin 32} (due : dueSource s = some i) :
    dueNotice s = some (.irqNotice i) := by
  unfold dueNotice
  rw [if_neg (by simpa using fault),
    find_indices_eq_none (p := fun p => (s.ports.get p).notice == .due) |>.mpr fun p => by simpa using ports p,
    find_indices_eq_none (p := fun j => (s.jobs.get j).notice == .due) |>.mpr fun j => by simpa using jobs j, due]
  rfl

/-! ## Control and resend frames -/

theorem oldestResend_none (h : ∀ e ∈ s.link.replay, e.resend = false) : oldestResend s.link.replay = none := by
  unfold oldestResend
  rw [List.find?_eq_none]
  exact fun e mem => by simp [h e mem]

theorem oldestResend_some {pre rest : List Sent} {e : Sent} (before : ∀ x ∈ pre, x.resend = false)
    (due : e.resend = true) : oldestResend (pre ++ e :: rest) = some e := by
  unfold oldestResend
  rw [List.find?_append, List.find?_eq_none.mpr fun x mem => by simp [before x mem]]
  simp [due]

/-- In a list with consecutive numbers, no longer than eight, no two frames have one number. -/
theorem seq_ne_of_law (law : LinkLaw s) {pre rest : List Sent} {e : Sent}
    (replay : s.link.replay = pre ++ e :: rest) : ∀ x ∈ rest, x.seq ≠ e.seq := by
  intro x mem same
  obtain ⟨k, lt, hk⟩ := List.mem_iff_getElem.mp mem
  have length : s.link.replay.length = pre.length + 1 + rest.length := by
    rw [replay]
    simp
    omega
  have le := law.replay_le
  have first := law.consecutive pre.length (by omega)
  have second := law.consecutive (pre.length + 1 + k) (by omega)
  have first_e : s.link.replay[pre.length]'(by omega) = e := by simp [replay]
  have second_x : s.link.replay[pre.length + 1 + k]'(by omega) = x := by
    rw [List.getElem_of_eq replay, List.getElem_append_right (by omega)]
    simp only [show pre.length + 1 + k - pre.length = k + 1 from by omega, List.getElem_cons_succ, hk]
  rw [first_e] at first
  rw [second_x, same, ← first] at second
  have nat := congrArg BitVec.toNat (add_left_cancel second)
  simp only [BitVec.toNat_ofNat] at nat
  omega

theorem unmark_eq (law : LinkLaw s) {pre rest : List Sent} {e : Sent} (replay : s.link.replay = pre ++ e :: rest)
    (before : ∀ x ∈ pre, x.resend = false) :
    unmark e.seq (pre ++ e :: rest) = pre ++ { e with resend := false } :: rest := by
  have other := seq_ne_of_law law replay
  unfold unmark
  rw [List.map_append, List.map_cons, if_pos (by simp)]
  congr 1
  · refine (List.map_congr_left fun x mem => ?_).trans (List.map_id _)
    have := before x mem
    split
    · cases x
      simp only at this
      subst this
      rfl
    · rfl
  · congr 1
    refine (List.map_congr_left fun x mem => ?_).trans (List.map_id _)
    rw [if_neg (by simpa using other x mem)]
    rfl

theorem nextClass_none (h : 8 ≤ s.link.replay.length ∨ (s.direct = [] ∧ s.ready = [] ∧ NoNoticeDue s)) :
    nextClass s = none := by
  unfold nextClass
  split
  · next few =>
    obtain ⟨direct, ready, notices⟩ := h.resolve_left (by simpa [Config.replayFrames] using few)
    have offers : ∀ c : OutClass, c.offers s = false := fun c => by
      cases c
      · simp [OutClass.offers, direct]
      · simp [OutClass.offers, ready]
      · simp [OutClass.offers, (dueNotice_none_iff s).mpr notices]
    exact List.find?_eq_none.mpr fun c _ => by simp [offers c]
  · rfl

theorem newData_none (h : nextClass s = none) : newData s = none := by
  unfold newData
  rw [h]

/-! ## The line's choice (09 R163) -/

section

variable (up : s.link.up = true)

include up

theorem chooseFrame_ready (ready : s.link.readyOwed = true) : chooseFrame s = sendReady s := by
  unfold chooseFrame
  rw [if_pos up, if_pos ready]

variable (ready : s.link.readyOwed = false)

include ready

theorem chooseFrame_wait {q : Seq} (wait : s.link.control = .wait q) : chooseFrame s = sendWait q s := by
  unfold chooseFrame
  rw [if_pos up, if_neg (by simp [ready]), wait]

theorem chooseFrame_nak (nak : s.link.control = .nak) : chooseFrame s = sendNak s := by
  unfold chooseFrame
  rw [if_pos up, if_neg (by simp [ready]), nak]

variable (control : s.link.control = .none)

include control

theorem chooseFrame_resend {e : Sent} (due : oldestResend s.link.replay = some e) : chooseFrame s = resendFrame e s := by
  unfold chooseFrame
  rw [if_pos up, if_neg (by simp [ready]), control]
  simp only [due]

variable (resend : ∀ e ∈ s.link.replay, e.resend = false)

include resend

theorem chooseFrame_data {t : State} (data : newData s = some t) : chooseFrame s = t := by
  unfold chooseFrame
  rw [if_pos up, if_neg (by simp [ready]), control]
  simp only [oldestResend_none resend, data]

theorem chooseFrame_ack (data : newData s = none) :
    chooseFrame s = if s.link.ackOwed then sendAck s else s := by
  unfold chooseFrame
  rw [if_pos up, if_neg (by simp [ready]), control]
  simp only [oldestResend_none resend, data]

end

theorem chooseFrame_down (down : s.link.up = false) :
    chooseFrame s = if s.link.beacon = some 0 then sendInit s else s := by
  unfold chooseFrame
  rw [if_neg (by simp [down])]
  simp only [beq_iff_eq]

/-- The beacon timer's expiry out of reset. -/
theorem exec_beacon (low : s.pins.resetLow = false) : exec .beaconTimerExpiry s =
    .next (if s.link.up = true ∨ s.link.beacon = none then s
      else if s.link.tx = none then sendInit s else s.modLink fun l => { l with beacon := some 0 }) := by
  refine congrArg Host.Outcome.next ?_
  simp only [low, Bool.false_or, Bool.or_eq_true, Option.isNone_iff_eq_none]

/-- Settles O16: the line's choice in each case, with the bytes of the frame that it sends. -/
theorem lineChoosesControlAndResendFrames : Obligations.LineChoosesControlAndResendFrames := by
  refine ⟨fun s low => ⟨fun up ready => ?_, fun up ready q wait => ?_, fun up ready nak => ?_,
    fun up ready control law pre e rest replay before due => ?_, fun line nothing => ?_, fun down => ?_⟩,
    fun s low => ⟨fun up => ?_, fun stopped => ?_, fun down runs free => ?_, fun down runs busy => ?_⟩⟩
  · rw [exec_frameTransmitEnd low, chooseFrame_ready (s := lineFree s) up ready]
    unfold sendReady
    rw [lineFree_sendUp]
    rfl
  · rw [exec_frameTransmitEnd low, chooseFrame_wait (s := lineFree s) up ready wait]
    unfold sendWait
    rw [lineFree_sendUp]
    rfl
  · rw [exec_frameTransmitEnd low, chooseFrame_nak (s := lineFree s) up ready nak]
    unfold sendNak
    rw [lineFree_sendUp]
    rfl
  · have oldest : oldestResend (lineFree s).link.replay = some e := by
      show oldestResend s.link.replay = some e
      rw [replay]
      exact oldestResend_some before due
    rw [exec_frameTransmitEnd low, chooseFrame_resend (s := lineFree s) up ready control oldest]
    unfold resendFrame
    rw [lineFree_sendUp, ← unmark_eq law replay before, ← replay]
    rfl
  · obtain ⟨_, up, ready, control, resend⟩ := line
    rw [exec_frameTransmitEnd low, chooseFrame_ack (s := lineFree s) up ready control resend
      (newData_none (nextClass_none (s := lineFree s) nothing))]
    cases owed : s.link.ackOwed with
    | false => rw [if_neg (by simp [lineFree, owed]), if_neg (by simp)]; rfl
    | true =>
      rw [if_pos (by simpa [lineFree] using owed), if_pos rfl]
      unfold sendAck
      rw [lineFree_sendUp]
      rfl
  · rw [exec_frameTransmitEnd low, chooseFrame_down (s := lineFree s) down]
    by_cases due : s.link.beacon = some 0
    · rw [if_pos due, if_pos (show (lineFree s).link.beacon = some 0 from due), sendInit_lineFree]
    · rw [if_neg due, if_neg (show ¬(lineFree s).link.beacon = some 0 from due)]
      rfl
  · rw [exec_beacon low, if_pos (.inl up)]
  · rw [exec_beacon low, if_pos (.inr stopped)]
  · rw [exec_beacon low, if_neg (by simp [down, Option.isSome_iff_ne_none.mp runs]), if_pos free]
    unfold sendInit
    rw [putFrame_eq]
    rfl
  · rw [exec_beacon low, if_neg (by simp [down, Option.isSome_iff_ne_none.mp runs]),
      if_neg (Option.isSome_iff_ne_none.mp busy)]
    rfl

/-! ## The outbound arbiter (09 R166) -/

section

variable (line : LineForData s)

include line

/-- A new DATA frame of the class that the arbiter serves. -/
theorem exec_newData {c : OutClass} {r : Message × State} (next : nextClass (lineFree s) = some c)
    (taken : takeMessage c (lineFree s) = some r) :
    exec .frameTransmitEnd s = .next (sentData r.2 c r.1) := by
  obtain ⟨low, up, ready, control, resend⟩ := line
  have data : newData (lineFree s) = some (sentData r.2 c r.1) := by
    unfold newData
    rw [next]
    simp only [taken, Option.map_some, sendData_eq]
  rw [exec_frameTransmitEnd low, chooseFrame_data (s := lineFree s) up ready control resend data]

end

theorem nextClass_eq (few : s.link.replay.length < 8) : nextClass (lineFree s)
    = (OutClass.rotation s.link.lastClass).find? fun c => c.offers (lineFree s) := by
  unfold nextClass
  exact if_pos few

section

variable (few : s.link.replay.length < 8)

include few

/-- The direct replies are served after the notices, and when the classes before them have nothing. -/
theorem nextClass_direct (some_ : s.direct ≠ [])
    (turn : s.link.lastClass = .notice ∨ (s.link.lastClass = .ready ∧ NoNoticeDue s)
      ∨ (s.link.lastClass = .direct ∧ s.ready = [] ∧ NoNoticeDue s)) :
    nextClass (lineFree s) = some .direct := by
  have offers : (OutClass.direct).offers (lineFree s) = true := by simpa [OutClass.offers, lineFree] using some_
  have notice : NoNoticeDue s → (OutClass.notice).offers (lineFree s) = false := fun h => by
    simp [OutClass.offers, (dueNotice_none_iff (lineFree s)).mpr h]
  rw [nextClass_eq few]
  rcases turn with last | ⟨last, none_⟩ | ⟨last, ready, none_⟩
  · simp [last, OutClass.rotation, offers]
  · simp [last, OutClass.rotation, offers, notice none_]
  · have : (OutClass.ready).offers (lineFree s) = false := by simp [OutClass.offers, lineFree, ready]
    simp [last, OutClass.rotation, offers, notice none_, this]

theorem nextClass_ready (some_ : s.ready ≠ [])
    (turn : s.link.lastClass = .direct ∨ (s.link.lastClass = .notice ∧ s.direct = [])
      ∨ (s.link.lastClass = .ready ∧ s.direct = [] ∧ NoNoticeDue s)) :
    nextClass (lineFree s) = some .ready := by
  have offers : (OutClass.ready).offers (lineFree s) = true := by simpa [OutClass.offers, lineFree] using some_
  have direct : s.direct = [] → (OutClass.direct).offers (lineFree s) = false := fun h => by
    simp [OutClass.offers, lineFree, h]
  rw [nextClass_eq few]
  rcases turn with last | ⟨last, none_⟩ | ⟨last, none_, notices⟩
  · simp [last, OutClass.rotation, offers]
  · simp [last, OutClass.rotation, offers, direct none_]
  · have : (OutClass.notice).offers (lineFree s) = false := by
      simp [OutClass.offers, (dueNotice_none_iff (lineFree s)).mpr notices]
    simp [last, OutClass.rotation, offers, direct none_, this]

theorem nextClass_notice {n : Carried} (due : dueNotice s = some n)
    (turn : s.link.lastClass = .ready ∨ (s.link.lastClass = .direct ∧ s.ready = [])
      ∨ (s.link.lastClass = .notice ∧ s.direct = [] ∧ s.ready = [])) :
    nextClass (lineFree s) = some .notice := by
  have offers : (OutClass.notice).offers (lineFree s) = true := Option.isSome_iff_exists.mpr ⟨n, due⟩
  have ready : s.ready = [] → (OutClass.ready).offers (lineFree s) = false := fun h => by
    simp [OutClass.offers, lineFree, h]
  rw [nextClass_eq few]
  rcases turn with last | ⟨last, none_⟩ | ⟨last, none_, none'⟩
  · simp [last, OutClass.rotation, offers]
  · simp [last, OutClass.rotation, offers, ready none_]
  · have : (OutClass.direct).offers (lineFree s) = false := by simp [OutClass.offers, lineFree, none_]
    simp [last, OutClass.rotation, offers, ready none', this]

end

/-! ## The bytes that the messages carry -/

theorem reply_eq (x : Tag) : x.reply = readyReply x := by
  unfold Tag.reply Tag.replyFields readyReply
  cases kind : x.kind
  · cases access : x.access <;> by_cases ok : x.status = .ok <;> simp [ok] <;> rfl
  · rfl
  · cases old : x.oldNew <;> rfl
  · rfl

theorem releaseTag_eq (t : Fin 32) (s : State) : releaseTag t s = { s with
    tags := s.tags.set t (if (s.tags.get t).busPending = true then { s.tags.get t with state := .discarding }
      else Tag.zero) } := by
  unfold releaseTag
  split <;> rfl

theorem faultBlock_eq (r : Option FaultRecord) : faultBlock r = recordBytes r := by
  have index : ∀ {n : Nat} (x : Option (Fin n)), optByte x = indexOr0 x := fun x => by cases x <;> rfl
  have kind : ∀ k : FaultKind, k.code = faultKindCode k := fun k => by cases k <;> rfl
  cases r with
  | none => rfl
  | some r =>
    obtain ⟨k, d, epoch, more⟩ := r
    have presence : d.presence = BitVec.ofNat 8 (weight d.port.isSome 1 + weight d.id.isSome 2
        + weight d.slot.isSome 4 + weight d.source.isSome 8 + weight d.localAddr.isSome 16
        + weight d.hostAddr.isSome 32) := by
      unfold FaultDetail.presence bitsByte weight
      congr 1
      simp only [List.foldr_cons, List.foldr_nil]
      grind
    unfold faultBlock recordBytes
    dsimp only
    rw [index, index, index, kind, presence]

/-- Bit k of a list of bits has the weight 2 ^ k. -/
theorem foldr_bits_eq_sum (l : List Bool) : l.foldr (fun b n => (if b then 1 else 0) + 2 * n) 0
    = (l.mapIdx fun k b => weight b (2 ^ k)).sum := by
  induction l with
  | nil => rfl
  | cons b l ih =>
    have double : (fun (k : Nat) (c : Bool) => weight c (2 ^ (k + 1)))
        = fun k c => 2 * weight c (2 ^ k) := by
      funext k c
      cases c <;> simp [weight, pow_succ, Nat.mul_comm]
    simp only [List.foldr_cons, List.mapIdx_cons, List.sum_cons, ih, double]
    congr 1
    rw [List.mapIdx_eq_zipIdx_map, List.mapIdx_eq_zipIdx_map, ← List.sum_map_mul_left]

theorem summaryBits_eq (t : Table Bool 9) : summaryBits t = summaryWord t := by
  have rows : t.rows = [t.get 0, t.get 1, t.get 2, t.get 3, t.get 4, t.get 5, t.get 6, t.get 7, t.get 8] := by
    rw [Table.rows_eq_map_get]
    rfl
  unfold summaryBits summaryWord
  rw [foldr_bits_eq_sum, rows]
  rfl

theorem jobNoticeBody_eq (j : Fin 4) (c : JobContent) (n : Byte) : jobNoticeBody j c n = jobEndBytes j c n := by
  have presence : bitsByte [c.failStatus.isSome, c.failAddr.isSome]
      = BitVec.ofNat 8 (weight c.failStatus.isSome 1 + weight c.failAddr.isSome 2) := by
    cases c.failStatus.isSome <;> cases c.failAddr.isSome <;> rfl
  unfold jobNoticeBody jobEndBytes
  rw [presence]
  cases c.failStatus <;> rfl

theorem holdSet_byte_eq (h : HoldSet) :
    h.byte = BitVec.ofNat 8 (weight h.host 1 + weight h.freeze 2 + weight h.guard 4) := by
  obtain ⟨a, b, c⟩ := h
  cases a <;> cases b <;> cases c <;> rfl

theorem asks_iff (s : State) (i : Fin 32) : (s.sources.get i).asks (s.pins.lines.get i) = true ↔ Asks s i := by
  unfold Source.asks Asks
  cases (s.sources.get i).trigger <;> simp

/-! ## The notices -/

section

variable (line : LineForData s) (few : s.link.replay.length < 8)
  (turn : s.link.lastClass = .ready ∨ (s.link.lastClass = .direct ∧ s.ready = [])
    ∨ (s.link.lastClass = .notice ∧ s.direct = [] ∧ s.ready = []))

include line few turn

theorem exec_notice {n : Carried} (due : dueNotice s = some n) :
    exec .frameTransmitEnd s
      = .next (sentData (buildNotice n (lineFree s)).2 .notice (buildNotice n (lineFree s)).1) := by
  refine exec_newData line (nextClass_notice few due turn) (r := buildNotice n (lineFree s)) ?_
  have due' : dueNotice (lineFree s) = some n := due
  unfold takeMessage
  simp only [due', Option.map_some]

end

/-- Settles O17: the class whose turn it is, its message, and its source without it. -/
theorem outboundArbiterServesTheClassesInTurn : Obligations.OutboundArbiterServesTheClassesInTurn := by
  intro s line few
  refine ⟨fun m ms direct turn => ?_, fun t ts ready turn => ?_, fun turn => ⟨fun fault => ?_, fun fault p due first => ?_,
    fun fault ports j k due latest first => ?_, fun fault ports jobs i offered first => ?_⟩⟩
  · refine exec_newData line (nextClass_direct few (by simp [direct]) turn) (r := (m, (lineFree s).setDirect ms)) ?_
    unfold takeMessage lineFree
    simp only [direct]
  · rw [exec_newData line (nextClass_ready few (by simp [ready]) turn)
      (r := ((s.tags.get t).reply, releaseTag t ((lineFree s).setReady ts)))
      (by unfold takeMessage lineFree; simp only [ready])]
    rw [reply_eq, releaseTag_eq]
    rfl
  · rw [exec_notice line few turn (dueNotice_fault fault), ← faultBlock_eq, ← summaryBits_eq]
    rfl
  · rw [exec_notice line few turn (dueNotice_port fault due first), ← holdSet_byte_eq]
    have held : yesNo ((s.ports.get p).state == .held) = if (s.ports.get p).state = .held then 1 else 0 := by
      simp [yesNo]
    rw [← held]
    rfl
  · rw [exec_notice line few turn (dueNotice_job fault ports due first), ← jobNoticeBody_eq]
    have notice : buildNotice (.jobNotice j) (lineFree s)
        = (noticeMessage 0x91 (jobNoticeBody j k (s.jobs.get j).overwritten) (.jobNotice j),
          (lineFree s).modJob j fun x => { x with sent := some k, latest := none, overwritten := 0, notice := .sent }) := by
      simp only [buildNotice, buildJobNotice, State.modJob, Table.modify, lineFree, latest]
    rw [notice]
    rfl
  · rw [exec_notice line few turn (dueNotice_source fault ports jobs (dueSource_eq offered first))]
    have asks : yesNo ((s.sources.get i).asks (s.pins.lines.get i)) = if Asks s i then 1 else 0 := by
      simp only [yesNo, asks_iff]
    rw [← asks]
    rfl

end Sys2Proof.Proofs.Outbound

/-! # The frames of the host that carry no request, and sessions (09 R157 to R162, R168 to R171) -/

namespace Sys2Proof.Proofs.LinkInput

-- One theorem after another: the proofs of this part at once ask for more threads than the check allows.
set_option Elab.async false

open Sys2Proof.Machine Sys2Proof.Safety Sys2Proof.Proofs.HostLinkLaw Sys2Proof.Proofs.Outbound

variable {s : State}

theorem newReplayTimer_eq (s : State) :
    newReplayTimer s = ⟨4000 * s.settings.replayTimeout.toNat, s.settings.replayTimeout⟩ := by
  simp only [newReplayTimer, Config.ms, Config.us, Config.quantaPerUs, ReplayTimer.mk.injEq, and_true]
  omega

/-! ## Frames that come to a hunting receiver -/

section

variable (low : s.pins.resetLow = false) (rx : s.link.rx = [])

include low rx

theorem exec_data {c : Instr} {f : FrameHead} {kind : Byte} {id : Half} {body : List Byte}
    (h : DataCommand c f kind id body) :
    exec c s = .next (takeData f kind (takenMessage kind id body) s) := by
  rw [exec_dataCommand h, dataFrame, hostFrame_clean _ _ _ low rx]

theorem exec_ack (f : FrameHead) (extra : List Byte) :
    exec (.hostAckFrame f extra) s = .next (takeAckFrame f s) :=
  congrArg Host.Outcome.next (hostFrame_clean _ _ _ low rx)

theorem exec_rate (f : FrameHead) (extra : List Byte) :
    exec (.rateChange f extra) s = .next (takeAckFrame f s) :=
  congrArg Host.Outcome.next (hostFrame_clean _ _ _ low rx)

theorem exec_nak (f : FrameHead) (extra : List Byte) :
    exec (.hostNak f extra) s = .next (takeNakFrame f s) :=
  congrArg Host.Outcome.next (hostFrame_clean _ _ _ low rx)

theorem exec_init (f : FrameHead) (extra : List Byte) :
    exec (.hostInit f extra) s = .next (takeInit s) :=
  congrArg Host.Outcome.next (hostFrame_clean _ _ _ low rx)

theorem exec_malformed (content : List Byte) :
    exec (.malformedFrame content) s = .next (goodFrame content s) :=
  congrArg Host.Outcome.next (hostFrame_clean _ _ _ low rx)

end

theorem takeData_down (down : s.link.up = false) (f : FrameHead) (kind : Byte) (act : State → State) :
    takeData f kind act s = s := by
  simp [takeData, down]

theorem takeData_up (up : s.link.up = true) (f : FrameHead) (kind : Byte) (act : State → State) :
    takeData f kind act s =
      if (takeAck f.ack s).2 = true then (takeAck f.ack s).1
      else placeData f.seq kind act (takeAck f.ack s).1 := by
  simp [takeData, up]

/-! ## A DATA frame that is not taken (09 R160, R161) -/

section

variable (q : Seq) (kind : Byte) (act : State → State)

theorem placeData_ahead (ahead : 1 ≤ (q - s.link.expected).toNat) (near : (q - s.link.expected).toNat ≤ 31) :
    placeData q kind act s = { s with link := { s.link with
      counters := { s.link.counters with outOfSequence := satInc s.link.counters.outOfSequence }
      control := s.link.control.addNak } } := by
  have other : q - s.link.expected ≠ 0 := fun h => by simp [h] at ahead
  unfold placeData
  simp only [if_neg other, if_pos near]
  rfl

theorem placeData_duplicate (far : 32 ≤ (q - s.link.expected).toNat) :
    placeData q kind act s = { s with link := { s.link with
      counters := { s.link.counters with duplicates := satInc s.link.counters.duplicates }
      ackOwed := true } } := by
  have other : q - s.link.expected ≠ 0 := fun h => by simp [h] at far
  have far' : ¬(q - s.link.expected).toNat ≤ 31 := by omega
  unfold placeData
  simp only [if_neg other, if_neg far']
  rfl

theorem placeData_noPlace (expected : (q - s.link.expected).toNat = 0) (needs : kind ≠ 0x12)
    (full : 4 ≤ s.direct.length) :
    placeData q kind act s = { s with link := { s.link with control := .wait q } } := by
  have same : q - s.link.expected = 0 := BitVec.eq_of_toNat_eq expected
  have waits : (needsPlace kind && decide (Config.directPlaces ≤ s.direct.length)) = true := by
    have place : needsPlace kind = true := bne_iff_ne.mpr needs
    simp [place, Config.directPlaces, full]
  unfold placeData
  simp only [same, waits, if_true]
  rfl

end

/-- Settles O9: each way of placing a frame that is not taken. -/
theorem dataFrameNotTaken : Obligations.DataFrameNotTaken := by
  intro c f kind id body s command low rx
  dsimp only
  rw [exec_data low rx command]
  refine ⟨fun down => by rw [takeData_down down], fun up nothing => ?_⟩
  rw [takeData_up up, takeAck_nothing nothing]
  refine ⟨fun ahead near => ?_, fun far => ?_, fun expected needs full => ?_⟩
  · exact congrArg Host.Outcome.next (placeData_ahead _ _ _ ahead near)
  · exact congrArg Host.Outcome.next (placeData_duplicate _ _ _ far)
  · exact congrArg Host.Outcome.next (placeData_noPlace _ _ _ expected needs full)

/-! ## Acknowledgements (09 R159) -/

/-- The link without the frames up to a named one. -/
def withoutUpTo (s : State) (rest : List Sent) : State :=
  { s with link := { s.link with
      replay := rest, expiryCount := 0
      replayTimer := if rest = [] then none
        else some ⟨4000 * s.settings.replayTimeout.toNat, s.settings.replayTimeout⟩ } }

theorem progress_eq {pre rest : List Sent} {e : Sent} (replay : s.link.replay = pre ++ e :: rest) :
    progress pre.length s = withoutUpTo s rest := by
  have left : s.link.replay.drop (pre.length + 1) = rest := by
    rw [replay, show pre ++ e :: rest = (pre ++ [e]) ++ rest by simp, List.drop_left' (by simp)]
  unfold progress withoutUpTo
  simp only [State.modLink, State.setLink, left, newReplayTimer_eq, List.isEmpty_iff]

theorem takeAck_named {a : Seq} {pre rest : List Sent} {e : Sent} (replay : s.link.replay = pre ++ e :: rest)
    (named : e.seq = a) (first : ∀ x ∈ pre, x.seq ≠ a) :
    takeAck a s = reportAcks (pre ++ [e]) (withoutUpTo s rest) := by
  have index := replayIndex_of (rest := rest) named first
  have taken : s.link.replay.take (pre.length + 1) = pre ++ [e] := by
    rw [replay, show pre ++ e :: rest = (pre ++ [e]) ++ rest by simp, List.take_left' (by simp)]
  rw [← replay] at index
  unfold takeAck
  rw [index]
  dsimp only
  rw [taken, progress_eq replay]

/-- Frames none of which carries out a FULL reset are reported one after another. -/
theorem reportAcks_eq {l : List Sent}
    (stays : s.settings.fullWaiting = true → ∀ x ∈ l, x.message.carries ≠ .fullReply) :
    reportAcks l s = (l.foldl reported s, false) := by
  induction l generalizing s with
  | nil => rfl
  | cons e l ih =>
    have here : ¬(e.message.carries == .fullReply && s.settings.fullWaiting) = true := by
      simp only [Bool.and_eq_true, beq_iff_eq, not_and]
      exact fun full waits => stays waits e List.mem_cons_self full
    have settings : (reported s e).settings = s.settings := by
      rw [← reportAck_eq]
      exact (reportAck_touches e s).settings (by simp)
    rw [reportAcks, if_neg here, reportAck_eq, List.foldl_cons]
    exact ih fun waits x mem => stays (settings ▸ waits) x (List.mem_cons_of_mem _ mem)

/-- The frame of a plain REPLY is reported to nobody. -/
theorem foldl_reported_replies {l : List Sent} (replies : ∀ x ∈ l, x.message.carries = .reply) :
    l.foldl reported s = s := by
  induction l with
  | nil => rfl
  | cons e l ih =>
    have here : reported s e = s := by
      unfold reported
      simp only [replies e List.mem_cons_self]
    rw [List.foldl_cons, here]
    exact ih fun x mem => replies x (List.mem_cons_of_mem _ mem)

theorem takeAckFrame_named {f : FrameHead} {pre rest : List Sent} {e : Sent} (up : s.link.up = true)
    (replay : s.link.replay = pre ++ e :: rest) (named : e.seq = f.ack) (first : ∀ x ∈ pre, x.seq ≠ f.ack)
    (stays : s.settings.fullWaiting = true → ∀ x ∈ pre ++ [e], x.message.carries ≠ .fullReply) :
    takeAckFrame f s = (pre ++ [e]).foldl reported (withoutUpTo s rest) := by
  unfold takeAckFrame
  rw [if_pos up, takeAck_named replay named first, reportAcks_eq (s := withoutUpTo s rest) stays]

theorem takeAckFrame_nothing {f : FrameHead} (nothing : AcksNothing f s) : takeAckFrame f s = s := by
  unfold takeAckFrame
  rw [takeAck_nothing nothing, ite_self]

/-- An ACK frame's named frame alone has a holder: those before it carry plain REPLYs. -/
theorem takeAckFrame_one {f : FrameHead} {pre rest : List Sent} {e : Sent} (up : s.link.up = true)
    (replay : s.link.replay = pre ++ e :: rest) (named : e.seq = f.ack)
    (first : ∀ x ∈ pre, x.seq ≠ f.ack ∧ x.message.carries = .reply)
    (stays : s.settings.fullWaiting = true → e.message.carries ≠ .fullReply) :
    takeAckFrame f s = reported (withoutUpTo s rest) e := by
  have none_full : s.settings.fullWaiting = true → ∀ x ∈ pre ++ [e], x.message.carries ≠ .fullReply := by
    intro waits x mem
    rcases List.mem_append.mp mem with mem | mem
    · simp [(first x mem).2]
    · rw [List.mem_singleton.mp mem]
      exact stays waits
  rw [takeAckFrame_named up replay named (fun x mem => (first x mem).1) none_full, List.foldl_append,
    foldl_reported_replies fun x mem => (first x mem).2]
  rfl

theorem exec_anyAck {c : Instr} {f : FrameHead} {extra : List Byte}
    (row : c = .hostAckFrame f extra ∨ c = .rateChange f extra) (low : s.pins.resetLow = false)
    (rx : s.link.rx = []) : exec c s = .next (takeAckFrame f s) := by
  rcases row with rfl | rfl
  · exact exec_ack low rx f extra
  · exact exec_rate low rx f extra

/-- Settles O11: an ACK frame is the report of the frames that leave, each to its holder. -/
theorem acknowledgementReportsToTheHolder : Obligations.AcknowledgementReportsToTheHolder := by
  intro c f extra s row low rx
  dsimp only
  rw [exec_anyAck row low rx]
  refine ⟨fun down => congrArg Host.Outcome.next (if_neg (by simp [down])),
    fun _ nothing => by rw [takeAckFrame_nothing nothing],
    fun up pre e rest replay named first stays => ?_, fun up pre e rest replay named first => ?_⟩
  · rw [takeAckFrame_named up replay named first stays]
    rfl
  · have one := fun stays => congrArg (Host.Outcome.next (φ := Fault) (ρ := Refusal))
      (takeAckFrame_one up replay named first stays)
    refine ⟨fun plain => ?_, fun full quiet => ?_, fun r rate => ?_, fun fault sent => ?_, fun p port sent => ?_,
      fun j job sent => ?_, fun i irq sent => ?_⟩
    · rcases plain with plain | plain <;> rw [one (by simp [plain]), reported] <;> simp only [plain] <;> rfl
    · rw [one (by simp [quiet]), reported]
      simp only [full]
      rfl
    · rw [one (by simp [rate]), reported]
      simp only [rate]
      rfl
    · rw [one (by simp [fault]), reported]
      simp only [fault]
      exact congrArg Host.Outcome.next (if_pos sent)
    · rw [one (by simp [port]), reported]
      simp only [port]
      exact congrArg Host.Outcome.next (if_pos sent)
    · rw [one (by simp [job]), reported]
      simp only [job]
      exact congrArg Host.Outcome.next (if_pos sent)
    · rw [one (by simp [irq]), reported]
      simp only [irq]
      have sent' : ((withoutUpTo s rest).sources.get i).state = .sent := sent
      by_cases its : (s.sources.get i).noticeSeq = some e.seq
      · have both : ((withoutUpTo s rest).sources.get i).state = .sent
            ∧ ((withoutUpTo s rest).sources.get i).noticeSeq = some e.seq := ⟨sent, its⟩
        rw [if_pos both, if_pos its]
        rfl
      · have not_both : ¬(((withoutUpTo s rest).sources.get i).state = .sent
            ∧ ((withoutUpTo s rest).sources.get i).noticeSeq = some e.seq) := fun h => its h.2
        rw [if_neg not_both, if_neg its]
        rfl

/-! ## The acknowledgement of a DATA frame -/

/-- Where the replay list is cut at the first frame of a number. -/
theorem exists_split {a : Seq} (some_ : ¬∀ e ∈ s.link.replay, e.seq ≠ a) :
    ∃ pre e rest, s.link.replay = pre ++ e :: rest ∧ e.seq = a ∧ ∀ x ∈ pre, x.seq ≠ a := by
  have found : (s.link.replay.find? fun e => e.seq == a).isSome := by
    rw [List.find?_isSome]
    simpa using some_
  obtain ⟨e, he⟩ := Option.isSome_iff_exists.mp found
  obtain ⟨same, pre, rest, replay, before⟩ := List.find?_eq_some_iff_append.mp he
  exact ⟨pre, e, rest, replay, by simpa using same, fun x mem => by simpa using before x mem⟩

/-- What taking an acknowledgement value leaves: a FULL reset, or a link in which the value names no frame
any more. -/
theorem takeAck_leaves (law : LinkLaw s) (a : Seq) :
    (∃ u, takeAck a s = (fullReset u, true))
      ∨ ((takeAck a s).2 = false ∧ (takeAck a s).1.link.rx = s.link.rx
        ∧ (takeAck a s).1.link.up = s.link.up ∧ ∀ e ∈ (takeAck a s).1.link.replay, e.seq ≠ a) := by
  by_cases nothing : ∀ e ∈ s.link.replay, e.seq ≠ a
  · right
    rw [takeAck_nothing nothing]
    exact ⟨rfl, rfl, rfl, nothing⟩
  · obtain ⟨pre, e, rest, replay, named, first⟩ := exists_split nothing
    rw [takeAck_named replay named first]
    refine (reportAcks_cases _ _).imp id fun ⟨ran, left, bytes, up⟩ => ⟨ran, bytes, up, fun x mem => ?_⟩
    rw [left] at mem
    exact named ▸ seq_ne_of_law law replay x mem

/-- Settles O10: the acknowledgement is taken once, and names nothing in the state that this leaves. -/
theorem acknowledgementIsTakenFirst : Obligations.AcknowledgementIsTakenFirst := by
  intro c f kind id body s command law low rx
  refine ⟨_, exec_ack low rx f [], ?_⟩
  rw [exec_data low rx command]
  unfold takeAckFrame
  by_cases up : s.link.up = true
  · rw [if_pos up, takeData_up up]
    have pins : (takeAck f.ack s).1.pins = s.pins := (takeAck_touches f.ack s).pins (by simp)
    rcases takeAck_leaves law f.ack with ⟨u, done⟩ | ⟨ran, bytes, still, nothing⟩
    · rw [done] at pins ⊢
      rw [if_pos rfl, exec_data (by rw [pins]; exact low) rfl command, takeData_down rfl]
    · rw [ran, if_neg Bool.false_ne_true,
        exec_data (by rw [pins]; exact low) (bytes.trans rx) command, takeData_up (still.trans up),
        takeAck_nothing nothing, if_neg Bool.false_ne_true]
  · rw [if_neg up, takeData_down (by simpa using up), exec_data low rx command,
      takeData_down (by simpa using up)]

/-! ## NAK (09 R162) -/

/-- The number of a frame by the number of frames behind it. -/
theorem seq_of_law (law : LinkLaw s) {pre rest : List Sent} {e : Sent}
    (replay : s.link.replay = pre ++ e :: rest) : e.seq + BitVec.ofNat 6 (rest.length + 1) = s.link.nextSend := by
  have length : s.link.replay.length = pre.length + (rest.length + 1) := by simp [replay]
  have here := law.consecutive pre.length (by omega)
  have it : s.link.replay[pre.length]'(by omega) = e := by simp [replay]
  rwa [it, length, Nat.add_sub_cancel_left] at here

/-- The frame before a frame has the number before its number. -/
theorem seq_before (law : LinkLaw s) {pre rest : List Sent} {x e : Sent}
    (replay : s.link.replay = pre ++ x :: e :: rest) : x.seq = e.seq - 1 := by
  have first := seq_of_law law replay
  have second := seq_of_law law (pre := pre ++ [x]) (by simpa using replay)
  have le := law.replay_le
  rw [replay] at le
  simp only [List.length_append, List.length_cons] at le
  rw [← second, List.length_cons] at first
  bv_omega

/-- The number before that of the first frame names no frame. -/
theorem seq_before_first (law : LinkLaw s) {e : Sent} {rest : List Sent} (replay : s.link.replay = e :: rest) :
    ∀ x ∈ s.link.replay, x.seq ≠ e.seq - 1 := by
  intro x mem before
  obtain ⟨a, b, split⟩ := List.append_of_mem mem
  have first := seq_of_law law (pre := []) replay
  have second := seq_of_law law split
  have le := law.replay_le
  have shorter : b.length + 1 ≤ rest.length + 1 := by
    have := congrArg List.length (replay.symm.trans split)
    simp only [List.length_append, List.length_cons] at this
    omega
  rw [replay, List.length_cons] at le
  rw [before, ← first] at second
  bv_omega

theorem markFrom_head {l : List Sent} {e : Sent} (head : l.head? = some e) :
    markFrom e.seq l = l.map fun x => { x with resend := true } := by
  obtain ⟨rest, rfl⟩ := List.head?_eq_some_iff.mp head
  have index : replayIndex (e :: rest) e.seq = some 0 :=
    replayIndex_of (pre := []) (rest := rest) rfl (by simp)
  unfold markFrom
  rw [index]
  rfl

/-- The acknowledgement of the number before a frame's leaves that frame first, or the list empty. -/
theorem takeAck_before (law : LinkLaw s) {e : Sent} (mem : e ∈ s.link.replay) :
    (takeAck (e.seq - 1) s).1.link.replay.head? = some e ∨ (takeAck (e.seq - 1) s).1.link.replay = [] := by
  obtain ⟨pre, rest, replay⟩ := List.append_of_mem mem
  rcases List.eq_nil_or_concat pre with rfl | ⟨pre, x, rfl⟩
  · left
    rw [takeAck_nothing (seq_before_first law replay), replay]
    rfl
  · have replay' : s.link.replay = pre ++ x :: e :: rest := by simpa using replay
    have named := seq_before law replay'
    have first : ∀ y ∈ pre, y.seq ≠ e.seq - 1 := by
      intro y mem' same
      obtain ⟨a, b, split⟩ := List.append_of_mem mem'
      have other := seq_ne_of_law law (pre := a) (e := y) (rest := b ++ x :: e :: rest) (by simp [replay', split])
      exact other x (by simp) (named.trans same.symm)
    rw [takeAck_named replay' named first]
    rcases reportAcks_cases (pre ++ [x]) (withoutUpTo s (e :: rest)) with ⟨u, done⟩ | ⟨-, left, -, -⟩
    · right
      rw [done]
      rfl
    · left
      rw [left]
      rfl

/-- Settles O12: the frames up to the named one are acknowledged, and the rest marked. -/
theorem nakMarksFromTheNamedFrame : Obligations.NakMarksFromTheNamedFrame := by
  intro f extra s low rx
  rw [exec_nak low rx, exec_ack low rx]
  refine ⟨fun down => congrArg Host.Outcome.next (if_neg (by simp [down])), fun up nothing => ?_,
    fun up law e mem named => ?_⟩
  · refine congrArg Host.Outcome.next ((if_pos up).trans ?_)
    unfold takeNak
    rw [replayIndex_none nothing]
    rfl
  · have ack : takeAckFrame { f with ack := f.ack - 1 } s = (takeAck (e.seq - 1) s).1 := by
      rw [takeAckFrame, if_pos up, named]
    have found : ∃ n, replayIndex s.link.replay f.ack = some n := by
      refine Option.isSome_iff_exists.mp ?_
      unfold replayIndex
      rw [List.findIdx?_isSome, List.any_eq_true]
      exact ⟨e, mem, by simpa using named⟩
    obtain ⟨n, index⟩ := found
    have left := takeAck_before law mem
    refine ⟨_, rfl, by rw [ack]; exact left, ?_⟩
    have marked : markFrom e.seq (takeAck (e.seq - 1) s).1.link.replay
        = (takeAck (e.seq - 1) s).1.link.replay.map fun x => { x with resend := true } := by
      rcases left with head | empty
      · exact markFrom_head head
      · rw [empty]
        rfl
    rw [ack, takeNakFrame, if_pos up, takeNak, index, ← named]
    simp only [State.modLink, State.setLink, marked]

/-! ## Sessions and the replay timer (09 R168 to R171) -/

section

variable (c : Status) (s : State)

theorem goDown_lists (p : Fin 4) : (goDown c s).lists.get p = (s.lists.get p).filter Entry.isPost := by
  have : (goDown c s).lists = (linkDownRequests s).lists := rfl
  rw [this, TagTable.linkDownRequests_lists]

theorem goDown_pool : (goDown c s).pool = s.pool.map fun r => r.map fun x => { x with covering := [] } := rfl

theorem goDown_tags : (goDown c s).tags = s.tags.map Tag.linkDown := rfl

theorem goDown_ports : (goDown c s).ports = s.ports.map Port.linkDown := rfl

theorem goDown_jobs : (goDown c s).jobs = s.jobs.map JobSlot.linkDown := rfl

theorem goDown_sources : (goDown c s).sources = s.sources.map Source.linkDown := rfl

end

/-- A link that goes down settles every block; what then becomes of the link itself is left open. -/
theorem goDown_wentDown (cause : Status) (s : State) (f : Link → Link) :
    WentDown cause s ((goDown cause s).modLink f) where
  faults := rfl
  direct := rfl
  lists p := by rw [State.modLink_lists, goDown_lists]
  pool k := by rw [State.modLink_pool, goDown_pool, Table.get_map]
  ready := rfl
  tags k := by
    rw [State.modLink_tags, goDown_tags, Table.get_map, Tag.linkDown]
    obtain ⟨state, _, _, _, _, _, _, _, _, _, _, _, pending⟩ := s.tags.get k
    cases state <;> cases pending <;> rfl
  ports p := by
    rw [State.modLink_ports, goDown_ports, Table.get_map, Port.linkDown]
    cases notice : (s.ports.get p).notice <;> simp
  jobs j := by
    rw [State.modLink_jobs, goDown_jobs, Table.get_map, JobSlot.linkDown]
    cases notice : (s.jobs.get j).notice <;> simp
  sources i := by
    rw [State.modLink_sources, goDown_sources, Table.get_map, Source.linkDown]
    cases state : (s.sources.get i).state <;> simp
  kept := by
    have other := (goDown_touches cause s).trans (modLink_touches (goDown cause s) f).within
    exact ⟨other.pins (by simp), other.settings (by simp), other.windows (by simp), other.nextPlace (by simp),
      other.freeDraws (by simp), other.pending (by simp)⟩

/-- Settles O13: a session opens; one that was open ends first. -/
theorem initEndsAndOpensASession : Obligations.InitEndsAndOpensASession := by
  intro f extra s low rx
  rw [exec_init low rx]
  unfold takeInit
  refine ⟨fun down => ?_, fun up quiet => ?_⟩
  · rw [if_neg (by simp [down])]
    rfl
  · rw [if_pos up, if_neg (by simp [quiet])]
    exact ⟨_, rfl, goDown_wentDown .aborted s _, rfl⟩

theorem exec_replayTimer (low : s.pins.resetLow = false) (runs : s.link.replayTimer.isSome = true) :
    exec .replayTimerExpiry s = .next (expireReplay s) := by
  refine congrArg Host.Outcome.next (if_neg ?_)
  simp [low, Option.isSome_iff_ne_none.mp runs]

/-- Settles O14: the expiry count tells a resend from the end of the session. -/
theorem replayTimerResendsThenEndsTheLink : Obligations.ReplayTimerResendsThenEndsTheLink := by
  intro s low
  refine ⟨fun stopped => congrArg Host.Outcome.next (if_pos (by simp [stopped])), fun runs few => ?_,
    fun runs last quiet => ?_⟩
  · rw [exec_replayTimer low runs]
    refine congrArg Host.Outcome.next ((if_neg ?_).trans ?_)
    · simp only [Config.replayLimit]
      omega
    · rw [newReplayTimer_eq]
      rfl
  · rw [exec_replayTimer low runs]
    refine ⟨_, rfl, ?_⟩
    have ends : expireReplay s = (goDown .timeout s).modLink fun l => { l with rate := 1, beacon := some 0 } := by
      unfold expireReplay exhaust
      dsimp only
      rw [last, if_pos (by decide), if_neg (by simp [quiet])]
    rw [ends]
    exact ⟨goDown_wentDown .timeout s _, rfl⟩

/-! ## Bad frames (09 R157, R158) -/

theorem collect_bad {len : Byte} {content crc after : List Byte} (whole : content.length = len.toNat)
    (two : crc.length = 2) (wrong : crc ≠ be16 (crc16 (len :: content))) :
    collect (syncByte :: len :: content ++ crc ++ after) = .bad := by
  unfold collect
  simp only [List.cons_append, List.append_assoc, List.length_append, two]
  rw [if_neg (by omega), List.take_left' whole, List.drop_left' whole, List.take_left' two, if_neg wrong]

theorem isMalformed_of_cases {content : List Byte}
    (bad : content.length < 5
      ∨ ∃ ftype seq ack fp ft rest, content = ftype :: seq :: ack :: fp :: ft :: rest
        ∧ ((ftype ≠ 1 ∧ ftype ≠ 2 ∧ ftype ≠ 3 ∧ ftype ≠ 5) ∨ (ftype = 1 ∧ rest.length < 3)
          ∨ 63 < seq.toNat ∨ 63 < ack.toNat)) : isMalformed content = true := by
  unfold isMalformed
  split
  · next ftype seq ack fp ft rest =>
    rcases bad with short | ⟨ftype', seq', ack', fp', ft', rest', same, faults⟩
    · simp only [List.length_cons] at short
      omega
    · cases same
      rcases faults with ⟨h1, h2, h3, h5⟩ | ⟨rfl, short⟩ | seq | ack
      · have none_ : leastLen ftype = none :=
          (if_neg h1).trans (if_neg fun h => h.elim h2 fun h => h.elim h3 h5)
        rw [none_]
      · have data : leastLen 1 = some 8 := rfl
        rw [data]
        simp only [List.length_cons, Bool.or_eq_true, decide_eq_true_eq]
        omega
      · split
        · rfl
        · simp [seq]
      · split
        · rfl
        · simp [ack]
  · rfl

/-- Settles O15: the receiver's test, and the test of a good frame's form. -/
theorem badFramesAreCountedAndDiscarded : Obligations.BadFramesAreCountedAndDiscarded := by
  intro s low
  refine ⟨fun hrx content crc after len bytes whole two wrong => ?_, fun content rx bad => ?_⟩
  · refine congrArg Host.Outcome.next ((if_neg (by simp [low])).trans ?_)
    unfold receiveBad
    dsimp only
    rw [bytes, show (0xC3 : Byte) = syncByte from rfl, collect_bad whole two wrong]
    rfl
  · rw [exec_malformed low rx]
    unfold goodFrame readFrame
    rw [if_pos (isMalformed_of_cases bad)]
    rfl

end Sys2Proof.Proofs.LinkInput

/-! # The window table in use (01 R4 to R12, 05 R93): decode, WINDOW-SET, the fill test, a job's ranges -/

namespace Sys2Proof.Proofs.WindowUse

-- One theorem after another: the proofs of this part at once ask for more threads than the check allows.
set_option Elab.async false

open Sys2Proof.Machine Sys2Proof.Safety Sys2Proof.Proofs.AddressWindows Sys2Proof.Proofs.WindowTable
  Sys2Proof.Proofs.Requests

/-! ## Decode (01 R4, R5, R7) -/

/-- The decode of an address through record `i`. -/
def hitOf (t : Table Window 16) (a : Word) (i : Fin 16) : Hit :=
  ⟨i, (t.get i).port, (t.get i).localBase + (a - (t.get i).hostBase), (t.get i).readOnly, (t.get i).postable,
    (t.get i).prefetchable, (t.get i).isVolatile⟩

section

variable {t : Table Window 16} {a : Word}

theorem decodeAddr_inRange (law : WindowLaw t) {i : Fin 16} (enabled : (t.get i).enabled = true)
    (inRange : InRange (t.get i) a) : decodeAddr t a = some (hitOf t a i) :=
  Option.map_eq_some_iff.mpr ⟨i, (decodeIndex_eq_some_iff law i a).mpr ⟨enabled, inRange⟩, rfl⟩

theorem decodeAddr_eq_some (law : WindowLaw t) {h : Hit} (hit : decodeAddr t a = some h) :
    h = hitOf t a h.window ∧ (t.get h.window).enabled = true ∧ InRange (t.get h.window) a := by
  obtain ⟨i, found, rfl⟩ := Option.map_eq_some_iff.mp hit
  exact ⟨rfl, (decodeIndex_eq_some_iff law i a).mp found⟩

theorem decodeAddr_miss (law : WindowLaw t) (miss : ∀ i, (t.get i).enabled = true → ¬InRange (t.get i) a) :
    decodeAddr t a = none := by
  refine Option.eq_none_iff_forall_ne_some.mpr fun h hit => ?_
  obtain ⟨-, enabled, inRange⟩ := decodeAddr_eq_some law hit
  exact miss _ enabled inRange

/-- Settles O19: no two enabled ranges meet, so the first record found is the one. -/
theorem decodeFindsTheOneWindow : Obligations.DecodeFindsTheOneWindow :=
  fun _ _ law => ⟨fun _ => decodeAddr_inRange law, decodeAddr_miss law⟩

/-- The bytes from an address, `n` of them, lie in the host range of the enabled record `i` (01 R7). -/
def Inside (t : Table Window 16) (n : Nat) (a : Word) (i : Fin 16) : Prop :=
  (t.get i).enabled = true ∧ InRange (t.get i) a
    ∧ a.toNat + n ≤ (t.get i).hostBase.toNat + 2 ^ (t.get i).sizeCode.val

/-- An aligned window ends within the host address space. -/
theorem end_le {w : Window} (aligned : Aligned w) : w.hostBase.toNat + 2 ^ w.sizeCode.val ≤ 2 ^ 32 := by
  have dvd : 2 ^ w.sizeCode.val ∣ 2 ^ 32 := pow_dvd_pow 2 (by omega)
  obtain ⟨k, hk⟩ := Nat.dvd_of_mod_eq_zero aligned
  obtain ⟨m, hm⟩ := dvd
  have lt : 2 ^ w.sizeCode.val * k < 2 ^ w.sizeCode.val * m := by
    rw [← hk, ← hm]
    exact w.hostBase.isLt
  have : k + 1 ≤ m := Nat.lt_of_mul_lt_mul_left lt
  calc w.hostBase.toNat + 2 ^ w.sizeCode.val = 2 ^ w.sizeCode.val * (k + 1) := by rw [hk, Nat.mul_succ]
    _ ≤ 2 ^ w.sizeCode.val * m := Nat.mul_le_mul_left _ this
    _ = 2 ^ 32 := hm.symm

variable {n : Nat} (positive : 0 < n)

include positive

/-- The last byte of a range lies in the window of its first. -/
theorem last_covered_iff (law : WindowLaw t) {i : Fin 16} (enabled : (t.get i).enabled = true)
    (inRange : InRange (t.get i) a) :
    (a.toNat + (n - 1) < 2 ^ 32 ∧ (t.get i).covers (BitVec.ofNat 32 (a.toNat + (n - 1))) = true)
      ↔ Inside t n a i := by
  have le := end_le (WindowLaw.aligned' law enabled)
  rw [covers_iff (law.aligned i enabled).1, InRange, BitVec.toNat_ofNat]
  constructor
  · rintro ⟨small, -, last⟩
    rw [Nat.mod_eq_of_lt small] at last
    exact ⟨enabled, inRange, by omega⟩
  · rintro ⟨-, inRange, within⟩
    have small : a.toNat + (n - 1) < 2 ^ 32 := by omega
    rw [Nat.mod_eq_of_lt small]
    exact ⟨small, Nat.le_trans inRange.1 (Nat.le_add_right _ _), by omega⟩

theorem decodeRange_inside (law : WindowLaw t) {i : Fin 16} (inside : Inside t n a i) :
    decodeRange t a n = some (hitOf t a i) := by
  obtain ⟨enabled, inRange, within⟩ := inside
  unfold decodeRange
  rw [decodeAddr_inRange law enabled inRange]
  exact if_pos ((last_covered_iff positive law enabled inRange).mpr ⟨enabled, inRange, within⟩)

theorem decodeRange_outside (law : WindowLaw t) (outside : ∀ i, ¬Inside t n a i) : decodeRange t a n = none := by
  unfold decodeRange
  cases hit : decodeAddr t a with
  | none => rfl
  | some h =>
    obtain ⟨-, enabled, inRange⟩ := decodeAddr_eq_some law hit
    exact if_neg (mt (last_covered_iff positive law enabled inRange).mp (outside h.window))

end

/-! ## A job's ranges (05 R93) -/

section

variable {t : Table Window 16} {d : Descriptor} (law : WindowLaw t) (length : 0 < d.length.toNat)

include law length

theorem validateSource_inside {i : Fin 16} (uses : d.kind.usesSource = true)
    (inside : Inside t d.length.toNat d.source i) :
    validateSource t d = .ok (some (rangeOf (hitOf t d.source i))) := by
  unfold validateSource
  rw [if_pos uses, decodeRange_inside length law inside]

theorem validateSource_outside (uses : d.kind.usesSource = true)
    (outside : ∀ i, ¬Inside t d.length.toNat d.source i) :
    validateSource t d = .error ⟨.unmapped, d.source⟩ := by
  unfold validateSource
  rw [if_pos uses, decodeRange_outside length law outside]

theorem validateDestination_inside {k : Fin 16} (uses : d.kind.usesDestination = true)
    (inside : Inside t d.length.toNat d.destination k) :
    validateDestination t d = if (t.get k).readOnly = true then .error ⟨.isProtected, d.destination⟩
      else .ok (some (rangeOf (hitOf t d.destination k))) := by
  unfold validateDestination
  rw [if_pos uses, decodeRange_inside length law inside]
  rfl

theorem validateDestination_outside (uses : d.kind.usesDestination = true)
    (outside : ∀ k, ¬Inside t d.length.toNat d.destination k) :
    validateDestination t d = .error ⟨.unmapped, d.destination⟩ := by
  unfold validateDestination
  rw [if_pos uses, decodeRange_outside length law outside]

end

theorem validateSource_unused {t : Table Window 16} {d : Descriptor} (unused : d.kind.usesSource = false) :
    validateSource t d = .ok none := if_neg (by simp [unused])

theorem validateDestination_unused {t : Table Window 16} {d : Descriptor}
    (unused : d.kind.usesDestination = false) : validateDestination t d = .ok none := if_neg (by simp [unused])

/-- Settles O39: each range that the kind uses is decoded whole, the source first. -/
theorem jobStartIsValidated : Obligations.JobStartIsValidated := by
  intro t d law length
  refine ⟨fun kind outside => ?_, fun i inside kind => ?_, fun ready => ⟨fun outside => ?_, fun k inside ro => ?_⟩,
    fun k inside rw_ => ⟨fun kind => ?_, fun i source kind => ?_⟩⟩
  · have uses : d.kind.usesSource = true := by cases h : d.kind <;> simp_all [JobKind.usesSource]
    rw [validate, validateSource_outside law length uses outside]
  · rw [validate, validateSource_inside law length (by rw [kind]; rfl) inside,
      validateDestination_unused (by rw [kind]; rfl)]
    rfl
  · have failed := validateDestination_outside law length (d := d)
      (by rcases ready with kind | ⟨kind, -⟩ <;> rw [kind] <;> rfl) outside
    rcases ready with kind | ⟨kind, i, source⟩
    · rw [validate, validateSource_unused (by rw [kind]; rfl), failed]
    · rw [validate, validateSource_inside law length (by rw [kind]; rfl) source, failed]
  · have failed := validateDestination_inside law length (d := d)
      (by rcases ready with kind | ⟨kind, -⟩ <;> rw [kind] <;> rfl) inside
    rw [if_pos ro] at failed
    rcases ready with kind | ⟨kind, i, source⟩
    · rw [validate, validateSource_unused (by rw [kind]; rfl), failed]
    · rw [validate, validateSource_inside law length (by rw [kind]; rfl) source, failed]
  · rw [validate, validateSource_unused (by rw [kind]; rfl),
      validateDestination_inside law length (by rw [kind]; rfl) inside, if_neg (by simp [rw_])]
    rfl
  · rw [validate, validateSource_inside law length (by rw [kind]; rfl) source,
      validateDestination_inside law length (by rw [kind]; rfl) inside, if_neg (by simp [rw_])]
    rfl

/-! ## WINDOW-SET (01 R8 to R11) -/

theorem flags_getLsbD (w : Window) : w.flags.getLsbD 0 = w.readOnly ∧ w.flags.getLsbD 1 = w.postable
    ∧ w.flags.getLsbD 2 = w.prefetchable ∧ w.flags.getLsbD 3 = w.isVolatile := by
  unfold Window.flags
  cases w.readOnly <;> cases w.postable <;> cases w.prefetchable <;> cases w.isVolatile <;> decide

theorem flags_le (w : Window) : w.flags.toNat ≤ 15 := by
  unfold Window.flags
  cases w.readOnly <;> cases w.postable <;> cases w.prefetchable <;> cases w.isVolatile <;> decide

/-- The body of a WINDOW-SET of record `i` (08 R146). -/
def windowSetBody (i : Fin 16) (w : Window) : List Byte :=
  [BitVec.ofNat 8 i.val, yesNo w.enabled] ++ be32 w.hostBase
    ++ [BitVec.ofNat 8 w.sizeCode.val, BitVec.ofNat 8 w.port.val] ++ be32 w.localBase ++ [w.flags]

theorem windowOf_windowSetBody (i : Fin 16) (w : Window) : windowOf (windowSetBody i w) = w := by
  have enabled : (u8 (windowSetBody i w) 1 == 1) = w.enabled := yesNo_eq_one w.enabled
  have hostBase : u32 (windowSetBody i w) 2 = w.hostBase := wordBE_be32 w.hostBase
  have sizeCode : indexOf 31 (u8 (windowSetBody i w) 6) = w.sizeCode := indexOf_ofNat (by decide) w.sizeCode
  have port : indexOf 3 (u8 (windowSetBody i w) 7) = w.port := indexOf_ofNat (by decide) w.port
  have localBase : u32 (windowSetBody i w) 8 = w.localBase := wordBE_be32 w.localBase
  have flags : u8 (windowSetBody i w) 12 = w.flags := rfl
  obtain ⟨f0, f1, f2, f3⟩ := flags_getLsbD w
  unfold windowOf
  rw [enabled, hostBase, sizeCode, port, localBase, flags, f0, f1, f2, f3]

theorem intakeRefusal_windowSet (i : Fin 16) {w : Window} (size : 12 ≤ w.sizeCode.val) :
    intakeRefusal .windowSet (windowSetBody i w) = none := by
  refine intakeRefusal_ok rfl ?_
  have index : (BitVec.ofNat 8 i.val).toNat = i.val := indexByte_toNat (by decide) i
  have code : (BitVec.ofNat 8 w.sizeCode.val).toNat = w.sizeCode.val := indexByte_toNat (by decide) _
  have port : (BitVec.ofNat 8 w.port.val).toNat = w.port.val := indexByte_toNat (by decide) _
  have enabled := yesNo_le w.enabled
  have flags := flags_le w
  have fields : fieldsOk .windowSet (windowSetBody i w)
      = (atMost 15 (BitVec.ofNat 8 i.val) && isYesNo (yesNo w.enabled)
        && decide (12 ≤ (BitVec.ofNat 8 w.sizeCode.val).toNat ∧ (BitVec.ofNat 8 w.sizeCode.val).toNat ≤ 31)
        && atMost 3 (BitVec.ofNat 8 w.port.val) && atMost 15 w.flags) := rfl
  rw [fields]
  simp only [atMost, isYesNo, index, code, port, Bool.and_eq_true, decide_eq_true_eq]
  omega

section

variable {f : FrameHead} {s : State}

/-- An expected WINDOW-SET is answered with what its check finds. -/
theorem exec_windowSet (expected : Expected f s) (room : Room s) (id : Half) (i : Fin 16) {w : Window}
    (size : 12 ≤ w.sizeCode.val) {st : Status} {conflict : Option (Fin 16)}
    (check : checkWindow s.windows i w = (st, conflict)) :
    exec (.windowSet f id (windowSetBody i w)) s =
      .next (answer (if st = .ok then takeWindow i w (took s) else took s) id 0x30 st.code
        [BitVec.ofNat 8 i.val, (conflict.map fun j => countByte j.val).getD 255]) := by
  refine (exec_request_ok (k := .windowSet) expected room (by decide) id (intakeRefusal_windowSet i size)).trans
    (congrArg Host.Outcome.next ?_)
  have index : indexOf 15 (u8 (windowSetBody i w) 0) = i := indexOf_ofNat (by decide) i
  have check' : checkWindow (took s).windows i w = (st, conflict) := check
  unfold owner ownWindowSet
  rw [windowOf_windowSetBody, index]
  simp only [check', beq_iff_eq]
  rfl

end

theorem discardLine_eq (x : Port) : x.discardLine = lineDropped x := by
  unfold Port.discardLine lineDropped Port.filling
  cases x.txn <;> simp

theorem discardLines_get (p q r : Fin 4) (s : State) :
    (discardLines p q s).ports.get r
      = if r = p ∨ r = q then lineDropped (s.ports.get r) else s.ports.get r := by
  have twice : ∀ x : Port, lineDropped (lineDropped x) = lineDropped x := fun x => by
    simp [lineDropped]
  have ports : (discardLines p q s).ports
      = (s.ports.modify p Port.discardLine).modify q Port.discardLine := rfl
  rw [ports, Table.get_modify, Table.get_modify, discardLine_eq, discardLine_eq]
  by_cases hp : p = r <;> by_cases hq : q = r <;> simp [hp, hq, twice, eq_comm]

theorem takeWindow_get (i : Fin 16) (w : Window) (s : State) (p : Fin 4) :
    (takeWindow i w s).ports.get p
      = if p = (s.windows.get i).port ∨ p = w.port then lineDropped (s.ports.get p) else s.ports.get p :=
  discardLines_get _ _ _ _

/-- Settles O21: the check of the record decides, and a taken record is set. -/
theorem windowSetIsTakenOrRefusedWhole : Obligations.WindowSetIsTakenOrRefusedWhole := by
  intro f id i w s expected room law size
  refine ⟨fun enabled bad => ?_, fun enabled good j meets first => ?_, fun fine => ?_⟩
  · exact exec_windowSet expected room id i size (checkWindow_inconsistent i enabled bad)
  · exact exec_windowSet expected room id i size (checkWindow_conflict law i enabled good meets first)
  · have check : checkWindow s.windows i w = (.ok, none) := by
      cases enabled : w.enabled with
      | false => exact checkWindow_disabled i enabled
      | true =>
        obtain ⟨good, clear⟩ := fine enabled
        exact checkWindow_clear law i enabled good clear
    exact ⟨_, exec_windowSet expected room id i size check, takeWindow_get i w (took s)⟩

/-! ## The fill test (01 R12, 04 R81) -/

theorem nextLine_eq (a : Word) : nextLine a = BitVec.ofNat 32 (a.toNat / 64 * 64 + 64) := by
  refine BitVec.eq_of_toNat_eq ?_
  rw [nextLine, BitVec.toNat_add, block64, clearLow_toNat, BitVec.toNat_ofNat]
  rfl

theorem mayFill_iff (t : Table Window 16) (x : Access) : mayFill t x = true ↔
    (t.get x.window).enabled = true ∧ (t.get x.window).prefetchable = true ∧ (t.get x.window).port = x.port
      ∧ (t.get x.window).hostBase.toNat
          = x.hostAddr.toNat / 2 ^ (t.get x.window).sizeCode.val * 2 ^ (t.get x.window).sizeCode.val
      ∧ (t.get x.window).localBase + (x.hostAddr - (t.get x.window).hostBase) = x.localAddr
      ∧ 64 ≤ 2 ^ (t.get x.window).sizeCode.val
      ∧ (BitVec.ofNat 32 (x.localAddr.toNat / 64 * 64 + 64) - (t.get x.window).localBase).toNat
          ≤ 2 ^ (t.get x.window).sizeCode.val - 64 := by
  have covers : (t.get x.window).covers x.hostAddr = true ↔ (t.get x.window).hostBase.toNat
      = x.hostAddr.toNat / 2 ^ (t.get x.window).sizeCode.val * 2 ^ (t.get x.window).sizeCode.val := by
    rw [Window.covers, beq_iff_eq, ← BitVec.toNat_inj, clearLow_toNat, eq_comm]
  unfold mayFill
  simp only [Bool.and_eq_true, beq_iff_eq, decide_eq_true_eq, covers, nextLine_eq, Window.bytes,
    Window.translate, and_assoc]
  have whole : ∀ n m : Nat, n + 64 ≤ m ↔ 64 ≤ m ∧ n ≤ m - 64 := fun n m => by omega
  rw [whole]

theorem requestFill_eq (y : Port) (next : Word)
    (none_ : ¬((y.lineValid = true ∧ y.lineAddr = next) ∨ y.pendingFill = some next
      ∨ ∃ t, y.txn = some t ∧ t.initiator = .fill ∧ t.localAddr = next)) :
    y.requestFill next = { y with pendingFill := some next } := by
  simp only [not_or] at none_
  obtain ⟨line, pending, filling⟩ := none_
  have filling' : y.fillingLine next = false := by
    unfold Port.fillingLine
    cases txn : y.txn with
    | none => rfl
    | some t =>
      simp only [Bool.and_eq_false_iff, beq_eq_false_iff_ne, ← not_and_or]
      exact fun ⟨i, a⟩ => filling ⟨t, txn, i, a⟩
  unfold Port.requestFill
  rw [if_neg (by simpa using line), if_neg (by simp [pending, filling'])]

theorem requestFill_same (y : Port) (next : Word)
    (some_ : (y.lineValid = true ∧ y.lineAddr = next) ∨ y.pendingFill = some next
      ∨ ∃ t, y.txn = some t ∧ t.initiator = .fill ∧ t.localAddr = next) :
    y.requestFill next = y := by
  unfold Port.requestFill
  rcases some_ with line | pending | ⟨t, txn, i, a⟩
  · exact if_pos (by simpa using line)
  · rw [pending]
    simp
  · have filling : y.fillingLine next = true := by
      unfold Port.fillingLine
      rw [txn]
      simp [i, a]
    simp [filling]

/-- Settles O23: the window table's answer, then the port's. -/
theorem fillTestAsksForTheNextLine : Obligations.FillTestAsksForTheNextLine := by
  intro x s prefetchable w y next may have_
  have answer : mayFill s.windows x = true ↔ may := mayFill_iff s.windows x
  have asks : may → fillTest x s = { s with ports := s.ports.set x.port (y.requestFill next) } := fun h => by
    unfold fillTest
    rw [if_pos (by rw [prefetchable, answer.mpr h]; rfl), nextLine_eq]
    rfl
  refine ⟨fun yes none_ => ?_, fun yes some_ => ?_, fun no => ?_⟩
  · rw [asks yes, requestFill_eq y next none_]
  · rw [asks yes, requestFill_same y next some_, Table.set_get_self]
  · exact if_neg fun h => no (answer.mp (by simpa using (Bool.and_eq_true _ _ ▸ h).2))

end Sys2Proof.Proofs.WindowUse

/-! # Admission (02 R17 to R22, R31), hold reasons (04 R75 to R77) and ABORT (03 R55) -/

namespace Sys2Proof.Proofs.Admission

-- One theorem after another: the proofs of this part at once ask for more threads than the check allows.
set_option Elab.async false

open Sys2Proof.Machine Sys2Proof.Safety Sys2Proof.Proofs.AddressWindows Sys2Proof.Proofs.WindowTable
  Sys2Proof.Proofs.Requests Sys2Proof.Proofs.RequestTurns

/-! ## Hold sets (04 R75 to R77, 01 R15) -/

theorem changeEveryPort_get (f : Port → Port) (s : State) (p : Fin 4) :
    (changeEveryPort f s).ports.get p = noticed (s.ports.get p) (f (s.ports.get p)) := by
  have ports : (changeEveryPort f s).ports = s.ports.map fun x => x.change f := rfl
  rw [ports, Table.get_map, change_eq]

theorem changePort_get (f : Port → Port) (s : State) (p q : Fin 4) :
    (changePort p f s).ports.get q
      = if p = q then noticed (s.ports.get q) (f (s.ports.get q)) else s.ports.get q := by
  have ports : (changePort p f s).ports = s.ports.modify p fun x => x.change f := rfl
  rw [ports, Table.get_modify, change_eq]

/-- A port named by the byte of a request: one port, or all four for 255 (04 R75, R76). -/
def Named (b : Byte) (p : Fin 4) : Prop := b = 255 ∨ b.toNat = p.val

section

variable {f : FrameHead} {s : State} {b : Byte}

theorem onNamedPorts_get (valid : b.toNat ≤ 3 ∨ b = 255) (change : Port → Port) (p : Fin 4) :
    (Named b p → (onNamedPorts b change s).ports.get p = noticed (s.ports.get p) (change (s.ports.get p)))
      ∧ (¬Named b p → (onNamedPorts b change s).ports.get p = s.ports.get p) := by
  unfold onNamedPorts Named
  by_cases all : b = 255
  · rw [if_pos all]
    exact ⟨fun _ => changeEveryPort_get change s p, fun no => absurd (.inl all) no⟩
  · have one : indexOf 3 b = p ↔ b.toNat = p.val := by
      have le := valid.resolve_right all
      rw [indexOf, Fin.ext_iff, Fin.val_ofNat, Nat.mod_eq_of_lt (by omega)]
    rw [if_neg all, changePort_get]
    exact ⟨fun yes => if_pos (one.mpr (yes.resolve_left all)), fun no => if_neg fun h => no (.inr (one.mp h))⟩

theorem onNamedPorts_eq (change : Port → Port) :
    onNamedPorts b change s = { s with ports := (onNamedPorts b change s).ports } := by
  unfold onNamedPorts
  split <;> rfl

theorem intakeRefusal_port {k : RequestKind} (length : ∀ body, requiredLength k body = 1)
    (fields : fieldsOk k [b] = atMostOrAll 3 b) (valid : b.toNat ≤ 3 ∨ b = 255) :
    intakeRefusal k [b] = none := by
  refine intakeRefusal_ok (by rw [length]; rfl) ?_
  rw [fields, atMostOrAll, decide_eq_true_eq]
  exact valid.imp id fun h => by rw [h]; rfl

end

theorem exec_freeze {s : State} (low : s.pins.resetLow = false) (v : Bool) :
    setFreezePin v s = { s with
      pins := { s.pins with freeze := v }, ports := (changeEveryPort (Port.setFreeze v) s).ports } := by
  unfold setFreezePin
  exact if_neg (by simp [low])

/-- Settles O7: a hold reason is a change of each port that it names. -/
theorem holdReasonsJoinAndLeave : Obligations.HoldReasonsJoinAndLeave := by
  refine ⟨fun s low => ⟨⟨_, congrArg Host.Outcome.next (exec_freeze low true), changeEveryPort_get _ s⟩,
    ⟨_, congrArg Host.Outcome.next (exec_freeze low false), changeEveryPort_get _ s⟩⟩,
    fun f id b s expected room valid => ⟨?_, ?_⟩⟩
  · refine ⟨(onNamedPorts b Port.addHost (took s)).ports, ?_, onNamedPorts_get (s := took s) valid Port.addHost⟩
    refine (exec_request_ok (k := .portHold) expected room (by decide) id
      (intakeRefusal_port (fun _ => rfl) rfl valid)).trans (congrArg Host.Outcome.next ?_)
    show ownPortHold id [b] (took s) = _
    unfold ownPortHold
    rw [show u8 [b] 0 = b from rfl, onNamedPorts_eq]
    rfl
  · refine ⟨(onNamedPorts b Port.release (took s)).ports, ?_, onNamedPorts_get (s := took s) valid Port.release⟩
    refine (exec_request_ok (k := .portRelease) expected room (by decide) id
      (intakeRefusal_port (fun _ => rfl) rfl valid)).trans (congrArg Host.Outcome.next ?_)
    show ownPortRelease id [b] (took s) = _
    unfold ownPortRelease
    rw [show u8 [b] 0 = b from rfl, onNamedPorts_eq]
    rfl

/-! ## The checks of admission (02 R18) -/

section

variable {k : RequestKind} {a : Word} {n : Nat} {hit : Option Hit}

theorem checkAccess_misplaced (bad : Misplaced a n hit) : checkAccess k a n hit = .error .misaligned :=
  if_pos ((isMisaligned_iff a n hit).mpr bad)

theorem checkAccess_placed (good : ¬Misplaced a n hit) : isMisaligned a n hit = false :=
  Bool.eq_false_iff.mpr (mt (isMisaligned_iff a n hit).mp good)

theorem checkAccess_miss (good : ¬Misplaced a n none) : checkAccess k a n none = .error .unmapped := by
  unfold checkAccess
  rw [checkAccess_placed good]
  rfl

variable {h : Hit} (good : ¬Misplaced a n (some h))

include good

theorem checkAccess_hit : checkAccess k a n (some h) =
    if (h.readOnly && k != .read) = true then .error .isProtected
    else if (k == .post && !h.postable) = true then .error .notPostable else .ok h := by
  unfold checkAccess
  rw [checkAccess_placed good]
  rfl

theorem checkAccess_protected (readOnly : h.readOnly = true) (writes : k ≠ .read) :
    checkAccess k a n (some h) = .error .isProtected := by
  rw [checkAccess_hit good, if_pos (by simp [readOnly, writes])]

theorem checkAccess_allowed (allowed : h.readOnly = false ∨ k = .read) (notPost : k ≠ .post) :
    checkAccess k a n (some h) = .ok h := by
  rw [checkAccess_hit good, if_neg (by rcases allowed with h | h <;> simp [h]), if_neg (by simp [notPost])]

end

/-- The tag that is found, or the refusal for want of one (02 R18 check 5a). -/
def tagOr : Option (Fin 32) → Except Status (Fin 32)
  | some t => .ok t
  | none => .error .noTag

section

variable {s : State} {id : Half}

theorem checkTag_duplicate (used : IdInUse s id) : checkTag id s.tags = .error .duplicateId :=
  if_pos ((liveTag_isSome s id).mpr used)

theorem checkTag_unused (unused : ¬IdInUse s id) : checkTag id s.tags = tagOr (freeTag s.tags) := by
  unfold checkTag
  rw [if_neg (mt (liveTag_isSome s id).mp unused)]
  cases freeTag s.tags <;> rfl

theorem checkTag_none (unused : ¬IdInUse s id) (full : ∀ t, (s.tags.get t).state ≠ .free) :
    checkTag id s.tags = .error .noTag := by
  have none_ : freeTag s.tags = none := find_indices_eq_none.mpr fun t => by simpa using full t
  rw [checkTag_unused unused, none_, tagOr]

theorem checkTag_free (unused : ¬IdInUse s id) {t : Fin 32} (lowest : LowestFree s t) :
    checkTag id s.tags = .ok t := by
  rw [checkTag_unused unused, freeTag_lowest lowest, tagOr]

/-- A miss under HOLD: GUARD joins every hold set, and a GUARD-MISS fault is reported (01 R15). -/
theorem guardMiss_hold (policy : s.settings.missPolicy = .hold) (a : Word) (i : Option Half) :
    guardMiss a i s = { s with
      ports := (changeEveryPort Port.addGuard s).ports
      faults := faulted s .guardMiss ⟨.unmapped, none, i, none, none, none, some a⟩ } := by
  unfold guardMiss
  rw [policy]
  rfl

theorem guardMiss_reply (policy : s.settings.missPolicy = .reply) (a : Word) (i : Option Half) :
    guardMiss a i s = s := by
  unfold guardMiss
  rw [policy]

end

/-! ## READ, WRITE and MODIFY (02 R19, R21) -/

section

variable {k : RequestKind} {f : FrameHead} {s : State} {body : List Byte}

/-- READ, WRITE and MODIFY. -/
def IsAccess (k : RequestKind) : Prop := k = .read ∨ k = .write ∨ k = .modify

theorem IsAccess.notPost (h : IsAccess k) : k ≠ .post := by
  rcases h with rfl | rfl | rfl <;> decide

theorem owner_access (h : IsAccess k) (id : Half) : owner k id body = ownTagged k id body := by
  rcases h with rfl | rfl | rfl <;> rfl

variable (access : IsAccess k) (expected : Expected f s) (room : Room s)
  (length : body.length = requiredLength k body) (fields : fieldsOk k body = true)

include access expected room length fields

theorem exec_access (id : Half) :
    exec (requestInstr k f id body) s = .next (ownTagged k id body (took s)) := by
  rw [exec_request_ok expected room access.notPost id (intakeRefusal_ok length fields), owner_access access]

/-- A request that fails checks 1 to 3 is refused, a miss with its guard. -/
theorem exec_access_failing (id : Half) {st : Status}
    (failing : checkAccess k (u32 body 0) (u8 body 4).toNat (decodeAddr s.windows (u32 body 0)) = .error st) :
    exec (requestInstr k f id body) s = .next (answer
      (if st = .unmapped then guardMiss (u32 body 0) (some id) (took s) else took s) id k.code st.code
      (badFieldFields k body)) := by
  rw [exec_access access expected room length fields]
  unfold ownTagged
  have failing' : checkAccess k (u32 body 0) (u8 body 4).toNat (decodeAddr (took s).windows (u32 body 0))
      = .error st := failing
  simp only [failing', beq_iff_eq]
  rfl

/-- A request that passes checks 1 to 3 and fails one of checks 4 and 5 is refused. -/
theorem exec_access_noTag (id : Half) {h : Hit} {st : Status}
    (passes : checkAccess k (u32 body 0) (u8 body 4).toNat (decodeAddr s.windows (u32 body 0)) = .ok h)
    (failing : checkTag id s.tags = .error st) :
    exec (requestInstr k f id body) s = .next (answer (took s) id k.code st.code (badFieldFields k body)) := by
  rw [exec_access access expected room length fields]
  unfold ownTagged
  have passes' : checkAccess k (u32 body 0) (u8 body 4).toNat (decodeAddr (took s).windows (u32 body 0))
      = .ok h := passes
  have failing' : checkTag id (took s).tags = .error st := failing
  simp only [passes', failing']
  rfl

/-- A request that passes every check is admitted. -/
theorem exec_access_ok (id : Half) {h : Hit} {t : Fin 32}
    (passes : checkAccess k (u32 body 0) (u8 body 4).toNat (decodeAddr s.windows (u32 body 0)) = .ok h)
    (tag : checkTag id s.tags = .ok t) :
    exec (requestInstr k f id body) s = .next (admitTagged k id body h t (took s)) := by
  rw [exec_access access expected room length fields]
  unfold ownTagged
  have passes' : checkAccess k (u32 body 0) (u8 body 4).toNat (decodeAddr (took s).windows (u32 body 0))
      = .ok h := passes
  have tag' : checkTag id (took s).tags = .ok t := tag
  simp only [passes', tag']

end

/-- Settles O24: the checks in their order. -/
theorem accessIsRefusedAtTheFirstFailingCheck : Obligations.AccessIsRefusedAtTheFirstFailingCheck := by
  intro k f id body s access expected room length fields a n hit replyFields refused
  have same : replyFields = badFieldFields k body := by
    rcases access with rfl | rfl | rfl <;> rfl
  have failing := fun {st : Status} => exec_access_failing (st := st) access expected room length fields id
  have noTag := fun {h : Hit} {st : Status} => exec_access_noTag (h := h) (st := st) access expected room length fields id
  simp only [refused, same]
  refine ⟨fun bad => failing (checkAccess_misplaced bad), fun good miss policy => ?_, fun good miss policy => ?_,
    fun good h found => ⟨fun readOnly writes => ?_, fun allowed used => ?_, fun allowed unused full => ?_⟩⟩
  · have miss' : decodeAddr s.windows (u32 body 0) = none := miss
    rw [miss] at good
    rw [failing (by rw [miss']; exact checkAccess_miss good), if_pos rfl, guardMiss_reply (s := took s) policy]
    rfl
  · have miss' : decodeAddr s.windows (u32 body 0) = none := miss
    rw [miss] at good
    refine ⟨(changeEveryPort Port.addGuard (took s)).ports, ?_, changeEveryPort_get Port.addGuard (took s)⟩
    rw [failing (by rw [miss']; exact checkAccess_miss good), if_pos rfl, guardMiss_hold (s := took s) policy]
    rfl
  all_goals
    have found' : decodeAddr s.windows (u32 body 0) = some h := found
    rw [found] at good
  · exact failing (by rw [found']; exact checkAccess_protected good readOnly writes)
  · exact noTag (h := h) (by rw [found']; exact checkAccess_allowed good allowed (IsAccess.notPost access))
      (checkTag_duplicate used)
  · exact noTag (h := h) (by rw [found']; exact checkAccess_allowed good allowed (IsAccess.notPost access))
      (checkTag_none unused full)

theorem completionUnits_eq (n : Nat) : Config.completionUnits n = 400 * n := by
  simp only [Config.completionUnits, Config.us, Config.quantaPerUs]
  omega

/-- Settles O25: an access that passes the checks is admitted with its fields. -/
theorem accessIsAdmittedWithATag : Obligations.AccessIsAdmittedWithATag := by
  intro k f id body s h t access expected room length fields found good allowed unused lowest
  dsimp only
  rw [exec_access_ok access expected room length fields id (h := h) (t := t)
    (by rw [found]; exact checkAccess_allowed good allowed (IsAccess.notPost access)) (checkTag_free unused lowest),
    ← completionUnits_eq]
  rcases access with rfl | rfl | rfl <;> rfl

/-! ## POST (02 R20, R22) -/

section

variable {f : FrameHead} {s : State} {body : List Byte} (expected : Expected f s)
  (length : body.length = requiredLength .post body) (fields : fieldsOk .post body = true)

include expected length fields

theorem exec_post_ok (id : Half) : exec (.post f id body) s = .next (ownPost body (took s)) := by
  rw [exec_post expected, intakePost, intakeRefusal_ok length fields]

theorem exec_post_failing (id : Half) {st : Status}
    (failing : checkAccess .post (u32 body 0) (u8 body 4).toNat (decodeAddr s.windows (u32 body 0)) = .error st) :
    exec (.post f id body) s = .next (report .postRefused
      (postRefusedDetail st (u32 body 0) (decodeAddr s.windows (u32 body 0)))
      (if st = .unmapped then guardMiss (u32 body 0) none (took s) else took s)) := by
  rw [exec_post_ok expected length fields]
  unfold ownPost
  have failing' : checkAccess .post (u32 body 0) (u8 body 4).toNat (decodeAddr (took s).windows (u32 body 0))
      = .error st := failing
  simp only [failing', beq_iff_eq]
  rfl

theorem exec_post_overrun (id : Half) {h : Hit}
    (passes : checkAccess .post (u32 body 0) (u8 body 4).toNat (decodeAddr s.windows (u32 body 0)) = .ok h)
    (full : freeSlot s.pool = none) :
    exec (.post f id body) s = .next (report .creditOverrun
      (postRefusedDetail .credit (u32 body 0) (decodeAddr s.windows (u32 body 0))) (took s)) := by
  rw [exec_post_ok expected length fields]
  unfold ownPost
  have passes' : checkAccess .post (u32 body 0) (u8 body 4).toNat (decodeAddr (took s).windows (u32 body 0))
      = .ok h := passes
  have full' : freeSlot (took s).pool = none := full
  simp only [passes', full']
  rfl

theorem exec_post_admitted (id : Half) {h : Hit} {k : Fin 32}
    (passes : checkAccess .post (u32 body 0) (u8 body 4).toNat (decodeAddr s.windows (u32 body 0)) = .ok h)
    (free : freeSlot s.pool = some k) :
    exec (.post f id body) s = .next (admitPost body h k (took s)) := by
  rw [exec_post_ok expected length fields]
  unfold ownPost
  have passes' : checkAccess .post (u32 body 0) (u8 body 4).toNat (decodeAddr (took s).windows (u32 body 0))
      = .ok h := passes
  have free' : freeSlot (took s).pool = some k := free
  simp only [passes', free']

end

/-- Settles O26: the checks in their order, then the pool. -/
theorem postIsAdmittedOrReported : Obligations.PostIsAdmittedOrReported := by
  intro f id body s expected length fields a n hit reported
  have failing := fun {st : Status} => exec_post_failing (st := st) expected length fields id
  simp only [reported]
  refine ⟨fun bad => failing (checkAccess_misplaced bad), fun good miss policy => ?_, fun good miss policy => ?_,
    fun good h found => ?_⟩
  · have miss' : decodeAddr s.windows (u32 body 0) = none := miss
    rw [miss] at good
    rw [failing (by rw [miss']; exact checkAccess_miss good), if_pos rfl, guardMiss_reply (s := took s) policy]
    rfl
  · have miss' : decodeAddr s.windows (u32 body 0) = none := miss
    rw [miss] at good
    refine ⟨(changeEveryPort Port.addGuard (took s)).ports, ?_, changeEveryPort_get Port.addGuard (took s)⟩
    rw [failing (by rw [miss']; exact checkAccess_miss good), if_pos rfl, guardMiss_hold (s := took s) policy]
    rfl
  · have found' : decodeAddr s.windows (u32 body 0) = some h := found
    rw [found] at good
    have check : checkAccess .post (u32 body 0) (u8 body 4).toNat (decodeAddr s.windows (u32 body 0)) = _ :=
      (congrArg _ found').trans (checkAccess_hit good)
    refine ⟨fun readOnly => ?_, fun writable notPostable => ?_, fun writable postable full => ?_,
      fun writable postable k free first => ?_⟩
    · exact failing (st := .isProtected) (check.trans (by simp [readOnly]))
    · exact failing (st := .notPostable) (check.trans (by simp [writable, notPostable]))
    · exact exec_post_overrun expected length fields id (h := h) (check.trans (by simp [writable, postable]))
        (find_indices_eq_none.mpr fun k => by simpa using full k)
    · exact exec_post_admitted expected length fields id (h := h) (check.trans (by simp [writable, postable]))
        (find_indices_eq_some (by simp [free]) fun j lt => by simpa using first j lt)

/-! ## FENCE (02 R31) -/

section

variable {f : FrameHead} {s : State} (expected : Expected f s) (room : Room s)

include expected room

theorem exec_fence (id : Half) : exec (.fence f id []) s = .next (ownFence id (took s)) :=
  exec_request_ok (k := .fence) expected room (by decide) id rfl

theorem exec_fence_refused (id : Half) {st : Status} (failing : checkTag id s.tags = .error st) :
    exec (.fence f id []) s = .next (answer (took s) id 0x14 st.code [0, 0]) := by
  rw [exec_fence expected room]
  unfold ownFence
  have failing' : checkTag id (took s).tags = .error st := failing
  simp only [failing']
  rfl

theorem exec_fence_admitted (id : Half) {t : Fin 32} (tag : checkTag id s.tags = .ok t) :
    exec (.fence f id []) s = .next (admitFence id t (took s)) := by
  rw [exec_fence expected room]
  unfold ownFence
  have tag' : checkTag id (took s).tags = .ok t := tag
  simp only [tag']

end

theorem admitFence_none {s : State} (id : Half) (t : Fin 32) (none_ : heldSlots s.pool = 0) :
    admitFence id t s = { s with
      tags := s.tags.set t { fenceTag id (heldSlots s.pool) s.nextPlace with state := .ready }
      ready := s.ready ++ [t], nextPlace := s.nextPlace + 1 } := by
  unfold admitFence
  dsimp only
  rw [if_pos none_, makeReady_eq, if_neg (by decide)]
  unfold answered
  simp only [State.modTag, State.setTags, State.setReady, State.bumpPlace, State.setNextPlace, Table.modify, Table.get_set_self,
    Table.set_set]
  rfl

theorem admitFence_some {s : State} (id : Half) (t : Fin 32) (some_ : heldSlots s.pool ≠ 0) :
    admitFence id t s = { s with
      tags := s.tags.set t (fenceTag id (heldSlots s.pool) s.nextPlace)
      pool := s.pool.map fun r => r.map fun y => { y with covering := y.covering ++ [t] }
      nextPlace := s.nextPlace + 1 } := by
  unfold admitFence
  dsimp only
  rw [if_neg some_]
  rfl

/-- Settles O27: a free tag, and the POSTs that are held. -/
theorem fenceCoversTheHeldPosts : Obligations.FenceCoversTheHeldPosts := by
  intro f id s expected room n x
  have tag : x = fenceTag id (heldSlots (took s).pool) (took s).nextPlace := by
    simp only [x, n, fenceTag, completionUnits_eq]
    rfl
  refine ⟨fun used => exec_fence_refused expected room id (checkTag_duplicate used),
    fun unused full => exec_fence_refused expected room id (checkTag_none unused full),
    fun unused t lowest => ⟨fun none_ => ?_, fun some_ => ?_⟩⟩
  · rw [exec_fence_admitted expected room id (checkTag_free unused lowest), admitFence_none (s := took s) id t none_, tag]
    rfl
  · rw [exec_fence_admitted expected room id (checkTag_free unused lowest), admitFence_some (s := took s) id t some_, tag]
    rfl

/-! ## ABORT (03 R55) -/

/-- An entry that leaves its request list for the ready list, apart from the fault that may be reported. -/
def leftQueue (t : Fin 32) (st : Status) (s : State) : State :=
  { s with
    lists := s.lists.map fun l => l.filter fun e => e != .tag t
    tags := s.tags.set t { s.tags.get t with
      state := .ready, status := st, busPending := false, holdOff := none }
    ready := s.ready ++ [t] }

theorem readyFromQueue_eq (t : Fin 32) (st : Status) (s : State) : readyFromQueue t st s =
    if st.isAccessFailure then report .accessFailed ((s.tags.get t).failureDetail st) (leftQueue t st s)
    else leftQueue t st s := by
  have twice : answered t st false none ((removeEntry (.tag t) s).modTag t fun x => { x with holdOff := none })
      = leftQueue t st s := by
    unfold answered leftQueue
    simp only [State.modTag, State.setTags, State.setReady, modify_modify]
    rfl
  unfold readyFromQueue
  rw [makeReady_eq, twice, State.modTag_tags, Table.get_modify_self]
  rfl

/-- A FENCE that leaves the barrier for the ready list, apart from the fault that may be reported. -/
def leftBarrier (t : Fin 32) (st : Status) (s : State) : State :=
  { s with
    pool := s.pool.map fun r => r.map fun x => { x with covering := x.covering.filter fun u => u != t }
    tags := s.tags.set t { s.tags.get t with state := .ready, status := st, busPending := false }
    ready := s.ready ++ [t] }

theorem readyFromBarrier_eq (t : Fin 32) (st : Status) (s : State) : readyFromBarrier t st s =
    if st.isAccessFailure then report .accessFailed ((s.tags.get t).failureDetail st) (leftBarrier t st s)
    else leftBarrier t st s := rfl

/-- An entry on its port that joins the ready list with bus pending, apart from the fault that may be
reported. -/
def leftBehind (t : Fin 32) (st : Status) (s : State) : State :=
  { s with
    tags := s.tags.set t { s.tags.get t with state := .ready, status := st, busPending := true }
    ready := s.ready ++ [t] }

theorem makeReady_pending_eq (t : Fin 32) (st : Status) (s : State) : makeReady t st true none s =
    if st.isAccessFailure then report .accessFailed ((s.tags.get t).failureDetail st) (leftBehind t st s)
    else leftBehind t st s := rfl

section

variable {s : State} {target : Half}

theorem liveTag_none (none_ : ¬IdInUse s target) : liveTag s.tags target = none :=
  Option.not_isSome_iff_eq_none.mp (mt (liveTag_isSome s target).mp none_)

theorem liveTag_only {k : Fin 32} (live : (s.tags.get k).live = true) (id : (s.tags.get k).id = target)
    (only : ∀ u, (s.tags.get u).live = true → (s.tags.get u).id = target → u = k) :
    liveTag s.tags target = some k := by
  refine find_indices_eq_some (by simp [live, id]) fun j lt => ?_
  rw [Bool.and_eq_false_iff]
  by_contra both
  simp only [not_or, Bool.not_eq_false, beq_iff_eq] at both
  exact absurd (only j both.1 both.2) (Fin.ne_of_lt lt)

/-- An expected ABORT is answered with what its target's state makes of it. -/
theorem exec_abort {f : FrameHead} (expected : Expected f s) (room : Room s) (id : Half) {st : Status} {t : State}
    (acts : abortTarget target (took s) = (st, t)) :
    exec (.abort f id (be16 target)) s = .next (answer t id 0x3C st.code (be16 target)) := by
  refine (exec_request_ok (k := .abort) expected room (by decide) id rfl).trans (congrArg Host.Outcome.next ?_)
  have field : u16 (be16 target) 0 = target := half_ofBE_be16 target
  show ownAbort id (be16 target) (took s) = _
  unfold ownAbort
  simp only [field, acts]
  rfl

theorem abortTarget_eq {k : Fin 32} (found : liveTag s.tags target = some k) : abortTarget target s =
    (if (s.tags.get k).state = .queued then (.ok, leftQueue k .aborted s)
    else if (s.tags.get k).state = .waiting then (.ok, leftBarrier k .aborted s)
    else if (s.tags.get k).state = .active then (.ok, leftBehind k .aborted s)
    else (.tooLate, s)) := by
  unfold abortTarget
  rw [found]
  dsimp only
  rw [readyFromQueue_eq]
  cases (s.tags.get k).state <;> rfl

end

/-- Settles O29: the one live entry with the id, by its state. -/
theorem abortActsByTheTargetsState : Obligations.AbortActsByTheTargetsState := by
  intro f id target s expected room reply
  refine ⟨fun none_ => ?_, fun k live same only => ?_⟩
  · have found : liveTag (took s).tags target = none := liveTag_none none_
    exact exec_abort expected room id (st := .notFound) (by unfold abortTarget; rw [found])
  · have found : liveTag (took s).tags target = some k := liveTag_only live same only
    have acts := fun {st : Status} {t : State} (h : (_ : Status × State) = (st, t)) =>
      exec_abort expected room id (st := st) (t := t) ((abortTarget_eq found).trans h)
    refine ⟨fun ready => ?_, fun active => ?_, fun queued => ?_, fun waiting => ?_⟩
    · have state : ((took s).tags.get k).state = .ready := ready
      exact acts (by simp only [state]; rfl)
    · have state : ((took s).tags.get k).state = .active := active
      exact acts (by simp only [state]; rfl)
    · exact acts (if_pos queued)
    · have state : ((took s).tags.get k).state = .waiting := waiting
      exact acts (by simp only [state]; rfl)

end Sys2Proof.Proofs.Admission

/-! # Job slots (05): chunks, starts, pauses, stops and ends -/

namespace Sys2Proof.Proofs.JobUse

-- One theorem after another: the proofs of this part at once ask for more threads than the check allows.
set_option Elab.async false

open Sys2Proof.Machine Sys2Proof.Safety Sys2Proof.Proofs.AddressWindows Sys2Proof.Proofs.Requests
  Sys2Proof.Proofs.JobSlots

variable {s : State} {j : Fin 4}

/-! ## The next chunk (05 R96, R97) -/

section

variable {d : Descriptor} {r : RunDecode} (state : (s.jobs.get j).state = .running)
  (chunk : (s.jobs.get j).chunk = none) (active : (s.jobs.get j).active = some d)
  (run : (s.jobs.get j).run = some r) (left : 0 < (s.jobs.get j).bytesLeft)

include state chunk active run left

theorem layOut_read {q : RangeDecode} (phase : firstPhase d.kind = .read) (source : r.source = some q) :
    let x := s.jobs.get j
    let a := nextAddr r.source x.bytesDone
    let b := nextAddr r.destination x.bytesDone
    let n := chunkLength d x.bytesLeft a b
    layOut j s = { s with
      jobs := s.jobs.set j { x with chunk := some ⟨n, a, b, .read, false⟩ }
      ports := s.ports.set q.port { s.ports.get q.port with
        offers := (s.ports.get q.port).offers.set j (some ⟨false, a, n, [], q.isVolatile, 0, none, false⟩) } } := by
  dsimp only
  conv_lhs => simp only [layOut, state, chunk, active, run, if_neg (Nat.ne_of_gt left), phase, source]
  rw [source]
  rfl

theorem layOut_write {q : RangeDecode} (phase : firstPhase d.kind = .write) (destination : r.destination = some q) :
    let x := s.jobs.get j
    let a := nextAddr r.source x.bytesDone
    let b := nextAddr r.destination x.bytesDone
    let n := chunkLength d x.bytesLeft a b
    layOut j s = { s with
      jobs := s.jobs.set j { x with chunk := some ⟨n, a, b, .write, false⟩ }
      ports := s.ports.set q.port { s.ports.get q.port with
        offers := (s.ports.get q.port).offers.set j
          (some ⟨true, b, n, patternBytes d.pattern x.bytesDone n, q.isVolatile, 0, none, false⟩) } } := by
  dsimp only
  conv_lhs => simp only [layOut, state, chunk, active, run, if_neg (Nat.ne_of_gt left), phase, destination]
  rw [destination]
  rfl

end

/-- The bytes of a chunk: as many as the chunk size, the bytes left and the blocks that are used allow. -/
theorem chunkLength_source {d : Descriptor} (left : Nat) (a b : Word) (kind : d.kind ≠ .fill) :
    let n := chunkLength d left a b
    n ≤ d.chunkSize.toNat ∧ n ≤ left ∧ a.toNat % 64 + n ≤ 64 ∧ (d.kind = .copy → b.toNat % 64 + n ≤ 64)
      ∧ (n = d.chunkSize.toNat ∨ n = left ∨ a.toNat % 64 + n = 64 ∨ (d.kind = .copy ∧ b.toNat % 64 + n = 64)) := by
  have ha := Nat.mod_lt a.toNat (show 64 > 0 by decide)
  have hb := Nat.mod_lt b.toNat (show 64 > 0 by decide)
  unfold chunkLength toBlockEnd
  cases h : d.kind
  case fill => exact absurd h kind
  all_goals
    simp only [JobKind.usesSource, JobKind.usesDestination, if_true, Bool.false_eq_true, if_false, reduceCtorEq,
      true_and, false_and, or_false, false_implies]
    omega

theorem chunkLength_fill {d : Descriptor} (left : Nat) (a b : Word) (kind : d.kind = .fill) :
    let n := chunkLength d left a b
    n ≤ d.chunkSize.toNat ∧ n ≤ left ∧ b.toNat % 64 + n ≤ 64
      ∧ (n = d.chunkSize.toNat ∨ n = left ∨ b.toNat % 64 + n = 64) := by
  have hb := Nat.mod_lt b.toNat (show 64 > 0 by decide)
  unfold chunkLength toBlockEnd
  simp only [kind, JobKind.usesSource, JobKind.usesDestination, if_true, Bool.false_eq_true, if_false]
  omega

/-- The byte of a word at an offset, most significant byte first. -/
theorem be32_getD (x : Word) {k : Nat} (small : k < 4) : (be32 x).getD k 0 = x.extractLsb' (24 - 8 * k) 8 := by
  unfold be32
  interval_cases k <;> rfl

theorem patternBytes_get (pattern : Word) (done : Nat) {n i : Nat} (lt : i < n) :
    (patternBytes pattern done n)[i]? = some (pattern.extractLsb' (24 - 8 * ((done + i) % 4)) 8) := by
  unfold patternBytes
  rw [List.getElem?_map, List.getElem?_range lt, Option.map_some, be32_getD _ (Nat.mod_lt _ (by decide))]

/-- Settles O38: the chunk's length is the least of its bounds, and its first transaction is offered. -/
theorem nextChunkIsLaidOutAndOffered : Obligations.NextChunkIsLaidOutAndOffered := by
  intro j s d r state chunk active run x left
  refine ⟨fun src source kind => ?_, fun dst destination kind => ?_⟩
  · have phase : firstPhase d.kind = .read := by
      cases h : d.kind with
      | fill => exact absurd h kind
      | _ => rfl
    obtain ⟨size, least, block, block', reached⟩ :=
      chunkLength_source x.bytesLeft (nextAddr r.source x.bytesDone) (nextAddr r.destination x.bytesDone) kind
    have laid := layOut_read state chunk active run left phase source
    rw [source] at laid size least block block' reached
    exact ⟨_, size, least, block, block', reached, laid⟩
  · have phase : firstPhase d.kind = .write := by rw [kind]; rfl
    obtain ⟨size, least, block, reached⟩ :=
      chunkLength_fill x.bytesLeft (nextAddr r.source x.bytesDone) (nextAddr r.destination x.bytesDone) kind
    have laid := layOut_write state chunk active run left phase destination
    rw [destination] at laid size least block reached
    exact ⟨_, _, size, least, block, reached, by simp [patternBytes], fun i lt => patternBytes_get _ _ lt, laid⟩

/-- Laying out a chunk leaves the slot's state alone. -/
theorem layOut_state (j : Fin 4) (s : State) : ((layOut j s).jobs.get j).state = (s.jobs.get j).state := by
  have chunked : ∀ c, ((s.modJob j fun x => { x with chunk := c }).jobs.get j).state = (s.jobs.get j).state :=
    fun c => by rw [modJob_get]
  unfold layOut
  dsimp only
  split
  · split
    · rfl
    · split <;> split <;> exact chunked _
  · rfl

/-! ## A job's end (05 R104) -/

theorem close_eq {x : JobSlot} {d : Descriptor} (active : x.active = some d) (e : JobState) :
    x.close e = if d.notify = true then
        JobSlot.record { x with state := e, run := none, chunk := none }
          ⟨e, x.bytesDone, x.crc ^^^ 0xFFFFFFFF#32, x.failStatus, x.failAddr⟩
      else { x with state := e, run := none, chunk := none } := by
  unfold JobSlot.close
  simp only [active]
  rfl

/-- A slot whose job has ended, once its staged descriptor has become active (05 R104). -/
def restaged (x : JobSlot) (e : JobState) (d : Descriptor) : JobSlot :=
  { (x.close e).activate d with staged := none, state := .loaded }

theorem close_staged (x : JobSlot) (e : JobState) : (x.close e).staged = x.staged := by
  unfold JobSlot.close JobSlot.record
  dsimp only
  split
  · split
    · split <;> rfl
    · rfl
  · rfl

theorem close_run (x : JobSlot) (e : JobState) : (x.close e).run = none := by
  unfold JobSlot.close JobSlot.record
  dsimp only
  split
  · split
    · split <;> rfl
    · rfl
  · rfl

/-- A chained start: the job runs, or it fails as it begins (05 R104). -/
def afterValidation (j : Fin 4) (v : Except ValidationFailure RunDecode) (s : State) : State :=
  match v with
  | .ok r => runJob j r s
  | .error f => failChained j f s

theorem endJob_unstaged (e : JobState) (staged : (s.jobs.get j).staged = none) :
    endJob j e s = { s with jobs := s.jobs.set j ((s.jobs.get j).close e) } := by
  have staged' : ((s.modJob j fun x => x.close e).jobs.get j).staged = none := by
    rw [modJob_get, close_staged, staged]
  unfold endJob
  simp only [staged']
  rfl

/-- A chained start that fails leaves the new job FAILED (05 R104). -/
def chainFailed (x : JobSlot) (st : Status) : JobSlot :=
  JobSlot.close { x with failStatus := some st, failAddr := none } .failed

theorem endJob_staged (e : JobState) {d : Descriptor} (staged : (s.jobs.get j).staged = some d) :
    endJob j e s =
      if (e == .done && d.startOnLoad) = true then
        afterValidation j (validate s.windows d)
          { s with jobs := s.jobs.set j (restaged (s.jobs.get j) e d) }
      else { s with jobs := s.jobs.set j (restaged (s.jobs.get j) e d) } := by
  have staged' : ((s.modJob j fun x => x.close e).jobs.get j).staged = some d := by
    rw [modJob_get, close_staged, staged]
  have fresh : (s.modJob j fun x => x.close e).modJob j
        (fun x => { x.activate d with staged := none, state := .loaded })
      = { s with jobs := s.jobs.set j (restaged (s.jobs.get j) e d) } := by
    simp only [State.modJob, State.setJobs, RequestTurns.modify_modify]
    rfl
  unfold endJob
  simp only [staged', fresh]
  cases validate s.windows d <;> rfl

theorem runJob_set (y : JobSlot) (r : RunDecode) (s : State) :
    runJob j r { s with jobs := s.jobs.set j y }
      = layOut j { s with jobs := s.jobs.set j { y with state := .running, run := some r } } := by
  unfold runJob
  simp only [modJob_eq, Table.get_set_self, Table.set_set]

theorem failChained_set (y : JobSlot) (v : ValidationFailure) (s : State) :
    failChained j v { s with jobs := s.jobs.set j y } = { s with
      jobs := s.jobs.set j (chainFailed y v.status)
      faults := faulted s .jobFailed ⟨v.status, none, none, some j, none, none, some v.hostAddr⟩ } := by
  unfold failChained
  simp only [modJob_eq, Table.get_set_self, Table.set_set]
  rfl

/-- The notice that a job's end calls for depends on the notice of the slot alone. -/
theorem chainFailed_restaged (x : JobSlot) (e : JobState) (d : Descriptor) (st : Status) :
    chainFailed (restaged x e d) st =
      if d.notify = true then
        JobSlot.record { restaged x e d with state := .failed, failStatus := some st } ⟨.failed, 0, 0, some st, none⟩
      else { restaged x e d with state := .failed, failStatus := some st } := by
  have run : (restaged x e d).run = none := close_run x e
  have chunk : (restaged x e d).chunk = none := (close_fields x e).2.2.2.1
  unfold chainFailed
  rw [close_eq (d := d) rfl]
  have same : { { restaged x e d with failStatus := some st, failAddr := none } with
        state := .failed, run := none, chunk := none }
      = ({ restaged x e d with state := .failed, failStatus := some st } : JobSlot) := by
    rw [← run, ← chunk]
    rfl
  rw [same]
  refine if_congr Iff.rfl (congrArg _ ?_) rfl
  show JobContent.mk .failed 0 (0xFFFFFFFF#32 ^^^ 0xFFFFFFFF#32) (some st) none = _
  rw [BitVec.xor_self]
  rfl

/-- Settles O42: the slot closes, and a staged descriptor takes its job's place. -/
theorem jobEndsInOrder : Obligations.JobEndsInOrder := by
  intro j e s d _ active x content recorded y z fresh
  have same : recorded = JobSlot.record := by
    funext y c
    unfold JobSlot.record
    rfl
  have closed : z = x.close e := by
    rw [close_eq active]
    simp only [z, same]
    rfl
  have restarted : ∀ d', fresh d' = restaged x e d' := fun d' => by
    simp only [fresh, closed]
    rfl
  refine ⟨fun unstaged => ?_, fun d' staged rests => ?_, fun d' staged done starts => ⟨fun r valid => ?_,
    fun v invalid => ?_⟩⟩
  · rw [closed]
    exact endJob_unstaged e unstaged
  · rw [restarted, endJob_staged e staged]
    refine if_neg fun both => ?_
    obtain ⟨done, starts⟩ := Bool.and_eq_true _ _ ▸ both
    exact rests.elim (· (by simpa using done)) fun h => by simp [h] at starts
  · rw [restarted, endJob_staged e staged, if_pos (by simp [done, starts]), valid]
    exact runJob_set _ r s
  · dsimp only
    rw [restarted, same, ← chainFailed_restaged, endJob_staged e staged, if_pos (by simp [done, starts]),
      invalid]
    exact failChained_set _ v s

/-! ## JOB-LOAD and JOB-START (05 R94, R95) -/

section

variable {f : FrameHead} (expected : Expected f s) (room : Room s)

theorem startJob_error {d : Descriptor} {v : ValidationFailure} (active : (s.jobs.get j).active = some d)
    (invalid : validate s.windows d = .error v) : startJob j s = (v.status, s) := by
  unfold startJob
  simp only [active, invalid]

theorem startJob_ok {d : Descriptor} {r : RunDecode} (active : (s.jobs.get j).active = some d)
    (valid : validate s.windows d = .ok r) : startJob j s = (.ok, runJob j r s) := by
  unfold startJob
  simp only [active, valid]

include expected room

theorem exec_jobLoad (id : Half) {body : List Byte} (length : body.length = 20)
    (fields : fieldsOk .jobLoad body = true) (index : indexOf 3 (u8 body 0) = j) {st : Status} {b : Bool} {t : State}
    (acts : loadJob j (descriptorOf body) (took s) = (st, b, t)) :
    exec (.jobLoad f id body) s = .next (answer t id 0x40 st.code
      [u8 body 0, yesNo b, (t.jobs.get j).state.code]) := by
  refine (exec_request_ok (k := .jobLoad) expected room (by decide) id
    (intakeRefusal_ok (k := .jobLoad) length fields)).trans (congrArg Host.Outcome.next ?_)
  show ownJobLoad id body (took s) = _
  unfold ownJobLoad
  simp only [index, acts]
  rfl

/-- The requests that name a slot and nothing else come to their owner. -/
theorem exec_slotRequest {k : RequestKind} (notPost : k ≠ .post) (length : ∀ body, requiredLength k body = 1)
    (fields : ∀ b, fieldsOk k [b] = atMost 3 b) (id : Half) (j : Fin 4) :
    exec (requestInstr k f id [BitVec.ofNat 8 j.val]) s
      = .next (owner k id [BitVec.ofNat 8 j.val] (took s)) :=
  exec_request_ok expected room notPost id
    (intakeRefusal_index (Nat.le_of_lt_succ j.isLt) (by omega) length fields)

end

/-- The REPLY to a request of a slot. -/
theorem replyJob_eq (k : RequestKind) (id : Half) (j : Fin 4) (st : Status) (t : State) :
    replyJob k id [BitVec.ofNat 8 j.val] (st, t)
      = answer t id k.code st.code [BitVec.ofNat 8 j.val, (t.jobs.get j).state.code] := by
  have index : indexOf 3 (u8 [BitVec.ofNat 8 j.val] 0) = j := indexOf_ofNat (by decide) j
  unfold replyJob
  rw [index]
  rfl

section

variable {f : FrameHead} (expected : Expected f s) (room : Room s)

include expected room

theorem exec_jobStart (id : Half) (j : Fin 4) {st : Status} {t : State}
    (acts : (if (s.jobs.get j).state = .loaded then startJob j (took s) else (.state, took s)) = (st, t)) :
    exec (.jobStart f id [BitVec.ofNat 8 j.val]) s
      = .next (answer t id 0x41 st.code [BitVec.ofNat 8 j.val, (t.jobs.get j).state.code]) := by
  refine (exec_slotRequest (k := .jobStart) expected room (by decide) (fun _ => rfl) (fun _ => rfl) id j).trans
    (congrArg Host.Outcome.next ?_)
  have index : indexOf 3 (u8 [BitVec.ofNat 8 j.val] 0) = j := indexOf_ofNat (by decide) j
  show ownJobStart id [BitVec.ofNat 8 j.val] (took s) = _
  unfold ownJobStart
  have acts' : (if ((took s).jobs.get j).state == .loaded then startJob j (took s) else (.state, took s))
      = (st, t) := by
    show (if ((s.jobs.get j).state == .loaded) = true then startJob j (took s) else (.state, took s)) = (st, t)
    simpa using acts
  simp only [index, acts']
  exact replyJob_eq .jobStart id j st t

theorem exec_jobPause (id : Half) (j : Fin 4) {st : Status} {t : State} (acts : pauseJob j (took s) = (st, t)) :
    exec (.jobPause f id [BitVec.ofNat 8 j.val]) s
      = .next (answer t id 0x42 st.code [BitVec.ofNat 8 j.val, (t.jobs.get j).state.code]) := by
  refine (exec_slotRequest (k := .jobPause) expected room (by decide) (fun _ => rfl) (fun _ => rfl) id j).trans
    (congrArg Host.Outcome.next ?_)
  have index : indexOf 3 (u8 [BitVec.ofNat 8 j.val] 0) = j := indexOf_ofNat (by decide) j
  show ownJobPause id [BitVec.ofNat 8 j.val] (took s) = _
  unfold ownJobPause
  rw [index, acts]
  exact replyJob_eq .jobPause id j st t

theorem exec_jobResume (id : Half) (j : Fin 4) {st : Status} {t : State} (acts : resumeJob j (took s) = (st, t)) :
    exec (.jobResume f id [BitVec.ofNat 8 j.val]) s
      = .next (answer t id 0x43 st.code [BitVec.ofNat 8 j.val, (t.jobs.get j).state.code]) := by
  refine (exec_slotRequest (k := .jobResume) expected room (by decide) (fun _ => rfl) (fun _ => rfl) id j).trans
    (congrArg Host.Outcome.next ?_)
  have index : indexOf 3 (u8 [BitVec.ofNat 8 j.val] 0) = j := indexOf_ofNat (by decide) j
  show ownJobResume id [BitVec.ofNat 8 j.val] (took s) = _
  unfold ownJobResume
  rw [index, acts]
  exact replyJob_eq .jobResume id j st t

theorem exec_jobStop (id : Half) (j : Fin 4) {st : Status} {t : State} (acts : stopJob j (took s) = (st, t)) :
    exec (.jobStop f id [BitVec.ofNat 8 j.val]) s
      = .next (answer t id 0x44 st.code [BitVec.ofNat 8 j.val, (t.jobs.get j).state.code]) := by
  refine (exec_slotRequest (k := .jobStop) expected room (by decide) (fun _ => rfl) (fun _ => rfl) id j).trans
    (congrArg Host.Outcome.next ?_)
  have index : indexOf 3 (u8 [BitVec.ofNat 8 j.val] 0) = j := indexOf_ofNat (by decide) j
  show ownJobStop id [BitVec.ofNat 8 j.val] (took s) = _
  unfold ownJobStop
  rw [index, acts]
  exact replyJob_eq .jobStop id j st t

end

theorem isStarted_iff (st : JobState) :
    st.isStarted = true ↔ st = .running ∨ st = .pausing ∨ st = .paused ∨ st = .stopping := by
  cases st <;> decide

/-- A slot into which a descriptor has been loaded (05 R94). -/
def loadedWith (x : JobSlot) (d : Descriptor) : JobSlot := { x.activate d with state := .loaded }

theorem loadJob_staged (d : Descriptor) (started : (s.jobs.get j).state.isStarted = true) :
    loadJob j d s = (.ok, (s.jobs.get j).staged.isSome,
      { s with jobs := s.jobs.set j { s.jobs.get j with staged := some d } }) := by
  unfold loadJob
  rw [if_pos started]
  rfl

theorem loadJob_idle (d : Descriptor) (idle : (s.jobs.get j).state.isStarted = false) :
    loadJob j d s =
      if d.startOnLoad = true then
        ((startJob j { s with jobs := s.jobs.set j (loadedWith (s.jobs.get j) d) }).1, (s.jobs.get j).active.isSome,
          (startJob j { s with jobs := s.jobs.set j (loadedWith (s.jobs.get j) d) }).2)
      else (.ok, (s.jobs.get j).active.isSome, { s with jobs := s.jobs.set j (loadedWith (s.jobs.get j) d) }) := by
  unfold loadJob
  rw [if_neg (by simp [idle])]
  rfl

theorem startJob_loaded_error {d : Descriptor} {v : ValidationFailure} (x : JobSlot)
    (invalid : validate s.windows d = .error v) :
    startJob j { s with jobs := s.jobs.set j (loadedWith x d) }
      = (v.status, { s with jobs := s.jobs.set j (loadedWith x d) }) :=
  startJob_error (s := { s with jobs := s.jobs.set j (loadedWith x d) })
    (by rw [Table.get_set_self]; rfl) invalid

theorem startJob_loaded_ok {d : Descriptor} {r : RunDecode} (x : JobSlot) (valid : validate s.windows d = .ok r) :
    startJob j { s with jobs := s.jobs.set j (loadedWith x d) } = (.ok, layOut j
      { s with jobs := s.jobs.set j { loadedWith x d with state := .running, run := some r } }) := by
  rw [startJob_ok (s := { s with jobs := s.jobs.set j (loadedWith x d) }) (by rw [Table.get_set_self]; rfl) valid,
    runJob_set]

/-- Settles O40: a load stages or loads; a start validates and runs. -/
theorem jobLoadAndStart : Obligations.JobLoadAndStart := by
  intro f id j s expected room x b started runs
  have ran : ∀ (y : JobSlot) (r : RunDecode), ((runs y r).jobs.get j).state = .running := fun y r => by
    rw [layOut_state]
    exact congrArg JobSlot.state (Table.get_set_self _ _ _)
  refine ⟨fun body length fields head => ?_, fun d loaded active => ⟨fun e invalid => ?_, fun r valid => ?_⟩,
    fun other => ?_⟩
  · have first : u8 body 0 = b := by
      obtain ⟨rest, rfl⟩ := List.head?_eq_some_iff.mp head
      rfl
    have index : indexOf 3 (u8 body 0) = j := by
      rw [first]
      exact indexOf_ofNat (by decide) j
    have acts := fun {st : Status} {c : Bool} {t : State} =>
      exec_jobLoad expected room id length fields index (st := st) (b := c) (t := t)
    rw [first] at acts
    have self : ({ took s with jobs := s.jobs.set j (loadedWith x (descriptorOf body)) } : State).jobs.get j
        = loadedWith x (descriptorOf body) := Table.get_set_self _ _ _
    refine ⟨fun yes => ?_, fun no rests => ?_, fun no starts e invalid => ?_, fun no starts r valid => ?_⟩
    · rw [acts (loadJob_staged (s := took s) (descriptorOf body) ((isStarted_iff _).mpr yes))]
      dsimp only
      rw [Table.get_set_self]
      rfl
    all_goals
      have idle : ((took s).jobs.get j).state.isStarted = false := Bool.eq_false_iff.mpr (mt (isStarted_iff _).mp no)
      have load := loadJob_idle (s := took s) (descriptorOf body) idle
    · rw [if_neg (by simp [rests])] at load
      rw [acts load]
      dsimp only
      rw [Table.get_set_self]
      rfl
    · rw [if_pos starts, startJob_loaded_error (s := took s) _ invalid] at load
      rw [acts load]
      dsimp only
      rw [Table.get_set_self]
      rfl
    · rw [if_pos starts, startJob_loaded_ok (s := took s) _ valid] at load
      rw [acts load]
      dsimp only
      rw [layOut_state]
      dsimp only
      rw [Table.get_set_self]
      rfl
  · rw [exec_jobStart expected room id j (st := e.status) (t := took s)
      ((if_pos loaded).trans (startJob_error (s := took s) active invalid))]
    refine next_answer_congr ?_
    rw [show ((took s).jobs.get j).state = .loaded from loaded]
    rfl
  · rw [exec_jobStart expected room id j (st := .ok) (t := runs x r)
      ((if_pos loaded).trans (startJob_ok (s := took s) active valid)), ran]
    rfl
  · exact exec_jobStart expected room id j (st := .state) (t := took s) (if_neg other)

/-! ## JOB-PAUSE, JOB-RESUME and JOB-STOP (05 R101 to R103) -/

theorem inFlight_iff (x : JobSlot) : x.inFlight = true ↔ ∃ c, x.chunk = some c ∧ c.started = true := by
  unfold JobSlot.inFlight
  cases x.chunk <;> simp

/-- A slot restated, the rest of the part as it is. -/
def restated (j : Fin 4) (st : JobState) (s : State) : State :=
  { s with jobs := s.jobs.set j { s.jobs.get j with state := st } }

/-- The slot's chunk, which has not started, withdrawn from the ports (05 R101, R103). -/
def chunkWithdrawn (j : Fin 4) (s : State) : State :=
  { s with
    jobs := s.jobs.set j { s.jobs.get j with chunk := none }
    ports := s.ports.map fun y => { y with offers := y.offers.set j none } }

theorem restated_state (j : Fin 4) (st : JobState) (s : State) : ((restated j st s).jobs.get j).state = st :=
  congrArg JobSlot.state (Table.get_set_self _ _ _)

section

variable (running : (s.jobs.get j).state = .running)

include running

theorem pauseJob_inFlight (flies : (s.jobs.get j).inFlight = true) : pauseJob j s = (.ok, restated j .pausing s) := by
  unfold pauseJob
  simp only [running, flies]
  rfl

theorem pauseJob_waiting (waits : (s.jobs.get j).inFlight = false) : pauseJob j s =
    (.ok, { chunkWithdrawn j s with
      jobs := s.jobs.set j { s.jobs.get j with chunk := none, state := .paused } }) := by
  unfold pauseJob
  simp only [running, waits]
  rfl

theorem stopJob_inFlight (flies : (s.jobs.get j).inFlight = true) : stopJob j s = (.ok, restated j .stopping s) := by
  unfold stopJob
  simp only [running, flies]
  rfl

theorem stopJob_waiting (waits : (s.jobs.get j).inFlight = false) :
    stopJob j s = (.ok, endJob j .stopped (chunkWithdrawn j s)) := by
  unfold stopJob
  simp only [running, waits]
  rfl

end

theorem resumeJob_pausing (pausing : (s.jobs.get j).state = .pausing) :
    resumeJob j s = (.ok, restated j .running s) := by
  unfold resumeJob
  simp only [pausing]
  rfl

theorem stopJob_pausing (pausing : (s.jobs.get j).state = .pausing) :
    stopJob j s = (.ok, restated j .stopping s) := by
  unfold stopJob
  simp only [pausing]
  rfl

theorem resumeJob_paused (paused : (s.jobs.get j).state = .paused) :
    resumeJob j s = (.ok, layOut j (restated j .running s)) := by
  unfold resumeJob
  simp only [paused]
  rfl

theorem stopJob_paused (paused : (s.jobs.get j).state = .paused) : stopJob j s = (.ok, endJob j .stopped s) := by
  unfold stopJob
  simp only [paused]

theorem pauseJob_refused (not_running : (s.jobs.get j).state ≠ .running) : pauseJob j s = (.state, s) := by
  unfold pauseJob
  dsimp only
  split
  · next h => exact absurd h not_running
  · rfl

theorem resumeJob_refused (not_pausing : (s.jobs.get j).state ≠ .pausing)
    (not_paused : (s.jobs.get j).state ≠ .paused) : resumeJob j s = (.state, s) := by
  unfold resumeJob
  split
  · next h => exact absurd h not_paused
  · next h => exact absurd h not_pausing
  · rfl

theorem stopJob_refused (not_running : (s.jobs.get j).state ≠ .running)
    (not_pausing : (s.jobs.get j).state ≠ .pausing) (not_paused : (s.jobs.get j).state ≠ .paused) :
    stopJob j s = (.state, s) := by
  unfold stopJob
  dsimp only
  split
  · next h => exact absurd h not_running
  · next h => exact absurd h not_pausing
  · next h => exact absurd h not_paused
  · rfl

/-- Settles O41: each request by the slot's state, and by whether its chunk is in flight. -/
theorem jobPauseResumeAndStop : Obligations.JobPauseResumeAndStop := by
  intro f id j s expected room x b inFlight turned withdrawn pause resume stop stopped
  have paused := fun {st : Status} {t : State} => exec_jobPause expected room id j (st := st) (t := t)
  have resumed := fun {st : Status} {t : State} => exec_jobResume expected room id j (st := st) (t := t)
  have halted := fun {st : Status} {t : State} => exec_jobStop expected room id j (st := st) (t := t)
  have turned_state : ∀ st, ((restated j st (took s)).jobs.get j).state.code = st.code := fun st => by
    rw [restated_state]
  refine ⟨fun running flies => ⟨?_, ?_⟩, fun running waits => ⟨?_, ?_⟩, fun pausing => ⟨?_, ?_⟩,
    fun rests => ⟨?_, ?_⟩, fun other => paused (pauseJob_refused (s := took s) other),
    fun other other' => resumed (resumeJob_refused (s := took s) other other'),
    fun other other' other'' => halted (stopJob_refused (s := took s) other other' other'')⟩
  · refine (paused (pauseJob_inFlight (s := took s) running ((inFlight_iff _).mpr flies))).trans ?_
    rw [turned_state]
    rfl
  · refine (halted (stopJob_inFlight (s := took s) running ((inFlight_iff _).mpr flies))).trans ?_
    rw [turned_state]
    rfl
  · refine (paused (pauseJob_waiting (s := took s) running
      (Bool.eq_false_iff.mpr (mt (inFlight_iff _).mp waits)))).trans ?_
    rw [Table.get_set_self]
    rfl
  · exact halted (stopJob_waiting (s := took s) running (Bool.eq_false_iff.mpr (mt (inFlight_iff _).mp waits)))
  · refine (resumed (resumeJob_pausing (s := took s) pausing)).trans ?_
    rw [turned_state]
    rfl
  · refine (halted (stopJob_pausing (s := took s) pausing)).trans ?_
    rw [turned_state]
    rfl
  · refine (resumed (resumeJob_paused (s := took s) rests)).trans ?_
    rw [layOut_state, turned_state]
    rfl
  · exact halted (stopJob_paused (s := took s) rests)

end Sys2Proof.Proofs.JobUse

/-! # Interrupt sources (06 R112 to R121): the lines, IRQ-SET, IRQ-MASK and IRQ-DONE -/

namespace Sys2Proof.Proofs.SourceUse

-- One theorem after another: the proofs of this part at once ask for more threads than the check allows.
set_option Elab.async false

open Sys2Proof.Machine Sys2Proof.Safety Sys2Proof.Proofs.AddressWindows Sys2Proof.Proofs.Requests

variable {s t : State} {i : Fin 32}

/-- A state with one source's record replaced. -/
def withSource (s : State) (i : Fin 32) (x : Source) : State := { s with sources := s.sources.set i x }

theorem withSource_get (s : State) (i : Fin 32) (x : Source) : (withSource s i x).sources.get i = x :=
  Table.get_set_self _ _ _

theorem withSource_self (s : State) (i : Fin 32) : withSource s i (s.sources.get i) = s := by
  unfold withSource
  rw [Table.set_get_self]

theorem withSource_twice (s : State) (i : Fin 32) (x y : Source) :
    withSource (withSource s i x) i y = withSource s i y := by
  simp only [withSource, Table.set_set]

theorem modSource_eq_withSource (s : State) (i : Fin 32) (f : Source → Source) :
    s.modSource i f = withSource s i (f (s.sources.get i)) := rfl

/-! ## A cycle's start (06 R112) -/

/-- A cycle that goes on replaces the source's record. -/
theorem cycleGoesOn_withSource (s : State) (i : Fin 32) (x y : Source) :
    cycleGoesOn (withSource s i x) i y = cycleGoesOn s i y := by
  unfold cycleGoesOn asked withSource
  cases y.vectorRead <;> simp only [Table.set_set]

/-- A cycle starts with the latch clear, whatever it was. -/
theorem cycleStarted_latch (s : State) (i : Fin 32) (b : Bool) :
    cycleStarted (withSource s i { s.sources.get i with latch := b }) i = cycleStarted s i := by
  have state : ∀ x, { withSource s i { s.sources.get i with latch := b } with
      sources := (withSource s i { s.sources.get i with latch := b }).sources.set i x } = withSource s i x :=
    fun x => withSource_twice s i _ x
  unfold cycleStarted
  simp only [withSource_get, cycleGoesOn_withSource, state]
  rfl

/-! ## The lines (06 R112, R113) -/

theorem exec_rise (low : s.pins.resetLow = false) (down : s.pins.lines.get i = false) :
    exec (.irqLineRise i) s = .next (judgeSource i (withSource (setLine i true s) i (s.sources.get i).edge)) := by
  refine congrArg Host.Outcome.next ((if_neg (by simp [down])).trans ?_)
  exact if_neg (by simp [setLine, low])

theorem edge_unseen {x : Source} (h : x.enabled = false ∨ x.trigger = .level) : x.edge = x := by
  unfold Source.edge
  refine if_neg ?_
  rcases h with h | h <;> simp [h]

theorem edge_seen {x : Source} (enabled : x.enabled = true) (edge : x.trigger = .edge) :
    x.edge = { x with latch := true, coalesced := if x.state = .idle then x.coalesced else satInc x.coalesced } := by
  unfold Source.edge
  rw [if_pos (by simp [enabled, edge])]
  simp only [beq_iff_eq]

theorem trigger_cases (x : Source) : x.trigger = .level ∨ x.trigger = .edge := by
  cases x.trigger <;> simp

/-- Settles O8: the edge is seen or not, and the source is judged. -/
theorem interruptLineRisesAndFalls : Obligations.InterruptLineRisesAndFalls := by
  intro i s low x high latched
  have rises := exec_rise (i := i) low
  have self : withSource high i x = high := withSource_self high i
  have unripe : ∀ {y : Source}, y.enabled = false ∨ y.state ≠ .idle ∨ y.inFlight = true →
      ¬Ripe (withSource high i y) i := fun {y} h ⟨idle, enabled, _, free⟩ => by
    rw [withSource_get] at idle enabled free
    rcases h with h | h | h
    · exact absurd (enabled.symm.trans h) (by decide)
    · exact h idle
    · exact absurd (free.symm.trans h) (by decide)
  refine ⟨rfl, fun up => congrArg Host.Outcome.next (if_pos up), fun down => ⟨fun disabled => ?_,
    fun enabled busy level => ?_, fun enabled busy edge => ?_, fun enabled idle flies => ?_,
    fun enabled idle free => ?_⟩⟩
  all_goals refine (rises down).trans (congrArg Host.Outcome.next ?_)
  · rw [edge_unseen (.inl disabled)]
    exact (judgeSource_unripe (unripe (.inl disabled))).trans self
  · rw [edge_unseen (.inr level)]
    exact (judgeSource_unripe (unripe (.inr (.inl busy)))).trans self
  · rw [edge_seen enabled edge]
    refine (judgeSource_unripe ?_).trans ?_
    · exact unripe (.inr (.inl busy))
    · rw [if_neg busy]
      rfl
  · rcases trigger_cases x with level | edge
    · rw [edge_unseen (.inr level), if_neg (by simp [level])]
      exact (judgeSource_unripe (unripe (.inr (.inr flies)))).trans self
    · rw [edge_seen enabled edge, if_pos edge]
      refine (judgeSource_unripe ?_).trans ?_
      · exact unripe (.inr (.inr flies))
      · rw [if_pos idle]
        rfl
  · rcases trigger_cases x with level | edge
    · rw [edge_unseen (.inr level)]
      refine (judgeSource_ripe (s := withSource high i x) ?_).trans (congrArg (cycleStarted · i) self)
      rw [self]
      exact ⟨idle, enabled, .inl ⟨level, Table.get_set_self _ _ _⟩, free⟩
    · rw [edge_seen enabled edge, if_pos idle]
      refine (judgeSource_ripe (s := withSource high i { x with latch := true }) ?_).trans
        (cycleStarted_latch high i true)
      unfold Ripe Asks
      rw [withSource_get]
      exact ⟨idle, enabled, .inr ⟨edge, rfl⟩, free⟩

/-! ## IRQ-SET (06 R120) -/

theorem replySource_eq (k : RequestKind) (id : Half) {body : List Byte} (index : indexOf 31 (u8 body 0) = i)
    (st : Status) (t : State) :
    replySource k id body (st, t) = answer t id k.code st.code [u8 body 0, (t.sources.get i).state.code] := by
  unfold replySource
  rw [index]
  rfl

section

variable {f : FrameHead} (expected : Expected f s) (room : Room s)

include expected room

theorem exec_irqSet (id : Half) {body : List Byte} (length : body.length = 20)
    (fields : fieldsOk .irqSet body = true) (index : indexOf 31 (u8 body 0) = i) {st : Status}
    (status : irqSetStatus (s.sources.get i) body = st) :
    exec (.irqSet f id body) s = .next (replySource .irqSet id body
      (st, if st = .ok then takeIrqSet i body (took s) else took s)) := by
  refine (exec_request_ok (k := .irqSet) expected room (by decide) id
    (intakeRefusal_ok (k := .irqSet) length fields)).trans (congrArg Host.Outcome.next ?_)
  have status' : irqSetStatus ((took s).sources.get i) body = st := status
  show ownIrqSet id body (took s) = _
  unfold ownIrqSet
  simp only [index, status', beq_iff_eq]

theorem exec_irqDone (id : Half) (i : Fin 32) :
    exec (.irqDone f id [BitVec.ofNat 8 i.val]) s = .next (replySource .irqDone id [BitVec.ofNat 8 i.val]
      (if (s.sources.get i).state = .notified then (.ok, closeCycle i (took s)) else (.state, took s))) := by
  refine (exec_request_ok (k := .irqDone) expected room (by decide) id (intakeRefusal_index
    (Nat.le_of_lt_succ i.isLt) (by omega) (fun _ => rfl) (fun _ => rfl))).trans (congrArg Host.Outcome.next ?_)
  have index : indexOf 31 (u8 [BitVec.ofNat 8 i.val] 0) = i := indexOf_ofNat (by decide) i
  show ownIrqDone id [BitVec.ofNat 8 i.val] (took s) = _
  unfold ownIrqDone
  simp only [index, beq_iff_eq]
  rfl

end

theorem operationsAligned_iff (v : Option VectorRead) (w : Option AckWrite) : operationsAligned v w = true ↔
    ¬((∃ r, v = some r ∧ r.localAddr.toNat % r.size ≠ 0) ∨ ∃ r, w = some r ∧ r.localAddr.toNat % r.size ≠ 0) := by
  unfold operationsAligned
  cases v <;> cases w <;> simp [not_or]

/-- What IRQ-SET makes of a source's record, its state aside (06 R120). -/
theorem configure_eq (x : Source) (body : List Byte) : x.configure body = { x with
      enabled := decide (u8 body 1 = 1), trigger := if u8 body 2 = 0 then .level else .edge
      priority := Fin.ofNat 4 (u8 body 3).toNat
      vectorRead := vectorReadOf body, ackWrite := ackWriteOf body
      latch := if ¬u8 body 1 = 1 ∨ u8 body 2 = 0 then false else x.latch
      coalesced := if u8 body 1 = 1 then x.coalesced else 0 } := by
  have level : (triggerOf (u8 body 2) == .level) = decide (u8 body 2 = 0) := by
    unfold triggerOf
    split <;> simp_all
  have on : (u8 body 1 == 1) = decide (u8 body 1 = 1) := rfl
  unfold Source.configure
  dsimp only
  rw [level, on]
  simp only [Bool.or_eq_true, Bool.not_eq_true', decide_eq_false_iff_not, decide_eq_true_eq]
  rfl

theorem irqSetStatus_enabling {x : Source} {body : List Byte} (on : u8 body 1 = 1)
    (open_ : x.state = .idle ∨ x.state = .pending) : irqSetStatus x body =
      if operationsAligned (vectorReadOf body) (ackWriteOf body) = true then .ok else .misaligned := by
  unfold irqSetStatus
  rw [if_pos (by simp [on])]
  rcases open_ with h | h <;> simp only [h]

theorem irqSetStatus_busy {x : Source} {body : List Byte} (on : u8 body 1 = 1) (not_idle : x.state ≠ .idle)
    (not_pending : x.state ≠ .pending) : irqSetStatus x body = .state := by
  unfold irqSetStatus
  rw [if_pos (by simp [on])]
  cases h : x.state with
  | idle => exact absurd h not_idle
  | pending => exact absurd h not_pending
  | _ => rfl

theorem irqSetStatus_shut {x : Source} {body : List Byte} (off : ¬u8 body 1 = 1)
    (shut : x.state = .sent ∨ x.state = .notified ∨ x.state = .acking) : irqSetStatus x body = .state := by
  unfold irqSetStatus
  rw [if_neg (by simpa using off)]
  rcases shut with h | h | h <;> simp only [h]

theorem irqSetStatus_disabling {x : Source} {body : List Byte} (off : ¬u8 body 1 = 1)
    (open_ : x.state = .idle ∨ x.state = .fetching ∨ x.state = .pending ∨ x.state = .due) :
    irqSetStatus x body = .ok := by
  unfold irqSetStatus
  rw [if_neg (by simpa using off)]
  rcases open_ with h | h | h | h <;> simp only [h]

theorem takeIrqSet_enabling {body : List Byte} (on : u8 body 1 = 1) :
    takeIrqSet i body s = judgeSource i (withSource s i ((s.sources.get i).configure body)) :=
  if_pos (by simp [on])

theorem takeIrqSet_disabling {body : List Byte} (off : ¬u8 body 1 = 1) :
    takeIrqSet i body s
      = withSource s i { (s.sources.get i).configure body with state := (s.sources.get i).disabledState } :=
  if_neg (by simpa using off)

/-- Settles O44: the request's enabled field and the source's state decide, and the taken record is judged. -/
theorem irqSetReplacesTheConfiguration : Obligations.IrqSetReplacesTheConfiguration := by
  intro f id i body s expected room length fields head x on level v w misaligned y set replies
  have first : u8 body 0 = BitVec.ofNat 8 i.val := by
    obtain ⟨rest, rfl⟩ := List.head?_eq_some_iff.mp head
    rfl
  have index : indexOf 31 (u8 body 0) = i := by
    rw [first]
    exact indexOf_ofNat (by decide) i
  have set_eq : ∀ z, set z = withSource (took s) i z := fun z => rfl
  have config : x.configure body = y := configure_eq x body
  have acts : ∀ {st : Status} {t : State}, irqSetStatus x body = st →
      (if st = .ok then takeIrqSet i body (took s) else took s) = t → replies t st.code := by
    intro st t status taken
    have run := exec_irqSet expected room id length fields index status
    rw [taken, replySource_eq _ _ index, first] at run
    exact run
  refine ⟨fun yes not_idle not_pending =>
      acts (st := .state) (irqSetStatus_busy yes not_idle not_pending) (if_neg (by decide)),
    fun yes open_ bad => acts (st := .misaligned) ?_ (if_neg (by decide)), fun yes open_ good => ?_,
    fun no shut => acts (st := .state) (irqSetStatus_shut no shut) (if_neg (by decide)),
    fun no open_ => acts (st := .ok) (irqSetStatus_disabling no (open_.imp_right .inl)) ((if_pos rfl).trans ?_),
    fun no open_ => acts (st := .ok) (irqSetStatus_disabling no (.inr (.inr open_))) ((if_pos rfl).trans ?_)⟩
  · rw [irqSetStatus_enabling yes open_]
    exact if_neg fun aligned => (operationsAligned_iff _ _).mp aligned bad
  · have ok : irqSetStatus x body = .ok := by
      rw [irqSetStatus_enabling yes open_]
      exact if_pos ((operationsAligned_iff _ _).mpr good)
    have taken : takeIrqSet i body (took s) = judgeSource i (set y) := by
      rw [takeIrqSet_enabling yes, ← config]
      rfl
    exact ⟨fun ripe => acts ok ((if_pos rfl).trans (taken.trans (judgeSource_ripe ripe))),
      fun unripe => acts ok ((if_pos rfl).trans (taken.trans (judgeSource_unripe unripe)))⟩
  · have same : x.disabledState = x.state := by
      unfold Source.disabledState
      rcases open_ with h | h <;> simp only [h]
    rw [takeIrqSet_disabling no, set_eq, ← config]
    refine congrArg (withSource (took s) i) ?_
    show ({ x.configure body with state := x.disabledState } : Source) = x.configure body
    rw [same]
    rfl
  · have idle : x.disabledState = .idle := by
      unfold Source.disabledState
      rcases open_ with h | h <;> simp only [h]
    rw [takeIrqSet_disabling no, set_eq, ← config]
    refine congrArg (withSource (took s) i) ?_
    show ({ x.configure body with state := x.disabledState } : Source) = { x.configure body with state := .idle }
    rw [idle]

/-! ## IRQ-DONE (06 R119) -/

theorem closeCycle_write {w : AckWrite} (write : (s.sources.get i).ackWrite = some w) : closeCycle i s =
    asked s i { s.sources.get i with state := .acking } true w.localAddr w.size w.value := by
  unfold closeCycle
  simp only [write]
  simp [askPort, asked, modSource_eq, modPort_eq, State.bumpPlace, State.setNextPlace, Table.set_set, portOfSource,
    write]

theorem closeCycle_none (none_ : (s.sources.get i).ackWrite = none) :
    closeCycle i s = judgeSource i (withSource s i { s.sources.get i with state := .idle }) := by
  unfold closeCycle
  split
  · next w write => exact absurd (write.symm.trans none_) (by simp)
  · rfl

/-- Settles O46: an acknowledge write is asked for, or the source is judged at once. -/
theorem irqDoneClosesTheCycle : Obligations.IrqDoneClosesTheCycle := by
  intro f id i s expected room b x idle replies
  have index : indexOf 31 (u8 [b] 0) = i := indexOf_ofNat (by decide) i
  have closes : ∀ {t : State}, x.state = .notified → closeCycle i (took s) = t → replies t 0 := by
    intro t notified closed
    have := exec_irqDone expected room id i
    rw [if_pos notified, closed] at this
    exact this.trans (congrArg Host.Outcome.next (replySource_eq .irqDone id index .ok t))
  refine ⟨fun other => ?_, fun w notified write => closes notified (closeCycle_write (s := took s) write),
    fun notified none_ => ⟨fun ripe => closes notified ?_, fun unripe => closes notified ?_⟩⟩
  · have := exec_irqDone expected room id i
    rw [if_neg other] at this
    exact this.trans (congrArg Host.Outcome.next (replySource_eq .irqDone id index .state (took s)))
  · exact (closeCycle_none (s := took s) none_).trans (judgeSource_ripe ripe)
  · exact (closeCycle_none (s := took s) none_).trans (judgeSource_unripe unripe)

/-! ## IRQ-MASK of one source (06 R121) -/

theorem ripe_iff (s : State) (i : Fin 32) :
    Ripe s i ↔ (s.sources.get i).startsCycle (s.pins.lines.get i) = true := by
  unfold Ripe Asks Source.startsCycle Source.asks
  cases (s.sources.get i).trigger <;> simp <;> tauto

/-- Whether the mask shows in a source's being ripe. -/
theorem ripe_unmasked (s : State) (i : Fin 32) (b : Bool) :
    Ripe (withSource s i { s.sources.get i with masked := b }) i ↔ Ripe s i := by
  unfold Ripe Asks
  rw [withSource_get]
  rfl

theorem maskSource_masking (i : Fin 32) (s : State) : maskSource true i s = withSource s i { s.sources.get i with
    masked := true, state := if (s.sources.get i).state = .due then .pending else (s.sources.get i).state } := by
  unfold maskSource
  simp only [modSource_eq_withSource, withSource_get, withSource_twice]
  cases h : (s.sources.get i).state <;> rfl

/-- An unmasked source that goes on: the record it goes on with (06 R112, R121). -/
def goesOnWith (x : Source) : Source :=
  if x.state = .pending then { x with masked := false }
  else { x with masked := false, latch := false, behindFlush := false }

theorem maskSource_pending (pending : (s.sources.get i).state = .pending) :
    maskSource false i s = cycleGoesOn s i { s.sources.get i with masked := false } := by
  unfold maskSource
  simp only [pending, modSource_eq_withSource, fetchOrDue_eq, withSource_get, cycleGoesOn_withSource]

theorem maskSource_idle (idle : (s.sources.get i).state = .idle) :
    maskSource false i s = judgeSource i (withSource s i { s.sources.get i with masked := false }) := by
  unfold maskSource
  simp only [idle, modSource_eq_withSource]

theorem maskSource_busy (not_idle : (s.sources.get i).state ≠ .idle) (not_pending : (s.sources.get i).state ≠ .pending) :
    maskSource false i s = withSource s i { s.sources.get i with masked := false } := by
  unfold maskSource
  dsimp only
  split
  · next _ h => cases h
  · next h _ => exact absurd h not_idle
  · next h _ => exact absurd h not_pending
  · rfl

/-- An unmasked source that is ripe goes on at once. -/
theorem cycleStarted_unmasked (s : State) (i : Fin 32) :
    cycleStarted (withSource s i { s.sources.get i with masked := false }) i
      = cycleGoesOn s i { s.sources.get i with masked := false, latch := false, behindFlush := false } := by
  unfold cycleStarted
  simp only [withSource_get, cycleGoesOn_withSource, Bool.false_eq_true, if_false]

theorem maskSource_goes (goes : (s.sources.get i).state = .pending ∨ Ripe s i) :
    maskSource false i s = cycleGoesOn s i (goesOnWith (s.sources.get i)) := by
  unfold goesOnWith
  by_cases pending : (s.sources.get i).state = .pending
  · rw [if_pos pending, maskSource_pending pending]
  · have ripe := goes.resolve_left pending
    rw [if_neg pending, maskSource_idle ripe.1, judgeSource_ripe ((ripe_unmasked s i false).mpr ripe),
      cycleStarted_unmasked]

theorem maskSource_stays (stays : ¬((s.sources.get i).state = .pending ∨ Ripe s i)) :
    maskSource false i s = withSource s i { s.sources.get i with masked := false } := by
  obtain ⟨not_pending, unripe⟩ := not_or.mp stays
  by_cases idle : (s.sources.get i).state = .idle
  · rw [maskSource_idle idle, judgeSource_unripe (mt (ripe_unmasked s i false).mp unripe)]
  · exact maskSource_busy idle not_pending

section

variable {f : FrameHead} (expected : Expected f s) (room : Room s)

include expected room

theorem exec_irqMask (id : Half) {b : Byte} (valid : b.toNat ≤ 31 ∨ b.toNat = 255) (v : Bool) :
    exec (.irqMask f id [b, yesNo v]) s = .next (answer
      (if b = 255 then
        foldOver (sourceOrder s.freeDraws) (maskSource v) ((took s).setFreeDraws (s.freeDraws + 1))
      else maskSource v (indexOf 31 b) (took s)) id 0x51 0 [b]) := by
  have fields : fieldsOk .irqMask [b, yesNo v] = (atMostOrAll 31 b && isYesNo (yesNo v)) := rfl
  refine (exec_request_ok (k := .irqMask) expected room (by decide) id (intakeRefusal_ok rfl ?_)).trans
    (congrArg Host.Outcome.next ?_)
  · rw [fields, Bool.and_eq_true, atMostOrAll, isYesNo, decide_eq_true_eq, decide_eq_true_eq]
    exact ⟨valid, yesNo_le v⟩
  · have field : (u8 [b, yesNo v] 1 == 1) = v := yesNo_eq_one v
    show ownIrqMask id [b, yesNo v] (took s) = _
    unfold ownIrqMask
    rw [field]
    rfl

theorem exec_irqMask_one (id : Half) (i : Fin 32) (v : Bool) :
    exec (.irqMask f id [BitVec.ofNat 8 i.val, yesNo v]) s
      = .next (answer (maskSource v i (took s)) id 0x51 0 [BitVec.ofNat 8 i.val]) := by
  have byte : (BitVec.ofNat 8 i.val).toNat = i.val := indexByte_toNat (by decide) i
  have one : BitVec.ofNat 8 i.val ≠ 255 := fun h => by
    have := congrArg BitVec.toNat h
    rw [byte] at this
    exact absurd this (by have := i.isLt; simp; omega)
  have index : indexOf 31 (BitVec.ofNat 8 i.val) = i := indexOf_ofNat (by decide) i
  rw [exec_irqMask expected room id (.inl (by omega)), if_neg one, index]

theorem exec_irqMask_all (id : Half) (v : Bool) :
    exec (.irqMask f id [255, yesNo v]) s = .next (answer
      (foldOver (sourceOrder s.freeDraws) (maskSource v) ((took s).setFreeDraws (s.freeDraws + 1))) id 0x51 0
        [255]) := by
  rw [exec_irqMask expected room id (.inr rfl), if_pos rfl]

end

/-! ## One source after another (06 R121, R125) -/

/-- A port whose queue grows. -/
def withOps (x : Port) (l : List IrqOp) : Port := { x with opQueue := x.opQueue ++ l }

theorem withOps_nil (x : Port) : withOps x [] = x := by
  unfold withOps
  rw [List.append_nil]

theorem withOps_append (x : Port) (l m : List IrqOp) : withOps (withOps x l) m = withOps x (l ++ m) := by
  unfold withOps
  simp only [List.append_assoc]

/-- A source acts: its record is replaced, and its port may be asked for an operation. -/
def stepped (s : State) (i : Fin 32) (x : Source) (op : Option IrqOp) : State :=
  { s with
    sources := s.sources.set i x
    ports := s.ports.modify (portOfSource i) (withOps · op.toList)
    nextPlace := s.nextPlace + op.toList.length }

/-- The operations that the sources of a list ask for, one after another, from a place on. -/
def gathered (ask : Fin 32 → Nat → Option IrqOp) : List (Fin 32) → Nat → List IrqOp
  | [], _ => []
  | i :: l, n => (ask i n).toList ++ gathered ask l (n + (ask i n).toList.length)

theorem gathered_cons (ask : Fin 32 → Nat → Option IrqOp) (i : Fin 32) (l : List (Fin 32)) (n : Nat) :
    gathered ask (i :: l) n = (ask i n).toList ++ gathered ask l (n + (ask i n).toList.length) := rfl

theorem gathered_congr {ask ask' : Fin 32 → Nat → Option IrqOp} {l : List (Fin 32)}
    (same : ∀ k ∈ l, ask' k = ask k) (n : Nat) : gathered ask' l n = gathered ask l n := by
  induction l generalizing n with
  | nil => rfl
  | cons i l ih =>
    rw [gathered_cons, gathered_cons, same i List.mem_cons_self, ih fun k mem => same k (List.mem_cons_of_mem _ mem)]

/-- An operation is that of the source that asks, at the place given. -/
def OwnOps (ask : Fin 32 → Nat → Option IrqOp) : Prop :=
  ∀ i n op, ask i n = some op → op.source = i ∧ op.place = n

/-- A source is at the port of its index. -/
def atPort (p : Fin 4) (op : IrqOp) : Bool := portOfSource op.source == p

section

variable {ask : Fin 32 → Nat → Option IrqOp} (own : OwnOps ask)
include own

theorem ask_filter (i : Fin 32) (n : Nat) (p : Fin 4) :
    (ask i n).toList.filter (atPort p) = if portOfSource i = p then (ask i n).toList else [] := by
  cases asked : ask i n with
  | none => simp
  | some op =>
    have source := (own i n op asked).1
    by_cases here : portOfSource i = p <;> simp [atPort, source, here]

/-- Each operation asked for is that of a source of the list, at a place of its own. -/
theorem mem_gathered {l : List (Fin 32)} {n : Nat} {op : IrqOp} (mem : op ∈ gathered ask l n) :
    op.source ∈ l ∧ n ≤ op.place ∧ op.place < n + (gathered ask l n).length
      ∧ ask op.source op.place = some op := by
  induction l generalizing n with
  | nil => cases mem
  | cons i l ih =>
    rw [gathered_cons] at mem ⊢
    rw [List.length_append]
    rcases List.mem_append.mp mem with here | later
    · have asked : ask i n = some op := Option.mem_toList.mp here
      obtain ⟨source, place⟩ := own i n op asked
      rw [source, place, asked]
      exact ⟨List.mem_cons_self, Nat.le_refl _, by simp, rfl⟩
    · obtain ⟨source, low, high, asked⟩ := ih later
      exact ⟨List.mem_cons_of_mem _ source, by omega, by omega, asked⟩

theorem gathered_pairwise (l : List (Fin 32)) (n : Nat) :
    (gathered ask l n).Pairwise fun a b => a.place < b.place := by
  induction l generalizing n with
  | nil => exact .nil
  | cons i l ih =>
    rw [gathered_cons]
    refine List.pairwise_append.mpr ⟨?_, ih _, fun a first b later => ?_⟩
    · cases ask i n <;> simp
    · have asked : ask i n = some a := Option.mem_toList.mp first
      obtain ⟨-, low, -, -⟩ := mem_gathered own later
      rw [asked] at low
      have place := (own i n a asked).2
      simp only [Option.toList_some, List.length_singleton] at low
      omega

theorem gathered_sources_nodup {l : List (Fin 32)} (nodup : l.Nodup) (n : Nat) :
    ((gathered ask l n).map IrqOp.source).Nodup := by
  induction l generalizing n with
  | nil => exact List.nodup_nil
  | cons i l ih =>
    obtain ⟨fresh, nodup⟩ := List.nodup_cons.mp nodup
    rw [gathered_cons, List.map_append]
    refine List.nodup_append.mpr ⟨?_, ih nodup _, fun a first b later same => ?_⟩
    · cases ask i n <;> simp
    · obtain ⟨op, mem, rfl⟩ := List.mem_map.mp first
      obtain ⟨op', mem', rfl⟩ := List.mem_map.mp later
      rw [(own i n op (Option.mem_toList.mp mem)).1] at same
      exact fresh (same ▸ (mem_gathered own mem').1)

theorem exists_gathered {l : List (Fin 32)} {i : Fin 32} (mem : i ∈ l) (asks : ∀ n, (ask i n).isSome = true) (n : Nat) :
    ∃ op ∈ gathered ask l n, op.source = i := by
  induction l generalizing n with
  | nil => cases mem
  | cons k l ih =>
    rw [gathered_cons]
    rcases List.mem_cons.mp mem with rfl | mem
    · obtain ⟨op, asked⟩ := Option.isSome_iff_exists.mp (asks n)
      exact ⟨op, List.mem_append_left _ (by simp [asked]), (own i n op asked).1⟩
    · obtain ⟨op, found, source⟩ := ih mem (n + (ask k n).toList.length)
      exact ⟨op, List.mem_append_right _ found, source⟩

end

/-- An action of one source that makes a record of it and asks for an operation, both read off that source
and the pins alone. -/
structure OneByOne (act : Fin 32 → State → State) (ready : State → Fin 32 → Prop)
    (record : State → Fin 32 → Source) (ask : State → Fin 32 → Nat → Option IrqOp) : Prop where
  step : ∀ s i, ready s i → act i s = stepped s i (record s i) (ask s i s.nextPlace)
  congr : ∀ {s t i}, t.sources.get i = s.sources.get i → t.pins = s.pins →
    record t i = record s i ∧ ask t i = ask s i ∧ (ready s i → ready t i)
  own : ∀ s, OwnOps (ask s)

/-- What sources that act one after another make of the sources, the ports and the next place. -/
theorem OneByOne.fold {act : Fin 32 → State → State} {ready : State → Fin 32 → Prop}
    {record : State → Fin 32 → Source} {ask : State → Fin 32 → Nat → Option IrqOp}
    (h : OneByOne act ready record ask) {l : List (Fin 32)} (nodup : l.Nodup) (s : State) (ok : ∀ k ∈ l, ready s k) :
    (∀ k, (foldOver l act s).sources.get k = if k ∈ l then record s k else s.sources.get k)
      ∧ (∀ p, (foldOver l act s).ports.get p
          = withOps (s.ports.get p) ((gathered (ask s) l s.nextPlace).filter (atPort p)))
      ∧ (foldOver l act s).nextPlace = s.nextPlace + (gathered (ask s) l s.nextPlace).length := by
  induction l generalizing s with
  | nil => exact ⟨fun k => (if_neg (by simp)).symm, fun p => (withOps_nil _).symm, rfl⟩
  | cons i l ih =>
    obtain ⟨fresh, nodup⟩ := List.nodup_cons.mp nodup
    have step := h.step s i (ok i List.mem_cons_self)
    obtain ⟨u, acts⟩ : ∃ u, act i s = u := ⟨_, rfl⟩
    have folds : foldOver (i :: l) act s = foldOver l act u := by rw [← acts]; rfl
    rw [acts] at step
    have row (k : Fin 32) : u.sources.get k = if i = k then record s i else s.sources.get k := by
      rw [step]
      exact Table.get_set _ _ _ _
    have port (p : Fin 4) : u.ports.get p
        = withOps (s.ports.get p) ((ask s i s.nextPlace).toList.filter (atPort p)) := by
      rw [step, ask_filter (h.own s)]
      refine (Table.get_modify _ _ _ _).trans ?_
      split
      · rfl
      · rw [withOps_nil]
    have place : u.nextPlace = s.nextPlace + (ask s i s.nextPlace).toList.length := by rw [step]; rfl
    have pins : u.pins = s.pins := by rw [step]; rfl
    have alike (k : Fin 32) (mem : k ∈ l) := h.congr ((row k).trans (if_neg fun e : i = k => fresh (e ▸ mem))) pins
    obtain ⟨sources, ports, places⟩ := ih nodup u fun k mem =>
      (alike k mem).2.2 (ok k (List.mem_cons_of_mem _ mem))
    rw [gathered_congr fun k mem => (alike k mem).2.1, place] at ports places
    refine ⟨fun k => ?_, fun p => ?_, ?_⟩
    · rw [folds, sources]
      by_cases mem : k ∈ l
      · rw [if_pos mem, if_pos (List.mem_cons_of_mem _ mem), (alike k mem).1]
      · rw [if_neg mem, row]
        by_cases here : i = k
        · subst here
          rw [if_pos rfl, if_pos List.mem_cons_self]
        · rw [if_neg here, if_neg (by simp [mem, Ne.symm here])]
    · rw [folds, ports, port, withOps_append, gathered_cons, List.filter_append]
    · rw [folds, places, gathered_cons, List.length_append]
      omega

/-! ## IRQ-MASK of every source -/

/-- A source goes on when it is unmasked. -/
def goesOn (s : State) (i : Fin 32) : Bool :=
  (s.sources.get i).state == .pending || (s.sources.get i).startsCycle (s.pins.lines.get i)

theorem goesOn_iff (s : State) (i : Fin 32) : goesOn s i = true ↔ (s.sources.get i).state = .pending ∨ Ripe s i := by
  rw [goesOn, Bool.or_eq_true, beq_iff_eq, ripe_iff]

/-- The record of a source that goes on with a record (06 R112). -/
def wentOn (x : Source) : Source :=
  if x.vectorRead.isSome then { x with state := .fetching, inFlight := true }
  else { x with state := .due, vecStatus := none, vecValue := 0 }

/-- A source's record once it has been unmasked. -/
def unmasked (s : State) (i : Fin 32) : Source :=
  if goesOn s i = true then wentOn (goesOnWith (s.sources.get i)) else { s.sources.get i with masked := false }

/-- The vector read that an unmasked source asks for, at a place. -/
def fetchAt (s : State) (i : Fin 32) (n : Nat) : Option IrqOp :=
  if goesOn s i = true then
    (s.sources.get i).vectorRead.map fun v => ⟨i, false, v.localAddr, v.size, 0, 0, none, n, false⟩
  else none

theorem goesOnWith_vectorRead (x : Source) : (goesOnWith x).vectorRead = x.vectorRead := by
  unfold goesOnWith
  split <;> rfl

theorem maskSource_unmasking (i : Fin 32) (s : State) :
    maskSource false i s = stepped s i (unmasked s i) (fetchAt s i s.nextPlace) := by
  have still : s.ports.modify (portOfSource i) (withOps · []) = s.ports := by
    rw [Table.modify, withOps_nil, Table.set_get_self]
  unfold unmasked fetchAt stepped
  by_cases goes : goesOn s i = true
  · rw [if_pos goes, if_pos goes, maskSource_goes ((goesOn_iff s i).mp goes)]
    have same := goesOnWith_vectorRead (s.sources.get i)
    unfold cycleGoesOn wentOn
    cases vector : (s.sources.get i).vectorRead with
    | none =>
      rw [vector] at same
      simp only [same, Option.map_none, Option.toList_none, still]
      rfl
    | some v =>
      rw [vector] at same
      simp only [same]
      rfl
  · rw [if_neg goes, if_neg goes, maskSource_stays (mt (goesOn_iff s i).mpr goes)]
    simp only [Option.toList_none, still]
    rfl

theorem goesOn_congr (source : t.sources.get i = s.sources.get i) (pins : t.pins = s.pins) :
    goesOn t i = goesOn s i := by
  unfold goesOn
  rw [source, pins]

theorem fetchAt_eq_some {n : Nat} {op : IrqOp} (h : fetchAt s i n = some op) :
    op.source = i ∧ op.place = n ∧ goesOn s i = true ∧ ∃ v, (s.sources.get i).vectorRead = some v
      ∧ op = ⟨i, false, v.localAddr, v.size, 0, 0, none, n, false⟩ := by
  unfold fetchAt at h
  split at h
  · next goes =>
    obtain ⟨v, vector, rfl⟩ := Option.map_eq_some_iff.mp h
    exact ⟨rfl, rfl, goes, v, vector, rfl⟩
  · cases h

theorem fetchAt_own (s : State) : OwnOps (fetchAt s) := fun _ _ _ h =>
  ⟨(fetchAt_eq_some h).1, (fetchAt_eq_some h).2.1⟩

/-- Unmasking acts on its source alone, and asks for a vector read at most. -/
theorem unmasking : OneByOne (maskSource false) (fun _ _ => True) unmasked fetchAt where
  step s i _ := maskSource_unmasking i s
  congr source pins := by
    unfold unmasked fetchAt
    rw [goesOn_congr source pins, source]
    exact ⟨rfl, rfl, id⟩
  own := fetchAt_own

theorem fetchAt_isSome (goes : goesOn s i = true) (reads : (s.sources.get i).vectorRead.isSome = true) (n : Nat) :
    (fetchAt s i n).isSome = true := by
  unfold fetchAt
  rw [if_pos goes, Option.isSome_map, reads]

/-- Every operation is at one port. -/
theorem sum_atPort (l : List IrqOp) : ((Table.indices 4).map fun p => (l.filter (atPort p)).length).sum = l.length := by
  induction l with
  | nil => rfl
  | cons op l ih =>
    have one : ∀ q : Fin 4, ((Table.indices 4).map fun p => if q = p then 1 else 0).sum = 1 := by decide
    have split : (fun p => ((op :: l).filter (atPort p)).length)
        = fun p => (if portOfSource op.source = p then 1 else 0) + (l.filter (atPort p)).length := by
      funext p
      by_cases here : portOfSource op.source = p
      · rw [List.filter_cons_of_pos (by simp [atPort, here]), List.length_cons, if_pos here, Nat.add_comm]
      · rw [List.filter_cons_of_neg (by simp [atPort, here]), if_neg here, Nat.zero_add]
    rw [split, List.sum_map_add, one, ih, List.length_cons, Nat.add_comm]

/-- What masking sources one after another makes of the sources, the ports and the next place. -/
theorem mask_fold {l : List (Fin 32)} (nodup : l.Nodup) (s : State) :
    (∀ k, (foldOver l (maskSource true) s).sources.get k = if k ∈ l then { s.sources.get k with
        masked := true, state := if (s.sources.get k).state = .due then .pending else (s.sources.get k).state }
        else s.sources.get k)
      ∧ (foldOver l (maskSource true) s).ports = s.ports
      ∧ (foldOver l (maskSource true) s).nextPlace = s.nextPlace := by
  induction l generalizing s with
  | nil => exact ⟨fun k => (if_neg (by simp)).symm, rfl, rfl⟩
  | cons i l ih =>
    obtain ⟨fresh, nodup⟩ := List.nodup_cons.mp nodup
    obtain ⟨sources, ports, places⟩ := ih nodup (maskSource true i s)
    have step : foldOver (i :: l) (maskSource true) s = foldOver l (maskSource true) (maskSource true i s) := rfl
    rw [maskSource_masking] at sources ports places step
    refine ⟨fun k => ?_, by rw [step, ports]; rfl, by rw [step, places]; rfl⟩
    rw [step, sources]
    by_cases here : i = k
    · subst here
      rw [if_neg fresh, if_pos List.mem_cons_self, withSource_get]
    · have other : ∀ x, (withSource s i x).sources.get k = s.sources.get k := fun x =>
        Table.get_set_of_ne _ _ here
      simp only [other, List.mem_cons, Ne.symm here, false_or]

theorem mem_sourceOrder (n : Nat) (i : Fin 32) : i ∈ sourceOrder n :=
  (sortByKey_perm _ _).mem_iff.mpr (Table.mem_indices i)

theorem nodup_sourceOrder (n : Nat) : (sourceOrder n).Nodup :=
  (sortByKey_perm _ _).nodup_iff.mpr Table.nodup_indices

theorem eq_of_touches_sources (h : Touches [.ports, .sources, .nextPlace] s t) :
    t = { s with sources := t.sources, ports := t.ports, nextPlace := t.nextPlace } := by
  have pins := h.pins (by simp)
  have settings := h.settings (by simp)
  have windows := h.windows (by simp)
  have pool := h.pool (by simp)
  have lists := h.lists (by simp)
  have tags := h.tags (by simp)
  have ready := h.ready (by simp)
  have jobs := h.jobs (by simp)
  have faults := h.faults (by simp)
  have direct := h.direct (by simp)
  have link := h.link (by simp)
  have freeDraws := h.freeDraws (by simp)
  have pending := h.pending (by simp)
  rw [← pins, ← settings, ← windows, ← pool, ← lists, ← tags, ← ready, ← jobs, ← faults, ← direct, ← link,
    ← freeDraws, ← pending]

/-- The record of an unmasked source, in the words of the statement. -/
theorem unmasked_stays (stays : ¬((s.sources.get i).state = .pending ∨ Ripe s i)) :
    unmasked s i = { s.sources.get i with masked := false } :=
  if_neg (mt (goesOn_iff s i).mp stays)

theorem unmasked_due (goes : (s.sources.get i).state = .pending ∨ Ripe s i)
    (none_ : (s.sources.get i).vectorRead = none) :
    unmasked s i = { goesOnWith (s.sources.get i) with state := .due, vecStatus := none, vecValue := 0 } := by
  unfold unmasked wentOn
  rw [if_pos ((goesOn_iff s i).mpr goes)]
  exact if_neg (by simp [goesOnWith_vectorRead, none_])

theorem unmasked_fetching (goes : (s.sources.get i).state = .pending ∨ Ripe s i)
    (some_ : (s.sources.get i).vectorRead.isSome = true) :
    unmasked s i = { goesOnWith (s.sources.get i) with state := .fetching, inFlight := true } := by
  unfold unmasked wentOn
  rw [if_pos ((goesOn_iff s i).mpr goes)]
  exact if_pos (by rw [goesOnWith_vectorRead, some_])

/-- Every source unmasked, in any order. -/
def unmaskedAll (s : State) : State :=
  foldOver (sourceOrder s.freeDraws) (maskSource false) ((took s).setFreeDraws (s.freeDraws + 1))

/-- The vector reads that unmasking every source asks for. -/
def fetchesAll (s : State) : List IrqOp := gathered (fetchAt s) (sourceOrder s.freeDraws) s.nextPlace

/-- What unmasking every source makes of the sources, the ports and the next place. -/
theorem unmaskedAll_eq (s : State) : (∀ i, (unmaskedAll s).sources.get i = unmasked s i)
    ∧ (∀ p, (unmaskedAll s).ports.get p = withOps (s.ports.get p) ((fetchesAll s).filter (atPort p)))
    ∧ (unmaskedAll s).nextPlace = s.nextPlace + (fetchesAll s).length := by
  obtain ⟨sources, ports, places⟩ := unmasking.fold (nodup_sourceOrder s.freeDraws)
    ((took s).setFreeDraws (s.freeDraws + 1)) fun _ _ => trivial
  exact ⟨fun i => (sources i).trans (if_pos (mem_sourceOrder _ i)), ports, places⟩

/-- How far a port's queue grows. -/
theorem unmaskedAll_growth (s : State) (p : Fin 4) :
    ((unmaskedAll s).ports.get p).opQueue.length - (s.ports.get p).opQueue.length
      = ((fetchesAll s).filter (atPort p)).length := by
  rw [(unmaskedAll_eq s).2.1, withOps, List.length_append, Nat.add_sub_cancel_left]

/-- Settles O45: one source is masked or unmasked, and all are, one after another. -/
theorem irqMaskActsByTheSourcesState : Obligations.IrqMaskActsByTheSourcesState := by
  constructor
  · intro f id i v s expected room b x set replies
    have acts : ∀ {t : State}, maskSource v i (took s) = t → replies t := fun {t} h => by
      have run := exec_irqMask_one expected room id i v
      rw [h] at run
      exact run
    refine ⟨fun mask not_due => acts ?_, fun mask due => acts ?_, fun unmask not_idle not_pending => acts ?_,
      fun unmask pending => acts ?_, fun unmask idle => ⟨fun ripe => acts ?_, fun unripe => acts ?_⟩⟩
    · have same : ((took s).sources.get i).state ≠ .due := not_due
      rw [mask, maskSource_masking, if_neg same]
      rfl
    · have same : ((took s).sources.get i).state = .due := due
      rw [mask, maskSource_masking, if_pos same]
      rfl
    · rw [unmask]
      exact maskSource_busy (s := took s) not_idle not_pending
    · rw [unmask, maskSource_pending (s := took s) pending]
      exact (cycleGoesOn_withSource _ _ _ _).symm
    · rw [unmask, maskSource_idle (s := took s) idle]
      exact judgeSource_ripe ripe
    · rw [unmask, maskSource_idle (s := took s) idle]
      exact judgeSource_unripe unripe
  · intro f id v s expected room
    refine ⟨_, exec_irqMask_all expected room id v, ?_, fun mask => ?_, fun unmask => ?_⟩
    · exact eq_of_touches_sources (Touches.foldOver _ _ fun i t => maskSource_touches v i t)
    · subst mask
      obtain ⟨sources, ports, places⟩ := mask_fold (nodup_sourceOrder s.freeDraws)
        ((took s).setFreeDraws (s.freeDraws + 1))
      exact ⟨ports, places, fun i => by rw [sources, if_pos (mem_sourceOrder _ i)]; rfl⟩
    · subst unmask
      obtain ⟨records, ports, places⟩ := unmaskedAll_eq s
      have own := fetchAt_own s
      refine ⟨fun i => ?_, fun p => ⟨(fetchesAll s).filter (atPort p), ports p, ?_, ?_, fun op mem => ?_,
        fun i here goes reads => ?_⟩, ?_⟩
      · have record := records i
        exact ⟨fun stays => record.trans (unmasked_stays stays), fun goes none_ => record.trans (unmasked_due goes none_),
          fun goes some_ => record.trans (unmasked_fetching goes some_)⟩
      · exact (List.filter_sublist.map _).nodup (gathered_sources_nodup own (nodup_sourceOrder _) _)
      · exact (gathered_pairwise own _ _).sublist List.filter_sublist
      · obtain ⟨mem, here⟩ := List.mem_filter.mp mem
        obtain ⟨-, low, high, fetch⟩ := mem_gathered own mem
        obtain ⟨-, -, goes, v, vector, it⟩ := fetchAt_eq_some fetch
        refine ⟨congrArg Fin.val (beq_iff_eq.mp here), low, ?_, (goesOn_iff s _).mp goes, v, vector, it⟩
        exact Nat.lt_of_lt_of_eq high places.symm
      · obtain ⟨op, mem, source⟩ := exists_gathered own (mem_sourceOrder s.freeDraws i)
          (fetchAt_isSome ((goesOn_iff s i).mpr goes) reads) s.nextPlace
        exact ⟨op, List.mem_filter.mpr ⟨mem, beq_iff_eq.mpr (Fin.ext (source ▸ here))⟩, source⟩
      · refine places.trans (congrArg (s.nextPlace + ·) ?_)
        rw [← sum_atPort]
        exact congrArg List.sum (List.map_congr_left fun p _ => (unmaskedAll_growth s p).symm)

end Sys2Proof.Proofs.SourceUse

/-! # The host candidate (02 R28, R29), the port arbiter (04 R70 to R74) and what a start does (04 R62) -/

namespace Sys2Proof.Proofs.Starts

-- One theorem after another: the proofs of this part at once ask for more threads than the check allows.
set_option Elab.async false

open Sys2Proof.Machine Sys2Proof.Safety Sys2Proof.Proofs.RequestTurns Sys2Proof.Proofs.Chores

variable {s t : State} {p : Fin 4}

/-! ## The command (04 R70) -/

theorem exec_portStart_none (nothing : arbiterChoice p s = none) : exec (.portStart p) s = .next s := by
  simp only [exec, execPortStart, nothing, ite_self]

theorem exec_portStart_some (low : s.pins.resetLow = false) {c : Choice} (choice : arbiterChoice p s = some c) :
    exec (.portStart p) s = .next (startChoice p c s) := by
  simp only [exec, execPortStart, low, choice, Bool.false_eq_true, if_false]

/-- A start command that changes something starts what the arbiter chose. -/
theorem choice_of_portStart (start : exec (.portStart p) s = .next t) :
    t = s ∨ ∃ c, arbiterChoice p s = some c ∧ t = startChoice p c s := by
  by_cases low : s.pins.resetLow = true
  · simp only [exec, execPortStart, low, if_true, Host.Outcome.next.injEq] at start
    exact .inl start.symm
  · rcases choice : arbiterChoice p s with _ | c
    · rw [exec_portStart_none choice, Host.Outcome.next.injEq] at start
      exact .inl start.symm
    · rw [exec_portStart_some (by simpa using low) choice, Host.Outcome.next.injEq] at start
      exact .inr ⟨c, rfl, start.symm⟩

/-! ## The host candidate (02 R28, R29) -/

theorem heldOff_iff (s : State) (e : Entry) : HeldOff s e ↔ inHoldOff s e = true := by
  cases e with
  | tag k => exact Iff.rfl
  | post k => cases h : s.pool.get k <;> simp [HeldOff, inHoldOff, h]

theorem barredAt_iff (s : State) (e : Entry) : barredAt s.tags (placeOf s e) = true ↔ ¬Unbarred s e := by
  simp only [barredAt, Unbarred, List.any_eq_true, Table.mem_rows_iff, Bool.and_eq_true, beq_iff_eq,
    decide_eq_true_eq, not_forall, Nat.not_le, exists_exists_eq_and, exists_prop]

/-- The first entry of a kind in a list in arrival order was admitted before the others of that kind. -/
theorem find_earliest {key : Entry → Nat} {l : List Entry} (order : l.Pairwise fun a b => key a < key b)
    {q : Entry → Bool} {e : Entry} (found : l.find? q = some e) {x : Entry} (mem : x ∈ l) (hx : q x = true) :
    x = e ∨ key e < key x := by
  obtain ⟨-, pre, post, rfl, before⟩ := List.find?_eq_some_iff_append.mp found
  have later := (List.pairwise_append.mp order).2.1
  rcases List.mem_append.mp mem with mem | mem
  · exact absurd hx (by simpa using before x mem)
  · exact (List.mem_cons.mp mem).imp id ((List.pairwise_cons.mp later).1 x)

theorem head_earliest {key : Entry → Nat} {l : List Entry} (order : l.Pairwise fun a b => key a < key b)
    {e : Entry} (head : l.head? = some e) {x : Entry} (mem : x ∈ l) : x = e ∨ key e < key x :=
  find_earliest order (q := fun _ => true) (by cases l <;> simp_all) mem rfl

/-- The provisional choice is the head or, past a non-posted head in hold-off, the earliest POST. -/
theorem provisional_cases {l : List Entry} {e : Entry} (choice : provisional s l = some e) :
    inHoldOff s e = false ∧ (l.head? = some e ∨ (l.find? Entry.isPost = some e)) := by
  unfold provisional at choice
  split at choice
  · cases choice
  · next head rest =>
    split at choice
    · next free => cases choice; exact ⟨by simpa using free, .inl rfl⟩
    · split at choice
      · cases choice
      · split at choice
        · next e' found =>
          split at choice
          · cases choice
          · next free => cases choice; exact ⟨by simpa using free, .inr found⟩
        · cases choice

theorem candidate_none (choice : provisional s (s.lists.get p) = none) : candidate p s = none := by
  unfold candidate
  rw [choice]

theorem candidate_eq {e : Entry} (choice : provisional s (s.lists.get p) = some e) :
    candidate p s = if barredAt s.tags (placeOf s e) then none else some e := by
  unfold candidate
  rw [choice]

theorem provisional_of_choice {e : Entry} (choice : provisional s (s.lists.get p) = some e) :
    Provisional s p e := by
  constructor
  · exact fun free => (candidate_eq choice).trans (if_neg fun bar => (barredAt_iff s e).mp bar free)
  · exact fun bar => (candidate_eq choice).trans (if_pos ((barredAt_iff s e).mpr bar))

/-- A candidate is the provisional choice, and no FENCE in WAITING was admitted before it. -/
theorem provisional_of_candidate {e : Entry} (h : candidate p s = some e) :
    provisional s (s.lists.get p) = some e ∧ Unbarred s e := by
  rcases choice : provisional s (s.lists.get p) with _ | e'
  · rw [candidate_none choice] at h
    cases h
  · rw [candidate_eq choice] at h
    split at h
    · cases h
    · next free =>
      cases h
      exact ⟨rfl, not_not.mp fun bar => free ((barredAt_iff s e).mpr bar)⟩

theorem provisional_free {e : Entry} (rest : List Entry) (free : inHoldOff s e = false) :
    provisional s (e :: rest) = some e := by
  simp [provisional, free]

theorem provisional_post {k : Fin 32} (rest : List Entry) (waits : inHoldOff s (.post k) = true) :
    provisional s (.post k :: rest) = none := by
  simp [provisional, waits]

theorem provisional_tag_none {k : Fin 32} {rest : List Entry} (waits : inHoldOff s (.tag k) = true)
    (none_ : ∀ m, Entry.post m ∉ rest) : provisional s (.tag k :: rest) = none := by
  have found : (Entry.tag k :: rest).find? Entry.isPost = none := by
    rw [List.find?_eq_none]
    rintro (i | i) mem
    · simp [Entry.isPost]
    · exact absurd (by simpa using mem) (none_ i)
  simp only [provisional, waits, found, Bool.not_true, Bool.false_eq_true, if_false]

theorem provisional_tag_some {k m : Fin 32} {rest : List Entry} (waits : inHoldOff s (.tag k) = true)
    (order : rest.Pairwise fun a b => placeOf s a < placeOf s b) (mem : Entry.post m ∈ rest)
    (first : ∀ n, Entry.post n ∈ rest → placeOf s (.post m) ≤ placeOf s (.post n)) :
    provisional s (.tag k :: rest) = if inHoldOff s (.post m) then none else some (.post m) := by
  have found : rest.find? Entry.isPost = some (.post m) := by
    obtain ⟨e, found⟩ := Option.isSome_iff_exists.mp
      (List.find?_isSome.mpr ⟨_, mem, rfl⟩ : (rest.find? Entry.isPost).isSome = true)
    rcases find_earliest order found mem rfl with same | less
    · rw [found, same]
    · cases e with
      | tag i => exact absurd (List.find?_some found) (by simp [Entry.isPost])
      | post n => exact absurd (first n (List.mem_of_find?_eq_some found)) (Nat.not_le.mpr less)
  simp only [provisional, waits, List.find?_cons, found, Entry.isPost, Bool.not_true, Bool.false_eq_true, if_false]

/-! ## What leaves a request list by a start -/

theorem removeEntry_get (e : Entry) (s : State) (p : Fin 4) :
    (removeEntry e s).lists.get p = (s.lists.get p).filter fun x => x != e := by
  unfold removeEntry
  rw [State.setLists_lists, Table.get_map]

theorem fillTest_lists (a : Access) (s : State) : (fillTest a s).lists = s.lists := by
  unfold fillTest
  split <;> rfl

theorem makeReady_lists (i : Fin 32) (st : Status) (b : Bool) (d : Option (List Byte)) (s : State) :
    (makeReady i st b d s).lists = s.lists := by
  rw [makeReady_eq]
  split <;> rfl

theorem startTagged_lists (p : Fin 4) (i : Fin 32) (x : Tag) (a : Access) (s : State) :
    (startTagged p i x a s).lists = (removeEntry (.tag i) s).lists := by
  unfold startTagged
  dsimp only
  split <;> rfl

/-- A start takes from the lists the candidate alone. -/
theorem startHost_lists (p : Fin 4) (e : Entry) (s : State) :
    (startHost p e s).lists = s.lists ∨ (startHost p e s).lists = (removeEntry e s).lists := by
  unfold startHost
  split
  · next i =>
    dsimp only
    split
    · right
      split
      · rw [answerFromLine, fillTest_lists, makeReady_lists]
      · exact startTagged_lists _ _ _ _ _
    · exact .inl rfl
  · split
    · exact .inr rfl
    · exact .inl rfl

theorem startChoice_lists {c : Choice} (other : ∀ e, c ≠ .host e) : (startChoice p c s).lists = s.lists := by
  cases c with
  | host e => exact absurd rfl (other e)
  | lockContinuation l =>
    simp only [startChoice, startWriteHalf]
    split <;> rfl
  | operation op => rfl
  | chunk j o => rfl
  | fill a => rfl

/-- An entry that a start takes from a request list was the candidate of the port. -/
theorem candidate_of_left {e : Entry} (start : exec (.portStart p) s = .next t) (before : e ∈ s.lists.get p)
    (after : e ∉ t.lists.get p) : candidate p s = some e := by
  rcases choice_of_portStart start with rfl | ⟨c, choice, rfl⟩
  · exact absurd before after
  · by_cases host : ∃ e', c = .host e'
    · obtain ⟨e', rfl⟩ := host
      rw [candidate_of_arbiterChoice choice]
      have kept : e ∉ (removeEntry e' s).lists.get p := fun mem => after (by
        change e ∈ (startHost p e' s).lists.get p
        rcases startHost_lists p e' s with same | same <;> rw [same]
        · exact before
        · exact mem)
      rw [removeEntry_get] at kept
      simp only [List.mem_filter, before, true_and, bne_iff_ne, ne_eq, not_not] at kept
      rw [kept]
    · rw [startChoice_lists fun e' same => host ⟨e', same⟩] at after
      exact absurd before after

/-- Settles O28: what leaves the list was the candidate, and the candidate is read off `provisional`. -/
theorem hostStartsKeepArrivalOrder : Obligations.HostStartsKeepArrivalOrder := by
  constructor
  · intro p e s t order start before after
    obtain ⟨choice, unbarred⟩ := provisional_of_candidate (candidate_of_left start before after)
    obtain ⟨free, which⟩ := provisional_cases choice
    refine ⟨fun k mem => ?_, ?_, unbarred, free⟩
    · have first : Entry.post k = e ∨ placeOf s e < placeOf s (.post k) :=
        which.elim (head_earliest order · mem) (find_earliest order · mem rfl)
      exact first.elim (fun same => by rw [same]) Nat.le_of_lt
    · rintro ⟨k, rfl⟩
      exact which.resolve_right fun found => absurd (List.find?_some found) (by simp [Entry.isPost])
  · intro p s order
    have free_of {e : Entry} (h : ¬HeldOff s e) : inHoldOff s e = false := by simpa [heldOff_iff] using h
    refine ⟨fun list => candidate_none (by rw [list]; rfl), fun e rest list free => ?_,
      fun k rest list waits => ?_, fun k rest list waits => ⟨fun none_ => ?_, fun m mem first => ?_⟩⟩
    · exact provisional_of_choice (by rw [list, provisional_free rest (free_of free)])
    · exact candidate_none (by rw [list, provisional_post rest ((heldOff_iff s _).mp waits)])
    · exact candidate_none (by rw [list, provisional_tag_none ((heldOff_iff s _).mp waits) none_])
    · rw [list] at order
      have choice := provisional_tag_some ((heldOff_iff s _).mp waits) (List.pairwise_cons.mp order).2 mem first
      rw [← list] at choice
      exact ⟨fun waits => candidate_none (by rw [choice, if_pos ((heldOff_iff s _).mp waits)]),
        fun free => provisional_of_choice (by rw [choice, if_neg (by simp [free_of free])])⟩

/-! ## The arbiter's choice (04 R70 to R74) -/

theorem isHeldSet_iff (x : Port) : x.isHeldSet = true ↔ x.holds ≠ ⟨false, false, false⟩ := by
  rcases holds : x.holds with ⟨h, f, g⟩
  simp only [Port.isHeldSet, HoldSet.isEmpty, holds, ne_eq, HoldSet.mk.injEq]
  cases h <;> cases f <;> simp

/-- An IDLE port: no transaction, no lock, no hold reason (04 R61). -/
def IsFree (x : Port) : Prop := x.txn = none ∧ x.lock = none ∧ x.holds = ⟨false, false, false⟩

theorem IsFree.isHeldSet {x : Port} (free : IsFree x) : x.isHeldSet = false := by
  rw [Bool.eq_false_iff, Ne, isHeldSet_iff]
  exact not_not.mpr free.2.2

theorem arbiterChoice_busy (busy : (s.ports.get p).txn.isSome = true) : arbiterChoice p s = none := by
  simp [arbiterChoice, busy]

theorem arbiterChoice_held (unlocked : (s.ports.get p).lock = none)
    (held : (s.ports.get p).holds ≠ ⟨false, false, false⟩) : arbiterChoice p s = none := by
  simp [arbiterChoice, unlocked, (isHeldSet_iff _).mpr held]

theorem arbiterChoice_locked {l : Lock} (idle : (s.ports.get p).txn = none)
    (locked : (s.ports.get p).lock = some l) : arbiterChoice p s =
      if (s.tags.get l.tag).holdOff.isNone then some (.lockContinuation l) else none := by
  simp only [arbiterChoice, idle, locked, Option.isSome_none, Bool.false_eq_true, if_false]

theorem arbiterChoice_free (free : IsFree (s.ports.get p)) :
    arbiterChoice p s = idleChoice (s.ports.get p) (candidate p s) := by
  simp only [arbiterChoice, free.1, free.2.1, free.isHeldSet, Option.isSome_none, Bool.false_eq_true, if_false]

section

variable {x : Port}

theorem oldestOperation_none_iff : x.oldestOperation = none ↔ ∀ o ∈ x.opQueue, o.holdOff.isSome = true := by
  simp [Port.oldestOperation, List.find?_eq_none, ← Option.isSome_iff_ne_none]

theorem oldestOperation_some {pre rest : List IrqOp} {op : IrqOp} (queue : x.opQueue = pre ++ op :: rest)
    (before : ∀ o ∈ pre, o.holdOff.isSome = true) (ready : op.holdOff = none) : x.oldestOperation = some op := by
  refine List.find?_eq_some_iff_append.mpr ⟨by simp [ready], pre, rest, queue, fun o mem => ?_⟩
  simpa [Option.isSome_iff_ne_none] using before o mem

/-- The chunk of a slot waits at the port: offered, and not in hold-off (04 R73). -/
def WaitsAt (x : Port) (j : Fin 4) : Prop := ∃ o, x.offers.get j = some o ∧ o.holdOff = none

/-- The rotation, cut at a slot: the slots before it stand nearer behind the last one served. -/
theorem slotRotation_split : ∀ last j : Fin 4,
    slotRotation last = (slotRotation last).take (j - (last + 1)).val
        ++ j :: (slotRotation last).drop ((j - (last + 1)).val + 1)
      ∧ ∀ i ∈ (slotRotation last).take (j - (last + 1)).val, i - (last + 1) < j - (last + 1) := by
  decide

theorem mem_slotRotation : ∀ last j : Fin 4, j ∈ slotRotation last := by decide

theorem waitingChunk_none (none_ : ∀ j o, x.offers.get j = some o → o.holdOff.isSome = true) :
    x.waitingChunk = none := by
  rcases waits : x.waitingChunk with _ | ⟨j, o⟩
  · rfl
  · obtain ⟨offered, ready⟩ := offer_of_waitingChunk waits
    have held := none_ j o offered
    rw [ready] at held
    cases held

theorem waitingChunk_some {j : Fin 4} {o : Offer} (offered : x.offers.get j = some o) (ready : o.holdOff = none)
    (before : ∀ i : Fin 4, i - (x.lastSlot + 1) < j - (x.lastSlot + 1) →
      ∀ o', x.offers.get i = some o' → o'.holdOff.isSome = true) : x.waitingChunk = some (j, o) := by
  obtain ⟨cut, nearer⟩ := slotRotation_split x.lastSlot j
  refine List.findSome?_eq_some_iff.mpr ⟨_, j, _, cut, by simp [offered, ready], fun i mem => ?_⟩
  rcases other : x.offers.get i with _ | o'
  · rfl
  · simp [Option.isSome_iff_ne_none.mp (before i (nearer i mem) o' other)]

theorem waitingChunk_isSome_iff : x.waitingChunk.isSome = true ↔ ∃ j, WaitsAt x j := by
  constructor
  · intro some_
    obtain ⟨⟨j, o⟩, waits⟩ := Option.isSome_iff_exists.mp some_
    exact ⟨j, o, offer_of_waitingChunk waits⟩
  · rintro ⟨j, o, offered, ready⟩
    by_contra none_
    obtain h := List.findSome?_eq_none_iff.mp (Option.not_isSome_iff_eq_none.mp none_) j (mem_slotRotation _ _)
    simp [offered, ready] at h

section

variable (noOperation : x.oldestOperation = none)
include noOperation

theorem idleChoice_host {e : Entry} (goes : x.waitingChunk = none ∨ x.shareCount < x.settings.jobShare.toNat) :
    idleChoice x (some e) = some (.host e) := by
  unfold idleChoice
  rw [noOperation]
  rcases chunk : x.waitingChunk with _ | ⟨j, o⟩
  · rfl
  · have share : x.hostShare = true := decide_eq_true (goes.resolve_left (by simp [chunk]))
    simp only [share, if_true]

theorem idleChoice_chunk {c : Option Entry} {j : Fin 4} {o : Offer} (chunk : x.waitingChunk = some (j, o))
    (goes : c = none ∨ x.settings.jobShare.toNat ≤ x.shareCount) : idleChoice x c = some (.chunk j o) := by
  unfold idleChoice
  rw [noOperation, chunk]
  rcases c with _ | e
  · rfl
  · have share : x.hostShare = false := decide_eq_false (Nat.not_lt.mpr (goes.resolve_left (by simp)))
    simp only [share, Bool.false_eq_true, if_false]

theorem idleChoice_fill (noChunk : x.waitingChunk = none) :
    idleChoice x none = x.pendingFill.map Choice.fill := by
  unfold idleChoice
  rw [noOperation, noChunk]

end

theorem idleChoice_operation {op : IrqOp} (oldest : x.oldestOperation = some op) (c : Option Entry) :
    idleChoice x c = some (.operation op) := by
  unfold idleChoice
  rw [oldest]

end

/-! ## A start presents the transaction (04 R62, R63) -/

/-- A change between two states other than HELD calls for no notice. -/
theorem noticed_unheld {x y : Port} (before : x.state ≠ .held) (after : y.state ≠ .held) : noticed x y = y :=
  if_pos (iff_of_false before after)

theorem state_ne_held_of_txn {x : Port} (busy : x.txn.isSome = true) : x.state ≠ .held := by
  unfold Port.state
  simp only [busy, Bool.true_or, if_true]
  split <;> simp

theorem state_ne_held_of_lock {x : Port} (locked : x.lock.isSome = true) : x.state ≠ .held := by
  unfold Port.state
  simp only [locked, Bool.or_true, if_true]
  repeat' split
  all_goals simp

theorem state_ne_held_of_free {x : Port} (free : x.holds = ⟨false, false, false⟩) : x.state ≠ .held := by
  have unheld : x.isHeldSet = false := by
    rw [Bool.eq_false_iff, Ne, isHeldSet_iff]
    exact not_not.mpr free
  unfold Port.state
  simp only [unheld, Bool.false_eq_true, if_false]
  repeat' split
  all_goals simp

theorem startTxn_eq (unheld : (s.ports.get p).state ≠ .held) (i : Initiator) (w : Bool) (a : Word) (n : Nat)
    (d : List Byte) (l : Bool) :
    startTxn p i w a n d l s = { s with ports := s.ports.set p (presents (s.ports.get p) i w a n d l) } := by
  unfold startTxn changePort
  rw [modPort_eq, change_eq, noticed_unheld unheld (state_ne_held_of_txn (by rfl))]
  rfl

/-- A start whose port was first changed otherwise. -/
theorem startTxn_modPort {f : Port → Port} (unheld : (f (s.ports.get p)).state ≠ .held) (i : Initiator) (w : Bool)
    (a : Word) (n : Nat) (d : List Byte) (l : Bool) : startTxn p i w a n d l (s.modPort p f) =
      { s with ports := s.ports.set p (presents (f (s.ports.get p)) i w a n d l) } := by
  rw [startTxn_eq (by rwa [State.modPort_ports, Table.get_modify_self]), modPort_eq]
  simp only [Table.get_set_self, Table.set_set]

theorem startOperation_eq (free : IsFree (s.ports.get p)) {pre rest : List IrqOp} {op : IrqOp}
    (queue : (s.ports.get p).opQueue = pre ++ op :: rest) (once : op ∉ pre ++ rest) :
    startOperation p op s = { s with
      ports := s.ports.set p
        (presents { s.ports.get p with opQueue := pre ++ rest } (.operation op) op.isWrite op.localAddr op.size
          (if op.isWrite = true then (be32 op.value).drop (4 - op.size) else []) false) } := by
  have left : (s.ports.get p).opQueue.filter (fun o => o != op) = pre ++ rest := by
    rw [queue, List.filter_append, List.filter_cons_of_neg (by simp), ← List.filter_append, List.filter_eq_self]
    intro o mem
    simpa using fun same : o = op => once (same ▸ mem)
  unfold startOperation
  rw [startTxn_modPort (state_ne_held_of_free free.2.2), left]
  rfl

theorem startChunk_eq (free : IsFree (s.ports.get p)) (j : Fin 4) (o : Offer) : startChunk p j o s = { s with
    jobs := s.jobs.set j { s.jobs.get j with
      chunk := (s.jobs.get j).chunk.map fun c => { c with started := true } }
    ports := s.ports.set p
      (presents { s.ports.get p with offers := (s.ports.get p).offers.set j none, lastSlot := j, shareCount := 0 }
        (.chunk j { o with started := true }) o.isWrite o.localAddr o.size o.data false) } := by
  unfold startChunk
  dsimp only
  rw [startTxn_eq]
  · rw [modJob_eq, modPort_eq]
    simp only [Table.get_set_self, Table.set_set]
    rfl
  · rw [modJob_eq, modPort_eq]
    simp only [Table.get_set_self]
    exact state_ne_held_of_free free.2.2

theorem startFill_eq (free : IsFree (s.ports.get p)) (a : Word) : startFill p a s = { s with
    ports := s.ports.set p (presents { s.ports.get p with pendingFill := none } .fill false a 64 [] false) } :=
  startTxn_modPort (state_ne_held_of_free free.2.2) ..

theorem startWriteHalf_eq {l : Lock} {a : Access} (locked : (s.ports.get p).lock = some l)
    (access : (s.tags.get l.tag).access = some a) : startWriteHalf p l s = { s with
      ports := s.ports.set p (presents (s.ports.get p) (.modifyWrite l.tag) true a.localAddr a.count
        ((be32 l.newValue).drop (4 - a.count)) true) } := by
  simp only [startWriteHalf, access]
  exact startTxn_eq (state_ne_held_of_lock (by rw [locked]; rfl)) ..

/-- Settles O31: the arbiter's choice in each case, and the transaction that the choice presents. -/
theorem arbiterStartsInOrder : Obligations.ArbiterStartsInOrder := by
  intro p s low
  have start {c : Choice} {t : State} (choice : arbiterChoice p s = some c) (next : startChoice p c s = t) :
      exec (.portStart p) s = .next t := by rw [exec_portStart_some low choice, next]
  refine ⟨fun busy => exec_portStart_none (arbiterChoice_busy busy),
    fun unlocked held => exec_portStart_none (arbiterChoice_held unlocked held),
    fun l idle locked => ⟨fun waits => ?_, fun a ready access => ?_⟩,
    fun free pre op rest queue once before ready => ?_,
    fun free noOperation j o waiting goes => ?_,
    fun free noOperation noChunk noHost a pending => ?_,
    fun free noOperation noChunk noHost noFill => ?_⟩
  · refine exec_portStart_none ((arbiterChoice_locked idle locked).trans (if_neg ?_))
    simpa [Option.isSome_iff_ne_none] using waits
  · exact start ((arbiterChoice_locked idle locked).trans (if_pos (by rw [ready]; rfl)))
      (startWriteHalf_eq locked access)
  · exact start ((arbiterChoice_free free).trans (idleChoice_operation (oldestOperation_some queue before ready) _))
      (startOperation_eq free queue once)
  · obtain ⟨offered, ready, before⟩ := waiting
    exact start ((arbiterChoice_free free).trans (idleChoice_chunk (oldestOperation_none_iff.mpr noOperation)
      (waitingChunk_some offered ready before) goes)) (startChunk_eq free j o)
  · refine start (c := .fill a) ?_ (startFill_eq free a)
    rw [arbiterChoice_free free, noHost,
      idleChoice_fill (oldestOperation_none_iff.mpr noOperation) (waitingChunk_none noChunk)]
    exact congrArg (Option.map Choice.fill) pending
  · refine exec_portStart_none ?_
    rw [arbiterChoice_free free, noHost,
      idleChoice_fill (oldestOperation_none_iff.mpr noOperation) (waitingChunk_none noChunk)]
    exact congrArg (Option.map Choice.fill) noFill

/-! ## The start of the host candidate (04 R74, R80) -/

/-- The share count after a host start (04 R74). -/
def hostCount (x : Port) : Nat := if x.waitingChunk.isSome then min 15 (x.shareCount + 1) else 0

theorem startPost_eq (free : IsFree (s.ports.get p)) {k : Fin 32} {y : Posted} (held : s.pool.get k = some y) :
    startHost p (.post k) s = { s with
      lists := s.lists.map fun l => l.filter fun e => e != .post k
      pool := s.pool.set k (some { y with holdOff := none })
      ports := s.ports.set p (presents { s.ports.get p with shareCount := hostCount (s.ports.get p) } (.post k) true
        y.localAddr y.count y.data false) } := by
  simp only [startHost, held]
  exact startTxn_modPort (f := Port.countShare true) (by exact state_ne_held_of_free free.2.2) ..

/-- The entry of a request whose transaction starts (03 R42). -/
def activated (p : Fin 4) (k : Fin 32) (s : State) (i : Initiator) (w : Bool) (a : Access) (d : List Byte)
    (l : Bool) : State :=
  { s with
    lists := s.lists.map fun l => l.filter fun e => e != .tag k
    tags := s.tags.set k { s.tags.get k with state := .active, holdOff := none }
    ports := s.ports.set p (presents { s.ports.get p with shareCount := hostCount (s.ports.get p) } i w
      a.localAddr a.count d l) }

theorem startTagged_eq (free : IsFree (s.ports.get p)) (k : Fin 32) (a : Access) :
    startTagged p k (s.tags.get k) a s =
      if (s.tags.get k).kind = .write then activated p k s (.request k) true a (s.tags.get k).data false
      else if (s.tags.get k).kind = .modify then activated p k s (.modifyRead k) false a [] true
      else activated p k s (.request k) false a [] false := by
  have present (i : Initiator) (w : Bool) (d : List Byte) (l : Bool) :
      startTxn p i w a.localAddr a.count d l (((removeEntry (.tag k) s).modTag k fun x =>
        { x with state := .active, holdOff := none }).modPort p (Port.countShare true))
        = activated p k s i w a d l :=
    startTxn_modPort (f := Port.countShare true) (by exact state_ne_held_of_free free.2.2) ..
  unfold startTagged
  cases (s.tags.get k).kind <;> exact present ..

theorem startHost_tag {k : Fin 32} {a : Access} (access : (s.tags.get k).access = some a) :
    startHost p (.tag k) s = if lineHit (s.tags.get k) a (s.ports.get p) then answerFromLine p k a s
      else startTagged p k (s.tags.get k) a s := by
  simp only [startHost, access]

theorem lineHit_iff (x : Tag) (a : Access) (y : Port) : lineHit x a y = true ↔ x.kind = .read ∧
    a.prefetchable = true ∧ y.lineValid = true ∧ (a.localAddr - y.lineAddr).toNat + a.count ≤ 64 := by
  simp only [lineHit, Port.lineCovers, Bool.and_eq_true, beq_iff_eq, decide_eq_true_eq, and_assoc]
  exact Iff.rfl

theorem answerFromLine_eq (p : Fin 4) (k : Fin 32) (a : Access) (s : State) : answerFromLine p k a s =
    fillTest a { s with
      lists := s.lists.map fun l => l.filter fun e => e != .tag k
      tags := s.tags.set k { s.tags.get k with
        state := .ready, status := .ok, busPending := false
        data := ((s.ports.get p).lineData.drop (a.localAddr - (s.ports.get p).lineAddr).toNat).take a.count }
      ready := s.ready ++ [k] } := by
  unfold answerFromLine
  dsimp only
  rw [makeReady_eq, if_neg (by decide)]
  rfl

/-- Settles O32: the share rule lets the candidate go, and the start by the kind of its entry. -/
theorem hostCandidateStarts : Obligations.HostCandidateStarts := by
  intro p s low x starts isWaiting left free noOperation goes
  have chunk_iff : x.waitingChunk.isSome = true ↔ isWaiting := waitingChunk_isSome_iff
  have goes' : x.waitingChunk = none ∨ x.shareCount < x.settings.jobShare.toNat :=
    goes.imp_left fun no => Option.not_isSome_iff_eq_none.mp fun some_ => no (chunk_iff.mp some_)
  have start {e : Entry} {t : State} (c : candidate p s = some e) (next : startHost p e s = t) : starts t := by
    have choice : arbiterChoice p s = some (.host e) := by
      rw [arbiterChoice_free free, c, idleChoice_host (oldestOperation_none_iff.mpr noOperation) goes']
    change exec (.portStart p) s = .next t
    rw [exec_portStart_some low choice, ← next]
    rfl
  refine ⟨hostCount x, fun waits => if_pos (chunk_iff.mpr waits), fun no => if_neg fun some_ => no (chunk_iff.mp some_),
    fun k y c held => start c (startPost_eq free held), fun k a c access => ?_⟩
  have tagged := startTagged_eq free k a
  have host := startHost_tag (p := p) access
  intro active covered
  refine ⟨fun kind => start c ?_, fun kind => start c ?_, fun kind miss => start c ?_,
    fun kind prefetchable hit => start c ?_⟩
  · rw [host, if_neg (by simp [lineHit_iff, kind]), tagged, if_pos kind]
    rfl
  · rw [host, if_neg (by simp [lineHit_iff, kind]), tagged, if_neg (by simp [kind]), if_pos kind]
    rfl
  · have noHit : ¬lineHit (s.tags.get k) a (s.ports.get p) = true := fun h => by
      obtain ⟨-, yes, hit⟩ := (lineHit_iff _ _ _).mp h
      exact miss.elim (fun no => by rw [no] at yes; cases yes) (fun no => no hit)
    rw [host, if_neg noHit, tagged, if_neg (by simp [kind]), if_neg (by simp [kind])]
    rfl
  · rw [host, if_pos ((lineHit_iff _ _ _).mpr ⟨kind, prefetchable, hit⟩)]
    exact answerFromLine_eq p k a s

end Sys2Proof.Proofs.Starts

/-! # The end of a transaction (04 R64 to R66, R83), and of a request's (04 R67, R68, 03 R43, R49) -/

namespace Sys2Proof.Proofs.RequestEnds

-- One theorem after another: the proofs of this part at once ask for more threads than the check allows.
set_option Elab.async false

open Sys2Proof.Machine Sys2Proof.Safety Sys2Proof.Proofs.RequestTurns

variable {s t : State} {p : Fin 4} {q : Txn} {c : Instr}

/-! ## The commands that end a transaction (04 R64) -/

/-- The outcome that a command at a port gives its transaction (04 R64). -/
def outcomeOf : Instr → BusOutcome
  | .targetAnswer _ r => Answer.outcome r
  | _ => .silent

/-- The bytes that a command at a port gives its transaction (04 R64). -/
def bytesOf (q : Txn) : Instr → List Byte
  | .targetAnswer _ r => Answer.bytes q r
  | _ => []

theorem exec_ends (low : s.pins.resetLow = false) (txn : (s.ports.get p).txn = some q) (ends : EndsTxn p c) :
    exec c s = .next (endTxn p q (outcomeOf c) (bytesOf q c) s) := by
  rcases ends with rfl | ⟨r, rfl⟩
  · exact exec_responseLimitExpiry low txn
  · exact exec_targetAnswer r low txn

theorem repeats_iff (ends : EndsTxn p c) (v : Bool) (n : Nat) :
    (outcomeOf c).repeats v n q = true ↔ Repeated c q v n := by
  rcases ends with rfl | ⟨r, rfl⟩
  · simp [outcomeOf, BusOutcome.repeats, Repeated]
  · cases r <;> simp [outcomeOf, Answer.outcome, BusOutcome.repeats, Repeated]

theorem outcome_ok_iff (ends : EndsTxn p c) : outcomeOf c = .ok ↔ endsOk c = true := by
  rcases ends with rfl | ⟨r, rfl⟩
  · simp [outcomeOf, endsOk]
  · cases r <;> simp [outcomeOf, Answer.outcome, endsOk]

theorem final_of_failing (ends : EndsTxn p c) (failing : endsOk c = false) : (outcomeOf c).final = failure c := by
  rcases ends with rfl | ⟨r, rfl⟩
  · rfl
  · cases r with
    | accept data => cases failing
    | error => rfl
    | retry => rfl

/-- An outcome other than OK ends with a status that reports a fault (03 R45). -/
theorem final_isAccessFailure {o : BusOutcome} (failing : o ≠ .ok) : o.final.isAccessFailure = true := by
  cases o with
  | ok => exact absurd rfl failing
  | busError => rfl
  | retry => rfl
  | silent => rfl

/-! ## The port after the end of its transaction (04 R61, R83) -/

/-- The discard test of a write at the end of a transaction. -/
def seen (q : Txn) (x : Port) : Port := if q.isWrite = true then writeSeen x q.localAddr else x

theorem seen_write (write : q.isWrite = true) (x : Port) : seen q x = writeSeen x q.localAddr := if_pos write

theorem seen_read (read : q.isWrite = false) (x : Port) : seen q x = x := if_neg (by simp [read])

theorem writeTest_eq (p : Fin 4) (q : Txn) (t : State) :
    writeTest p q t = { t with ports := t.ports.set p (seen q (t.ports.get p)) } := by
  unfold writeTest seen
  split
  · rw [modPort_eq, writeEnded_eq]
  · rw [Table.set_get_self]

/-- The discard test in a state whose ports are as the end left them. -/
theorem writeTest_closed {l : Option Lock} (ports : t.ports = (closeTxn p l s).ports) : writeTest p q t =
    { t with ports := s.ports.set p (seen q (ended (s.ports.get p) l)) } := by
  rw [writeTest_eq, ports, closeTxn_eq]
  simp only [Table.get_set_self, Table.set_set]

/-- The part whose port's transaction is over, with the lock that remains. -/
def closed (p : Fin 4) (q : Txn) (l : Option Lock) (s : State) : State :=
  { s with ports := s.ports.set p (seen q (ended (s.ports.get p) l)) }

/-! ## The final outcome reaches a request (03 R43, R49) -/

section

variable {k : Fin 32}

theorem finishRequest_active (active : (s.tags.get k).state = .active) (st : Status) (d : Option (List Byte)) :
    finishRequest k st d s = makeReady k st false d s := by
  simp [finishRequest, active]

theorem finishRequest_inactive (inactive : (s.tags.get k).state ≠ .active) (st : Status) (d : Option (List Byte)) :
    finishRequest k st d s = dropResult k s := by
  simp [finishRequest, inactive]

theorem dropResult_discarding (state : (s.tags.get k).state = .discarding) :
    dropResult k s = { s with tags := s.tags.set k Tag.zero } := by
  unfold dropResult
  rw [state]
  rfl

theorem dropResult_ready (state : (s.tags.get k).state = .ready) :
    dropResult k s = s.modTag k fun x => { x with busPending := false } := by
  unfold dropResult
  rw [state]

/-- The request is READY with a status that is no failure. -/
def settledOk (k : Fin 32) (st : Status) (d : Option (List Byte)) (t : State) : State :=
  { t with
    tags := t.tags.set k { t.tags.get k with
      state := .ready, status := st, busPending := false, data := d.getD (t.tags.get k).data }
    ready := t.ready ++ [k] }

/-- The request is READY with a failure, which is reported. -/
def settledBad (k : Fin 32) (st : Status) (t : State) : State :=
  { settledOk k st none t with faults := faulted t .accessFailed ((t.tags.get k).failureDetail st) }

theorem failureDetail_access {x : Tag} {a : Access} (access : x.access = some a) (st : Status) : x.failureDetail st =
    ⟨st, some a.port, some x.id, none, none, some a.localAddr, some a.hostAddr⟩ := by
  simp [Tag.failureDetail, access]

theorem close_finish_ok (l : Option Lock) (active : (s.tags.get k).state = .active) {st : Status}
    (good : st.isAccessFailure = false) (d : Option (List Byte)) :
    writeTest p q (finishRequest k st d (closeTxn p l s)) = settledOk k st d (closed p q l s) := by
  rw [finishRequest_active (s := closeTxn p l s) active, makeReady_eq, if_neg (by simp [good]),
    writeTest_closed (by rfl)]
  rfl

theorem close_finish_bad (l : Option Lock) (active : (s.tags.get k).state = .active) {st : Status}
    (bad : st.isAccessFailure = true) :
    writeTest p q (finishRequest k st none (closeTxn p l s)) = settledBad k st (closed p q l s) := by
  rw [finishRequest_active (s := closeTxn p l s) active, makeReady_eq, if_pos bad, writeTest_closed (by rfl)]
  rfl

theorem close_finish_discarding (l : Option Lock) (state : (s.tags.get k).state = .discarding) (st : Status)
    (d : Option (List Byte)) : writeTest p q (finishRequest k st d (closeTxn p l s)) =
      { closed p q l s with tags := s.tags.set k Tag.zero } := by
  rw [finishRequest_inactive (s := closeTxn p l s) (by simp [closeTxn_eq, state]),
    dropResult_discarding (s := closeTxn p l s) state, writeTest_closed (by rfl)]
  rfl

theorem close_finish_ready (l : Option Lock) (state : (s.tags.get k).state = .ready) (st : Status)
    (d : Option (List Byte)) : writeTest p q (finishRequest k st d (closeTxn p l s)) =
      { closed p q l s with tags := s.tags.set k { s.tags.get k with busPending := false } } := by
  rw [finishRequest_inactive (s := closeTxn p l s) (by simp [closeTxn_eq, state]),
    dropResult_ready (s := closeTxn p l s) state, writeTest_closed (by rfl)]
  rfl

/-! ## The end of a READ or WRITE (04 R66, R81) -/

variable {o : BusOutcome} {data : List Byte}

theorem tagRepeats_inactive (inactive : (s.tags.get k).state ≠ .active) : tagRepeats k q o s = false := by
  simp [tagRepeats, inactive]

theorem tagRepeats_iff {a : Access} (access : (s.tags.get k).access = some a) :
    tagRepeats k q o s = true ↔
      (s.tags.get k).state = .active ∧ o.repeats a.isVolatile (s.tags.get k).retries q = true := by
  simp [tagRepeats, access]

theorem repeats_ok (v : Bool) (n : Nat) : BusOutcome.ok.repeats v n q = false := by simp [BusOutcome.repeats]

theorem repeats_busError (v : Bool) (n : Nat) : BusOutcome.busError.repeats v n q = false := by
  simp [BusOutcome.repeats]

theorem endRequest_again (again : tagRepeats k q o s = true) :
    endRequest p k q o data s = requeueTag p k q (closeTxn p none s) := by
  unfold endRequest
  exact if_pos again

theorem endRequest_final (final : tagRepeats k q o s = false)
    (noFill : o ≠ .ok ∨ (s.tags.get k).kind ≠ .read ∨ (s.tags.get k).state ≠ .active) :
    ∃ d, endRequest p k q o data s = finishRequest k o.final d (closeTxn p none s)
      ∧ (o ≠ .ok ∨ (s.tags.get k).kind ≠ .read → d = none) := by
  refine ⟨if o == .ok && (s.tags.get k).kind == .read then some data else none, ?_, fun no => if_neg ?_⟩
  · unfold endRequest
    simp only [final, Bool.false_eq_true, if_false]
    split
    · next a _ =>
      refine if_neg fun fill => ?_
      simp only [Bool.and_eq_true, beq_iff_eq] at fill
      exact noFill.elim (· fill.1.1) fun h => h.elim (· fill.1.2) (· fill.2)
    · rfl
  · simp only [Bool.and_eq_true, beq_iff_eq]
    exact fun both => no.elim (· both.1) (· both.2)

theorem endRequest_read {a : Access} (active : (s.tags.get k).state = .active) (kind : (s.tags.get k).kind = .read)
    (access : (s.tags.get k).access = some a) : endRequest p k q .ok data s =
      fillTest a (finishRequest k .ok (some data) (closeTxn p none s)) := by
  simp only [endRequest, tagRepeats, repeats_ok, access, kind, active, BusOutcome.final]
  rfl

theorem fillTest_other {a : Access} (other : a.prefetchable = false) : fillTest a s = s := by
  simp [fillTest, other]

/-- Settles O33: the end of the request, by its kind, its state and the answer. -/
theorem targetAnswerEndsReadsAndWrites : Obligations.TargetAnswerEndsReadsAndWrites := by
  intro p k q a data s low txn init access size
  have ends (r : Answer) : exec (.targetAnswer p r) s =
      .next (writeTest p q (endRequest p k q (Answer.outcome r) (Answer.bytes q r) s)) := by
    rw [exec_targetAnswer r low txn, endTxn_request p _ _ s init]
  have once {o : BusOutcome} (h : ∀ v n, o.repeats v n q = false) : tagRepeats k q o s = false := by
    simp [tagRepeats, h]
  have dropped (r : Answer) (inactive : (s.tags.get k).state ≠ .active) :
      ∃ d, exec (.targetAnswer p r) s =
        .next (writeTest p q (finishRequest k (Answer.outcome r).final d (closeTxn p none s))) := by
    obtain ⟨d, final, -⟩ := endRequest_final (p := p) (data := Answer.bytes q r) (o := Answer.outcome r)
      (tagRepeats_inactive (q := q) inactive) (.inr (.inr inactive))
    exact ⟨d, by rw [ends, final]⟩
  refine ⟨fun active kind read => ?_, fun active kind write => ?_, fun active => ?_, fun r _ =>
    ⟨fun state => ?_, fun state => ?_⟩⟩
  · have bytes : Answer.bytes q (.accept data) = data := by
      simp only [Answer.bytes, read, Bool.false_eq_true, if_false]
      exact exactly_self (size read)
    have kept : writeTest p q (endRequest p k q .ok data s) = endRequest p k q .ok data s := if_neg (by simp [read])
    have settled : finishRequest k .ok (some data) (closeTxn p none s)
        = settledOk k .ok (some data) (closed p q none s) := by
      rw [← close_finish_ok none active rfl]
      exact (if_neg (by simp [read])).symm
    rw [ends, bytes, Answer.outcome, kept, endRequest_read active kind access, settled]
    split
    · rfl
    · next other => exact congrArg _ (fillTest_other (by simpa using other))
  · obtain ⟨d, final, none_⟩ := endRequest_final (s := s) (k := k) (p := p) (data := Answer.bytes q (.accept data)) (o := .ok)
      (once repeats_ok) (.inr (.inl (by simp [kind])))
    rw [ends, Answer.outcome, final, none_ (.inr (by simp [kind]))]
    exact congrArg _ (close_finish_ok none active rfl none)
  · obtain ⟨d, final, none_⟩ := endRequest_final (p := p) (data := Answer.bytes q .error) (o := .busError)
      (once repeats_busError) (.inl (by simp))
    rw [ends, Answer.outcome, final, none_ (.inl (by simp))]
    refine congrArg _ ((close_finish_bad none active rfl).trans ?_)
    unfold settledBad
    rw [failureDetail_access (x := (closed p q none s).tags.get k) access]
    rfl
  · obtain ⟨d, final⟩ := dropped r (by simp [state])
    rw [final]
    exact congrArg _ (close_finish_discarding none state _ _)
  · obtain ⟨d, final⟩ := dropped r (by simp [state])
    rw [final]
    exact congrArg _ (close_finish_ready none state _ _)

/-! ## A repeated outcome (02 R26, 04 R65, R68) -/

/-- The request lists once an entry is back at its place in the list of port `p` (02 R26). -/
def listsWith (p : Fin 4) (e : Entry) (s : State) : Table (List Entry) 4 :=
  s.lists.set p (insertByKey (placeOf s) e (s.lists.get p))

/-- The returned entry stands behind those admitted before it, and the next was admitted later. -/
theorem listsWith_inPlace (p : Fin 4) (e : Entry) (s : State) :
    (∀ r, r ≠ p → (listsWith p e s).get r = s.lists.get r)
      ∧ ∃ pre post, s.lists.get p = pre ++ post ∧ (listsWith p e s).get p = pre ++ e :: post
        ∧ (∀ e' ∈ pre, placeOf s e' ≤ placeOf s e) ∧ ∀ e' ∈ post.head?, placeOf s e < placeOf s e' := by
  obtain ⟨pre, post, before, after, earlier, later⟩ := insertByKey_split (placeOf s) e (s.lists.get p)
  refine ⟨fun r other => Table.get_set_of_ne _ _ (Ne.symm other), pre, post, before, ?_, earlier, later⟩
  rw [listsWith, Table.get_set_self, after]

theorem placeOf_modTag {f : Tag → Tag} (same : ∀ x, (f x).place = x.place) (k : Fin 32) (s : State) :
    placeOf (s.modTag k f) = placeOf s := by
  funext e
  cases e with
  | tag i =>
    simp only [placeOf, State.modTag_tags, Table.get_modify]
    split
    · exact same _
    · rfl
  | post i => rfl

theorem placeOf_setSlot {k : Fin 32} {x y : Posted} (held : s.pool.get k = some x) (same : y.place = x.place) :
    placeOf (s.setSlot k (some y)) = placeOf s := by
  funext e
  cases e with
  | tag i => rfl
  | post i =>
    simp only [placeOf, State.setSlot_pool, Table.get_set]
    split
    · next here => rw [← here, held]; exact same
    · rfl

theorem returnEntry_eq (places : placeOf t = placeOf s) (lists : t.lists = s.lists) (e : Entry) :
    returnEntry p e t = { t with lists := listsWith p e s } := by
  unfold returnEntry listsWith
  rw [places, ← lists]
  rfl

theorem close_requeueTag (p : Fin 4) (k : Fin 32) (q : Txn) (s : State) :
    writeTest p q (requeueTag p k q (closeTxn p none s)) = { closed p q none s with
      tags := s.tags.set k { s.tags.get k with
        state := .queued, retries := (s.tags.get k).retries + 1, holdOff := some (4 * q.retryDelay.toNat) }
      lists := listsWith p (.tag k) s } := by
  unfold requeueTag
  rw [returnEntry_eq (s := s) (by exact placeOf_modTag (fun _ => by rfl) k (closeTxn p none s)) (by rfl),
    writeTest_closed (by rfl)]
  rfl

/-- A READ, a WRITE or a MODIFY's read half that ends other than OK (04 R65, R67). -/
theorem endTxn_tagged (init : q.initiator = .request k ∨ q.initiator = .modifyRead k) (failing : o ≠ .ok) :
    endTxn p q o data s = writeTest p q (if tagRepeats k q o s then requeueTag p k q (closeTxn p none s)
      else finishRequest k o.final none (closeTxn p none s)) := by
  rcases init with init | init
  · rw [endTxn_request p _ _ s init]
    by_cases again : tagRepeats k q o s = true
    · rw [if_pos again, endRequest_again again]
    · obtain ⟨d, final, none_⟩ := endRequest_final (p := p) (data := data) (Bool.eq_false_iff.mpr again) (.inl failing)
      rw [if_neg again, final, none_ (.inl failing)]
  · rw [endTxn_modifyRead p _ _ s init]
    unfold endModifyRead
    rw [if_neg (by simp [failing])]

/-- The end of a MODIFY's write half with the access of its tag (04 R68). -/
theorem endModifyWrite_eq {a : Access} (access : (s.tags.get k).access = some a) : endModifyWrite p k q o s =
    if o.repeats a.isVolatile (s.tags.get k).retries q then
      (closeTxn p (s.ports.get p).lock s).modTag k fun y =>
        { y with retries := y.retries + 1, holdOff := some q.holdOff }
    else finishRequest k (writeHalfStatus o) none (closeTxn p none s) := by
  simp only [endModifyWrite, access, Option.map_some, Option.getD_some]

/-- The end of a POST that no FLUSH has reached, and that the port repeats (02 R26). -/
theorem endPosted_again {y : Posted} (held : s.pool.get k = some y) (live : y.flushed = false)
    (again : o.repeats y.isVolatile y.retries q = true) :
    writeTest p q (endPosted p k q o s) = { closed p q none s with
      pool := s.pool.set k (some { y with
        retries := y.retries + 1, holdOff := some (4 * q.retryDelay.toNat) })
      lists := listsWith p (.post k) s } := by
  have return_ : endPosted p k q o s = returnEntry p (.post k) ((closeTxn p none s).setSlot k
      (some { y with retries := y.retries + 1, holdOff := some q.holdOff })) := by
    simp only [endPosted, held, live, again, Bool.false_eq_true, if_false, if_true]
  have places : placeOf ((closeTxn p none s).setSlot k
      (some { y with retries := y.retries + 1, holdOff := some q.holdOff })) = placeOf s :=
    placeOf_setSlot (s := closeTxn p none s) (x := y) held rfl
  rw [return_, returnEntry_eq (s := s) places (by rfl), writeTest_closed (by rfl)]
  rfl

/-- The end of a POST that the port does not repeat (02 R24, R32). -/
theorem endPosted_final {y : Posted} (held : s.pool.get k = some y)
    (final : y.flushed = true ∨ o.repeats y.isVolatile y.retries q = false) : endPosted p k q o s =
      if y.flushed = true ∨ o = .ok then endPost k y (o != .ok) (closeTxn p none s)
      else report .postedFailed (y.failureDetail o.final) (endPost k y (o != .ok) (closeTxn p none s)) := by
  simp only [endPosted, held]
  by_cases flushed : y.flushed = true
  · rw [if_pos flushed, if_pos (.inl flushed)]
  · have once := final.resolve_left flushed
    simp only [flushed, once, Bool.false_eq_true, if_false, false_or, beq_iff_eq]

/-- Settles O34: each initiator's end with a RETRY or a silence, repeated or final. -/
theorem repeatedOutcomesReturnToTheList : Obligations.RepeatedOutcomesReturnToTheList := by
  intro p c q s low txn command
  have ends : EndsTxn p c := command.elim (fun h => .inr ⟨_, h⟩) .inl
  have bad : endsOk c = false := by rcases command with rfl | rfl <;> rfl
  have failing : outcomeOf c ≠ .ok := fun ok => by
    rw [(outcome_ok_iff ends).mp ok] at bad
    cases bad
  have acts := exec_ends low txn ends
  have status : (outcomeOf c).final = if c = .targetAnswer p .retry then Status.retryExhausted else .noResponse := by
    rcases command with rfl | rfl
    · exact (if_pos rfl).symm
    · exact (if_neg (by simp)).symm
  have again_iff (v : Bool) (n : Nat) : (outcomeOf c).repeats v n q = true ↔
      n < q.retryLimit.toNat ∧ (c = .targetAnswer p .retry ∨ v = false) := by
    rw [repeats_iff ends]
    rcases command with rfl | rfl <;> simp [Repeated]
  intro seen_ closed_ hold again final inPlace settled dropped
  have settles {k : Fin 32} {st : Status} (active : (s.tags.get k).state = .active)
      (bad : st.isAccessFailure = true)
      (next : exec c s = .next (writeTest p q (finishRequest k st none (closeTxn p none s)))) :
      exec c s = .next (settled k st) :=
    next.trans (congrArg _ (close_finish_bad none active bad))
  have drops {k : Fin 32} {st : Status}
      (next : (s.tags.get k).state ≠ .active →
        exec c s = .next (writeTest p q (finishRequest k st none (closeTxn p none s)))) : dropped k :=
    ⟨fun state => (next (by simp [state])).trans (congrArg _ (close_finish_discarding none state _ _)),
      fun state => (next (by simp [state])).trans (congrArg _ (close_finish_ready none state _ _))⟩
  refine ⟨fun k a init access => ?_, fun k a init access => ?_, fun k y init held live => ?_⟩
  · have next := acts.trans (congrArg _ (endTxn_tagged (data := bytesOf q c) init failing))
    have repeated : tagRepeats k q (outcomeOf c) s = true ↔
        (s.tags.get k).state = .active ∧ again a.isVolatile (s.tags.get k).retries :=
      (tagRepeats_iff access).trans (and_congr_right fun _ => again_iff _ _)
    have final_ (no : ¬((s.tags.get k).state = .active ∧ again a.isVolatile (s.tags.get k).retries)) :
        exec c s = .next (writeTest p q (finishRequest k (outcomeOf c).final none (closeTxn p none s))) := by
      rw [next, if_neg (mt repeated.mp no)]
    refine ⟨fun active yes => ⟨listsWith p (.tag k) s, ?_, listsWith_inPlace p (.tag k) s⟩, fun active no => ?_,
      drops fun inactive => final_ fun h => inactive h.1⟩
    · rw [next, if_pos (repeated.mpr ⟨active, yes⟩), close_requeueTag]
      rfl
    · have settle := settles active (final_isAccessFailure failing) (final_ fun h => no h.2)
      rwa [status] at settle
  · have next := acts.trans (congrArg _ (endTxn_modifyWrite p (outcomeOf c) (bytesOf q c) s init))
    rw [endModifyWrite_eq access] at next
    refine ⟨fun yes => ?_, fun no => ?_⟩
    · rw [next, if_pos ((again_iff _ _).mpr yes), writeTest_closed (l := (s.ports.get p).lock) (by rfl)]
      rfl
    · rw [if_neg (mt (again_iff _ _).mp no), writeHalfStatus, if_neg (by simpa using failing)] at next
      exact ⟨fun active => settles active rfl next, drops fun _ => next⟩
  · have next := acts.trans (congrArg _ (endTxn_post p (outcomeOf c) (bytesOf q c) s init))
    refine ⟨fun yes => ⟨listsWith p (.post k) s, ?_, ?_⟩, fun no uncovered => ?_⟩
    · rw [next, endPosted_again held live ((again_iff _ _).mpr yes)]
      rfl
    · have place : placeOf s (.post k) = y.place := by simp [placeOf, held]
      have back := listsWith_inPlace p (.post k) s
      rwa [place] at back
    · rw [next, endPosted_final held (.inr (Bool.eq_false_iff.mpr (mt (again_iff _ _).mp no))),
        if_neg (by simp [live, failing]), endPost, uncovered, writeTest_closed (by rfl), status]
      rfl

/-! ## The halves of a MODIFY (04 R67 to R69) -/

theorem lowMask_eq (n : Nat) : lowMask n = BitVec.ofNat 32 (256 ^ n - 1) := by
  rw [lowMask, pow_mul]
  rfl

theorem takeLock_eq {a : Access} (access : (s.tags.get k).access = some a) (p : Fin 4) (data : List Byte) :
    takeLock p k data s =
      (closeTxn p (some ⟨k, wordBE data, modifyValue a.count (wordBE data) (s.tags.get k).clearMask
        (s.tags.get k).setMask (s.tags.get k).invertMask⟩) s).modTag k fun y => { y with
          retries := 0
          oldNew := if y.state == .active then some (wordBE data, modifyValue a.count (wordBE data)
            (s.tags.get k).clearMask (s.tags.get k).setMask (s.tags.get k).invertMask) else y.oldNew } := by
  simp only [takeLock, access, Option.map_some, Option.getD_some]

/-- Settles O36: the read half and the write half, by the answer and the state of the entry. -/
theorem modifyReadsLocksAndWrites : Obligations.ModifyReadsLocksAndWrites := by
  intro p k q a data s low txn access count size y mask old new failed locked unlocked written settled drops
  have value : modifyValue a.count (wordBE data) y.clearMask y.setMask y.invertMask = new := by
    simp only [modifyValue, lowMask_eq]
    rfl
  have old_eq : wordBE data = old := rfl
  have bad (active : y.state = .active) {r : Answer} {st : Status} (failure : st.isAccessFailure = true)
      (next : exec (.targetAnswer p r) s = .next (writeTest p q (finishRequest k st none (closeTxn p none s)))) :
      exec (.targetAnswer p r) s = .next { settled (closed p q none s) st with faults := failed st } := by
    rw [next, close_finish_bad none active failure]
    unfold settledBad
    rw [failureDetail_access (x := (closed p q none s).tags.get k) access]
    rfl
  have dropping {r : Answer} {st : Status}
      (next : exec (.targetAnswer p r) s = .next (writeTest p q (finishRequest k st none (closeTxn p none s)))) :
      drops r (closed p q none s) :=
    ⟨fun state => next.trans (congrArg _ (close_finish_discarding none state _ _)),
      fun state => next.trans (congrArg _ (close_finish_ready none state _ _))⟩
  constructor
  · intro init read
    have same : closed p q none s = unlocked := by
      simp only [closed, seen_read read]
      rfl
    have takes (length : data.length = a.count) : exec (.targetAnswer p (.accept data)) s = .next { locked with
        tags := s.tags.set k { y with
          retries := 0, oldNew := if y.state == .active then some (old, new) else y.oldNew } } := by
      have bytes : Answer.bytes q (.accept data) = data := by
        simp only [Answer.bytes, read, Bool.false_eq_true, if_false]
        exact exactly_self (length.trans size.symm)
      rw [exec_targetAnswer _ low txn, endTxn_modifyRead p _ _ s init, bytes, endModifyRead,
        if_pos (by rfl), takeLock_eq access, writeTest_closed (by rfl), seen_read read, value, old_eq]
      rfl
    have errs : exec (.targetAnswer p .error) s =
        .next (writeTest p q (finishRequest k .busError none (closeTxn p none s))) := by
      rw [exec_targetAnswer _ low txn, endTxn_tagged (.inr init) (by simp [Answer.outcome]), if_neg]
      · rfl
      · simp [tagRepeats, Answer.outcome, repeats_busError]
    refine ⟨fun length active => ?_, fun length state => ?_, fun active => ?_, ?_⟩
    · rw [takes length, if_pos (by simp [active])]
    · rw [takes length, if_neg (by rcases state with state | state <;> simp [state])]
    · rw [← same]
      exact bad active rfl errs
    · rw [← same]
      exact dropping errs
  · intro init write
    have same : closed p q none s = written := by
      simp only [closed, seen_write write]
      rfl
    have ends (r : Answer) (once : ∀ v n, (Answer.outcome r).repeats v n q = false) : exec (.targetAnswer p r) s =
        .next (writeTest p q (finishRequest k (writeHalfStatus (Answer.outcome r)) none (closeTxn p none s))) := by
      rw [exec_targetAnswer _ low txn, endTxn_modifyWrite p _ _ s init, endModifyWrite_eq access,
        if_neg (by simp [once])]
    have accepts := ends (.accept data) repeats_ok
    have errs := ends .error repeats_busError
    rw [← same]
    exact ⟨fun active => ⟨accepts.trans (congrArg _ (close_finish_ok none active rfl none)), bad active rfl errs⟩,
      dropping accepts, dropping errs⟩

end

/-! ## The read-ahead line (04 R82, R83) -/

theorem endFill_eq (read : q.isWrite = false) (init : q.initiator = .fill) (o : BusOutcome) (data : List Byte) :
    endTxn p q o data s = { s with
      ports := s.ports.set p ((ended (s.ports.get p) none).fillEnded q.localAddr (o == .ok) data) } := by
  rw [endTxn_fill p _ _ s init, writeTest, if_neg (by simp [read]), endFill, closeTxn_eq, modPort_eq]
  simp only [Table.get_set_self, Table.set_set]

theorem ended_voidMark (x : Port) (l : Option Lock) : (ended x l).voidMark = x.voidMark := by
  unfold ended noticed
  split
  · rfl
  · split <;> rfl

/-- A line that is valid after a write's discard test does not stand in the block of the write. -/
theorem writeSeen_line {x : Port} {a : Word} (valid : (writeSeen x a).lineValid = true) :
    (writeSeen x a).lineAddr.toNat ≠ a.toNat / 64 * 64 := by
  unfold writeSeen at valid ⊢
  split at valid
  · cases valid
  · next other =>
    rw [if_neg other]
    exact fun same => other ⟨valid, same.symm⟩

/-- Settles O37: `Port.fillEnded` at the end of a fill, and the discard test at the end of any write. -/
theorem lineIsSetByFillsAndDiscardedByWrites : Obligations.LineIsSetByFillsAndDiscardedByWrites := by
  constructor
  · intro p q data s low txn init read length x dropped
    have bytes : Answer.bytes q (.accept data) = data := by
      simp only [Answer.bytes, read, Bool.false_eq_true, if_false]
      exact exactly_self length
    have mark : x.voidMark = (s.ports.get p).voidMark := ended_voidMark _ _
    have drops (o : BusOutcome) (data : List Byte) (no : o ≠ .ok ∨ x.voidMark = true) :
        endTxn p q o data s = dropped := by
      rw [endFill_eq read init, Port.fillEnded, if_neg]
      simp only [Bool.and_eq_true, beq_iff_eq, Bool.not_eq_true']
      exact fun both => no.elim (· both.1) fun void => by rw [both.2] at void; cases void
    refine ⟨fun clean => ?_, fun void => ?_, ?_, ?_, ?_⟩
    · rw [exec_targetAnswer _ low txn, bytes, endFill_eq read init, Port.fillEnded, if_pos]
      simp only [Bool.and_eq_true, beq_iff_eq, Bool.not_eq_true']
      exact ⟨rfl, mark.trans clean⟩
    · rw [exec_targetAnswer _ low txn, drops _ _ (.inr (mark.trans void))]
    · rw [exec_targetAnswer _ low txn, drops _ _ (.inl (by simp [Answer.outcome]))]
    · rw [exec_targetAnswer _ low txn, drops _ _ (.inl (by simp [Answer.outcome]))]
    · rw [exec_responseLimitExpiry low txn, drops _ _ (.inl (by simp))]
  · intro p c q s t low txn write command next valid
    have acts := exec_ends low txn (command.symm : EndsTxn p c)
    obtain ⟨u, test⟩ : ∃ u, endTxn p q (outcomeOf c) (bytesOf q c) s = writeTest p q u := ⟨_, rfl⟩
    rw [next, test, writeTest_eq, Host.Outcome.next.injEq] at acts
    subst acts
    rw [Table.get_set_self, seen_write write] at valid ⊢
    exact writeSeen_line valid

end Sys2Proof.Proofs.RequestEnds

/-! # The end of a POST and the FENCEs that cover it (02 R24, R32) -/

namespace Sys2Proof.Proofs.PostEnds

-- One theorem after another: the proofs of this part at once ask for more threads than the check allows.
set_option Elab.async false

open Sys2Proof.Machine Sys2Proof.Safety Sys2Proof.Proofs.RequestTurns Sys2Proof.Proofs.RequestEnds

/-- A FENCE in WAITING that has counted the end of a covered POST, its last one or not (02 R32). -/
def counted (isFailure : Bool) (z : Tag) : Tag :=
  let y := { z with outstanding := z.outstanding - 1, failed := if isFailure then z.failed + 1 else z.failed }
  if z.outstanding = 1 then { y with state := .ready, status := .ok, busPending := false } else y

variable {s : State} {f : Bool}

theorem countEnd_last {t : Fin 32} (waits : (s.tags.get t).state = .waiting) (last : (s.tags.get t).outstanding = 1) :
    countEnd f t s = { s with
      tags := s.tags.set t (counted f (s.tags.get t)), ready := s.ready ++ [t] } := by
  unfold countEnd
  simp only [waits, last, beq_self_eq_true, if_true]
  rw [makeReady_eq, if_neg (by decide)]
  simp only [answered, counted, last, modTag_eq, State.setTags_tags, Table.get_set_self, Table.set_set, if_true]
  rfl

theorem countEnd_more {t : Fin 32} (waits : (s.tags.get t).state = .waiting) (more : 1 < (s.tags.get t).outstanding) :
    countEnd f t s = { s with tags := s.tags.set t (counted f (s.tags.get t)) } := by
  have left : (s.tags.get t).outstanding - 1 ≠ 0 := by omega
  have other : (s.tags.get t).outstanding ≠ 1 := by omega
  simp only [countEnd, counted, waits, left, other, beq_self_eq_true, if_true, if_false]
  rfl

theorem countEnd_eq {t : Fin 32} (waits : (s.tags.get t).state = .waiting) (owes : 0 < (s.tags.get t).outstanding) :
    countEnd f t s = { s with
      tags := s.tags.set t (counted f (s.tags.get t))
      ready := s.ready ++ if (s.tags.get t).outstanding = 1 then [t] else [] } := by
  by_cases last : (s.tags.get t).outstanding = 1
  · rw [countEnd_last waits last, if_pos last]
  · rw [countEnd_more waits (by omega), if_neg last, List.append_nil]

/-- The ends counted by several FENCEs in WAITING, each once: those whose last it is are READY, in order. -/
theorem countEnds_eq (l : List (Fin 32)) (once : l.Nodup)
    (owed : ∀ t ∈ l, (s.tags.get t).state = .waiting ∧ 0 < (s.tags.get t).outstanding) :
    ∃ tags', foldOver l (countEnd f) s = { s with
        tags := tags', ready := s.ready ++ l.filter fun t => (s.tags.get t).outstanding == 1 }
      ∧ ∀ t, tags'.get t = if t ∈ l then counted f (s.tags.get t) else s.tags.get t := by
  induction l generalizing s with
  | nil => exact ⟨s.tags, by simp [foldOver], fun t => (if_neg (by simp)).symm⟩
  | cons t l ih =>
    obtain ⟨fresh, once⟩ := List.nodup_cons.mp once
    obtain ⟨waits, owes⟩ := owed t (by simp)
    obtain ⟨u, first⟩ : ∃ u, countEnd f t s = u := ⟨_, rfl⟩
    have u_eq := first.symm.trans (countEnd_eq waits owes)
    have others (i : Fin 32) (mem : i ∈ l) : u.tags.get i = s.tags.get i := by
      rw [u_eq]
      exact Table.get_set_of_ne _ _ fun same => fresh (same ▸ mem)
    obtain ⟨tags', folds, rows⟩ := ih (s := u) once fun i mem => by
      rw [others i mem]
      exact owed i (by simp [mem])
    refine ⟨tags', ?_, fun i => ?_⟩
    · have go : foldOver (t :: l) (countEnd f) s = foldOver l (countEnd f) u := by rw [← first]; rfl
      have ready : l.filter (fun i => (u.tags.get i).outstanding == 1)
          = l.filter fun i => (s.tags.get i).outstanding == 1 :=
        List.filter_congr fun i mem => by rw [others i mem]
      rw [go, folds, ready, u_eq]
      by_cases last : (s.tags.get t).outstanding = 1 <;> simp [last]
    · rw [rows i]
      by_cases here : i = t
      · subst here
        rw [if_neg fresh, if_pos (by simp), u_eq, Table.get_set_self]
      · by_cases mem : i ∈ l
        · rw [if_pos mem, if_pos (by simp [mem]), others i mem]
        · rw [if_neg mem, if_neg (by simp [mem, here]), u_eq, Table.get_set_of_ne _ _ (Ne.symm here)]

/-- The end of a POST whose FENCEs have counted it: the discard test, and the fault of a failure. -/
theorem endPosted_counted {p : Fin 4} {k : Fin 32} {q : Txn} {y : Posted} {o : BusOutcome} (init : q.initiator = .post k)
    (held : s.pool.get k = some y) (final : y.flushed = true ∨ o.repeats y.isVolatile y.retries q = false)
    {tags' : Table Tag 32} {ready' : List (Fin 32)}
    (folds : endPost k y (o != .ok) (closeTxn p none s)
      = { (closeTxn p none s).setSlot k none with tags := tags', ready := ready' }) (data : List Byte) :
    endTxn p q o data s = { closed p q none s with
      pool := s.pool.set k none, tags := tags', ready := ready'
      faults := if y.flushed = true ∨ o = .ok then s.faults
        else faulted s .postedFailed (y.failureDetail o.final) } := by
  rw [endTxn_post _ _ _ _ init, endPosted_final held final, folds]
  split
  · rw [writeTest_closed (by rfl)]
    rfl
  · rw [writeTest_closed (by rfl)]
    rfl

/-- Settles O35: the slot is freed, the ends are counted, and a failure is reported. -/
theorem postEndsAndFenceCounts : Obligations.PostEndsAndFenceCounts := by
  intro p k q y c s low txn init write held ends final closed_
  have once : y.flushed = true ∨ (outcomeOf c).repeats y.isVolatile y.retries q = false :=
    final.imp_right fun no => Bool.eq_false_iff.mpr (mt (repeats_iff ends _ _).mp no)
  have good_iff : (y.flushed = true ∨ outcomeOf c = .ok) ↔ (endsOk c = true ∨ y.flushed = true) := by
    rw [outcome_ok_iff ends, or_comm]
  have faults : (if y.flushed = true ∨ outcomeOf c = .ok then s.faults
      else faulted s .postedFailed (y.failureDetail (outcomeOf c).final)) = closed_.faults := by
    by_cases good : y.flushed = true ∨ outcomeOf c = .ok
    · rw [if_pos good]
      exact (if_pos (good_iff.mp good)).symm
    · have bad : endsOk c = false := Bool.eq_false_iff.mpr fun ok => good (good_iff.mpr (.inl ok))
      rw [if_neg good, final_of_failing ends bad]
      exact (if_neg (mt good_iff.mpr good)).symm
  have acts {tags' : Table Tag 32} {ready' : List (Fin 32)}
      (folds : endPost k y (outcomeOf c != .ok) (closeTxn p none s)
        = { (closeTxn p none s).setSlot k none with tags := tags', ready := ready' }) :
      exec c s = .next { closed_ with tags := tags', ready := ready' } := by
    rw [exec_ends low txn ends, endPosted_counted init held once folds, faults, closed, seen_write write]
  refine ⟨fun uncovered => acts (tags' := s.tags) (ready' := s.ready) ?_, fun nodup owed => ?_⟩
  · rw [endPost, uncovered]
    rfl
  · obtain ⟨tags', folds, rows⟩ := countEnds_eq (s := (closeTxn p none s).setSlot k none) (f := outcomeOf c != .ok)
      y.covering nodup owed
    refine ⟨tags', acts folds, fun t => ?_⟩
    have failed : (outcomeOf c != .ok) = !endsOk c := by
      rw [Bool.eq_iff_iff, bne_iff_ne, ne_eq, outcome_ok_iff ends, Bool.not_eq_true', Bool.not_eq_true]
    have row : tags'.get t = if t ∈ y.covering then counted (!endsOk c) (s.tags.get t) else s.tags.get t :=
      failed ▸ rows t
    refine ⟨fun other => row.trans (if_neg other), fun mem more => ?_, fun mem last => ?_⟩
    · rw [row, if_pos mem, counted, if_neg (Nat.ne_of_gt more)]
      cases endsOk c <;> rfl
    · rw [row, if_pos mem, counted, if_pos last]
      cases endsOk c <;> rfl

end Sys2Proof.Proofs.PostEnds

/-! # The end of a chunk's transaction (04 R66, R73, 05 R97 to R100, R107) -/

namespace Sys2Proof.Proofs.ChunkEnds

-- One theorem after another: the proofs of this part at once ask for more threads than the check allows.
set_option Elab.async false

open Sys2Proof.Machine Sys2Proof.Safety Sys2Proof.Proofs.RequestTurns Sys2Proof.Proofs.RequestEnds
  Sys2Proof.Proofs.JobSlots Sys2Proof.Proofs.JobUse

/-! ## The discard test sees nothing of what a slot does (04 R83) -/

section

variable (p : Fin 4) (q : Txn) (j : Fin 4) (s : State)

theorem writeTest_jobs : (writeTest p q s).jobs = s.jobs := by
  unfold writeTest
  split <;> rfl

theorem writeTest_windows : (writeTest p q s).windows = s.windows := by
  unfold writeTest
  split <;> rfl

theorem writeTest_modJob (f : JobSlot → JobSlot) : writeTest p q (s.modJob j f) = (writeTest p q s).modJob j f := by
  unfold writeTest
  split <;> rfl

theorem writeTest_report (k : FaultKind) (d : FaultDetail) :
    writeTest p q (report k d s) = report k d (writeTest p q s) := by
  unfold writeTest
  split <;> rfl

theorem writeEnded_offers (x : Port) (a : Word) (f : Table (Option Offer) 4 → Table (Option Offer) 4) :
    Port.writeEnded a { x with offers := f x.offers }
      = { Port.writeEnded a x with offers := f (Port.writeEnded a x).offers } := by
  unfold Port.writeEnded
  split <;> rfl

theorem writeTest_offerChunk (r : Fin 4) (o : Offer) :
    writeTest p q (offerChunk j r o s) = offerChunk j r o (writeTest p q s) := by
  unfold writeTest
  split
  · refine congrArg (fun ports => { s with ports := ports }) (Table.ext_get fun i => ?_)
    simp only [offerChunk, State.modPort_ports, Table.get_modify]
    split
    · split
      · exact writeEnded_offers _ _ fun t => t.set j (some o)
      · rfl
    · rfl
  · rfl

theorem writeTest_layOut : writeTest p q (layOut j s) = layOut j (writeTest p q s) := by
  unfold layOut
  rw [writeTest_jobs]
  dsimp only
  split
  · split
    · rfl
    · split
      · split
        · rw [writeTest_offerChunk, writeTest_modJob]
        · rw [writeTest_modJob]
      · split
        · rw [writeTest_offerChunk, writeTest_modJob]
        · rw [writeTest_modJob]
  · rfl

theorem writeTest_endJob (e : JobState) : writeTest p q (endJob j e s) = endJob j e (writeTest p q s) := by
  unfold endJob
  dsimp only
  rw [← writeTest_modJob, writeTest_jobs]
  split
  · rfl
  · rw [← writeTest_modJob, writeTest_windows]
    split
    · split
      · rw [runJob, writeTest_layOut, writeTest_modJob, runJob]
      · rw [failChained, writeTest_report, writeTest_modJob, failChained]
    · rfl

theorem writeTest_copyReadDone (data : List Byte) :
    writeTest p q (copyReadDone j data s) = copyReadDone j data (writeTest p q s) := by
  unfold copyReadDone
  rw [writeTest_jobs]
  dsimp only
  split
  · split
    · rw [writeTest_offerChunk, writeTest_modJob]
    · rw [writeTest_modJob]
  · rfl

theorem writeTest_chunkDone (n : Nat) (data : List Byte) :
    writeTest p q (chunkDone j n data s) = chunkDone j n data (writeTest p q s) := by
  unfold chunkDone
  dsimp only
  rw [← writeTest_modJob, writeTest_jobs]
  split
  · exact writeTest_endJob _ _ _ _ _
  · split
    · exact writeTest_modJob _ _ _ _ _
    · exact writeTest_endJob _ _ _ _ _
    · exact writeTest_layOut _ _ _ _

/-- The outcome of a chunk in its slot and the discard test of its port do not see each other. -/
theorem writeTest_chunkEnded (r : Fin 4) (o : Offer) (st : Status) (data : List Byte) :
    writeTest p q (chunkEnded j r o st data s) = chunkEnded j r o st data (writeTest p q s) := by
  unfold chunkEnded chunkFailed
  dsimp only
  rw [writeTest_jobs]
  split
  · exact writeTest_modJob _ _ _ _ _
  · split
    · by_cases read : ((s.jobs.get j).isCopy && !o.isWrite) = true
      · rw [if_pos read, if_pos read]
        exact writeTest_copyReadDone _ _ _ _ _
      · rw [if_neg read, if_neg read]
        exact writeTest_chunkDone _ _ _ _ _ _
    · rw [writeTest_endJob, writeTest_report, writeTest_modJob]

end

/-! ## A chunk's final outcome in its slot -/

section

variable {p j : Fin 4} {o : Offer} {s : State} {data : List Byte}

theorem chunkEnded_flushed (marked : (s.jobs.get j).flushMark = true) (st : Status) :
    chunkEnded j p o st data s = { s with jobs := s.jobs.set j (s.jobs.get j).flushEnded } := by
  unfold chunkEnded
  rw [if_pos marked]
  rfl

/-- The wound-down slot, with the descriptor that was staged since. -/
def woundDown (x : JobSlot) : Option Descriptor → JobSlot
  | none => x.emptied
  | some d => { x.emptied with state := .loaded, active := some d, bytesLeft := d.length.toNat }

theorem flushEnded_eq (x : JobSlot) : woundDown x x.staged = x.flushEnded := by
  unfold JobSlot.flushEnded
  cases x.staged <;> rfl

/-- The slot once the bytes of its chunk are counted and folded (05 R98). -/
def advanced (x : JobSlot) (n : Nat) (bytes : List Byte) : JobSlot :=
  { x with
    crc := bytes.foldl crc32Byte x.crc, bytesDone := x.bytesDone + n
    bytesLeft := x.bytesLeft - n, chunk := none }

section

variable (live : (s.jobs.get j).flushMark = false)
include live

theorem chunkEnded_read {d : Descriptor} {c : Chunk} {r : RunDecode} {w : RangeDecode}
    (active : (s.jobs.get j).active = some d) (copy : d.kind = .copy) (read : o.isWrite = false)
    (chunk : (s.jobs.get j).chunk = some c) (run : (s.jobs.get j).run = some r) (destination : r.destination = some w) :
    chunkEnded j p o .ok data s = { s with
      jobs := s.jobs.set j { s.jobs.get j with
        buffer := data ++ (s.jobs.get j).buffer.drop data.length, chunk := some { c with phase := .write } }
      ports := s.ports.set w.port { s.ports.get w.port with
        offers := (s.ports.get w.port).offers.set j
          (some ⟨true, c.destination, c.length, data, w.isVolatile, 0, none, false⟩) } } := by
  have isRead : ((s.jobs.get j).isCopy && !o.isWrite) = true := by
    simp [JobSlot.isCopy, active, copy, read]
  have offers : copyReadDone j data s =
      offerChunk j w.port ⟨true, c.destination, c.length, data, w.isVolatile, 0, none, false⟩ (s.modJob j fun x =>
        { x with buffer := fillBuffer x.buffer data, chunk := some { c with phase := .write } }) := by
    simp only [copyReadDone, chunk, run, destination]
  unfold chunkEnded
  rw [if_neg (by simp [live]), if_pos (by rfl), if_pos isRead, offers]
  rfl

theorem chunkEnded_last {d : Descriptor} (active : (s.jobs.get j).active = some d)
    (last : o.isWrite = true ∨ d.kind ≠ .copy) : chunkEnded j p o .ok data s =
      chunkDone j o.size (if o.isWrite = true then o.data else data) s := by
  have notRead : ¬((s.jobs.get j).isCopy && !o.isWrite) = true := by
    simp only [JobSlot.isCopy, active, Bool.and_eq_true, beq_iff_eq, Bool.not_eq_true']
    exact fun both => last.elim (fun write => by rw [both.2] at write; cases write) (· both.1)
  unfold chunkEnded
  rw [if_neg (by simp [live]), if_pos (by rfl), if_neg notRead]

theorem chunkEnded_failed {d : Descriptor} (active : (s.jobs.get j).active = some d) {st : Status} (bad : st ≠ .ok) :
    chunkEnded j p o st data s = endJob j .failed { s with
      jobs := s.jobs.set j { s.jobs.get j with
        failStatus := some st, failAddr := some o.localAddr, chunk := none }
      faults := faulted s .jobFailed ⟨st, some p, none, some j, none, some o.localAddr,
        some ((if o.isWrite = true then d.destination else d.source)
          + BitVec.ofNat 32 (s.jobs.get j).bytesDone)⟩ } := by
  unfold chunkEnded
  rw [if_neg (by simp [live]), if_neg (by simpa using bad)]
  have fails : chunkFailed j p o st s = endJob j .failed (report .jobFailed (jobFailure j st (some p) (some o.localAddr)
      ((if o.isWrite = true then d.destination else d.source) + BitVec.ofNat 32 (s.jobs.get j).bytesDone))
      (s.modJob j fun x => { x with failStatus := some st, failAddr := some o.localAddr, chunk := none })) := by
    simp only [chunkFailed, active]
  rw [fails]
  rfl

end

/-- What a slot with bytes remaining does at the end of a chunk (05 R98, R103). -/
def afterChunk (j : Fin 4) (state : JobState) (s : State) : State :=
  if state = .pausing then s.modJob j fun x => { x with state := .paused }
  else if state = .stopping then endJob j .stopped s
  else layOut j s

theorem chunkDone_eq (n : Nat) (bytes : List Byte) : chunkDone j n bytes s =
    if (s.jobs.get j).bytesLeft - n = 0 then
      endJob j .done { s with jobs := s.jobs.set j (advanced (s.jobs.get j) n bytes) }
    else afterChunk j (s.jobs.get j).state { s with jobs := s.jobs.set j (advanced (s.jobs.get j) n bytes) } := by
  have row : (s.modJob j fun x => { x with
      crc := crc32Fold x.crc bytes, bytesDone := x.bytesDone + n, bytesLeft := x.bytesLeft - n, chunk := none }).jobs.get j
        = advanced (s.jobs.get j) n bytes := by
    rw [modJob_get]
    rfl
  unfold chunkDone
  dsimp only
  rw [row]
  refine if_congr Iff.rfl rfl ?_
  unfold afterChunk
  change (match (s.jobs.get j).state with | .pausing => _ | .stopping => _ | _ => _) = _
  cases (s.jobs.get j).state <;> rfl

theorem endJob_quiet {d : Descriptor} (e : JobState) {y : JobSlot} (unstaged : y.staged = none)
    (active : y.active = some d) (quiet : d.notify = false) :
    endJob j e { s with jobs := s.jobs.set j y }
      = { s with jobs := s.jobs.set j { y with state := e, run := none, chunk := none } } := by
  rw [endJob_unstaged (s := { s with jobs := s.jobs.set j y }) e (by rw [Table.get_set_self, unstaged])]
  simp only [Table.get_set_self, Table.set_set]
  rw [close_eq active, if_neg (by simp [quiet])]

end

theorem failure_ne_ok {p : Fin 4} {c : Instr} (ends : EndsTxn p c) (bad : endsOk c = false) : failure c ≠ .ok := by
  rw [← final_of_failing ends bad]
  have notOk : outcomeOf c ≠ .ok := mt (outcome_ok_iff ends).mp (by simp [bad])
  cases o : outcomeOf c with
  | ok => exact absurd o notOk
  | busError => simp [BusOutcome.final]
  | retry => simp [BusOutcome.final]
  | silent => simp [BusOutcome.final]

/-- Settles O43: the chunk is offered again, or its outcome reaches its slot. -/
theorem chunkEndsAdvanceTheJob : Obligations.ChunkEndsAdvanceTheJob := by
  intro p j q o data s low txn init write size addr length x after closed_ emptied
  have again (c : Instr) (ends : EndsTxn p c) (yes : Repeated c q o.isVolatile o.retries) : exec c s = .next
      (writeTest p q (offerChunk j p { o with retries := o.retries + 1, holdOff := some q.holdOff }
        (closeTxn p none s))) := by
    rw [exec_ends low txn ends, endTxn_chunk _ _ _ _ init, endChunk, if_pos ((repeats_iff ends _ _).mpr yes)]
  have final (c : Instr) (ends : EndsTxn p c) (no : ¬Repeated c q o.isVolatile o.retries) : exec c s = .next
      (chunkEnded j p o (outcomeOf c).final (bytesOf q c) closed_) := by
    rw [exec_ends low txn ends, endTxn_chunk _ _ _ _ init, endChunk, if_neg (mt (repeats_iff ends _ _).mp no),
      writeTest_chunkEnded, writeTest_closed (by rfl)]
    rfl
  refine ⟨fun c ends yes => ?_, fun marked c ends no => ?_, fun live d c active chunk => ?_⟩
  · rw [again c ends yes, writeTest_offerChunk, writeTest_closed (by rfl), closeTxn_eq]
    simp only [offerChunk, modPort_eq, Table.get_set_self, Table.set_set]
    rfl
  · rw [final c ends no, chunkEnded_flushed (s := closed_) marked, ← flushEnded_eq]
    rfl
  · intro bytes y counted ends last
    have accept : exec (.targetAnswer p (.accept data)) s
        = .next (chunkEnded j p o .ok (Answer.bytes q (.accept data)) closed_) :=
      final _ (.inr ⟨_, rfl⟩) (by simp [Repeated])
    have read_bytes (read : o.isWrite = false) : Answer.bytes q (.accept data) = data := by
      simp only [Answer.bytes, write, read, Bool.false_eq_true, if_false]
      exact exactly_self (length (write.trans read))
    have counts (isLast : last) : exec (.targetAnswer p (.accept data)) s = .next (chunkDone j o.size bytes closed_) := by
      have same : (if o.isWrite = true then o.data else Answer.bytes q (.accept data)) = bytes := by
        cases writes : o.isWrite with
        | false => simp only [bytes, writes, read_bytes writes]
        | true => simp only [bytes, writes, if_true]
      rw [accept, chunkEnded_last (s := closed_) live active isLast, same]
    have more (isLast : last) (left : o.size < x.bytesLeft) : ends (afterChunk j x.state counted) := by
      have some_ : ¬x.bytesLeft - o.size = 0 := by omega
      exact (counts isLast).trans (congrArg _ ((chunkDone_eq o.size bytes).trans (if_neg some_)))
    have done_ (isLast : last) (all : x.bytesLeft = o.size) : ends (endJob j .done counted) := by
      have none_ : x.bytesLeft - o.size = 0 := by omega
      exact (counts isLast).trans (congrArg _ ((chunkDone_eq o.size bytes).trans (if_pos none_)))
    refine ⟨fun copy read r w run destination => ?_, fun isLast left state => ?_, fun isLast left state => ?_,
      fun isLast left state => ?_, done_, fun unstaged isLast all quiet => ?_, fun e isEnd bad no => ?_⟩
    · exact accept.trans (congrArg _ (by
        rw [read_bytes read, chunkEnded_read (s := closed_) live active copy read chunk run destination]))
    · have paused := more isLast left
      rw [state, afterChunk, if_pos rfl] at paused
      refine paused.trans (congrArg _ ?_)
      simp only [modJob_eq, counted, Table.get_set_self, Table.set_set]
    · have next := more isLast left
      rwa [state, afterChunk, if_neg (by simp), if_neg (by simp)] at next
    · have stopped := more isLast left
      rwa [state, afterChunk, if_neg (by simp), if_pos rfl] at stopped
    · exact (done_ isLast all).trans (congrArg _ (endJob_quiet (s := closed_) .done (y := y) unstaged active quiet))
    · have fails : exec e s = .next (chunkEnded j p o (failure e) (bytesOf q e) closed_) := by
        rw [final e isEnd no, final_of_failing isEnd bad]
      rw [chunkEnded_failed (s := closed_) live active (failure_ne_ok isEnd bad)] at fails
      intro z fault
      exact ⟨fails, fun unstaged quiet => fails.trans (congrArg _
        (endJob_quiet (s := { closed_ with faults := fault }) .failed (y := z) unstaged active quiet))⟩

end Sys2Proof.Proofs.ChunkEnds

/-! # The end of an interrupt operation's transaction (04 R65, R72, 06 R114, R118, R119, R125) -/

namespace Sys2Proof.Proofs.OperationEnds

-- One theorem after another: the proofs of this part at once ask for more threads than the check allows.
set_option Elab.async false

open Sys2Proof.Machine Sys2Proof.Safety Sys2Proof.Proofs.RequestTurns Sys2Proof.Proofs.RequestEnds
  Sys2Proof.Proofs.Chores Sys2Proof.Proofs.ChunkEnds Sys2Proof.Proofs.SourceUse

/-! ## The discard test sees nothing of what a source does (04 R83) -/

section

variable (p : Fin 4) (q : Txn) (i : Fin 32) (s : State)

theorem writeTest_sources : (writeTest p q s).sources = s.sources := by
  unfold writeTest
  split <;> rfl

theorem writeTest_pins : (writeTest p q s).pins = s.pins := by
  unfold writeTest
  split <;> rfl

theorem writeTest_modSource (f : Source → Source) :
    writeTest p q (s.modSource i f) = (writeTest p q s).modSource i f := by
  unfold writeTest
  split <;> rfl

theorem writeTest_modPort (r : Fin 4) {f : Port → Port}
    (apart : ∀ x a, Port.writeEnded a (f x) = f (Port.writeEnded a x)) :
    writeTest p q (s.modPort r f) = (writeTest p q s).modPort r f := by
  unfold writeTest
  split
  · refine congrArg (fun ports => { s with ports := ports }) (Table.ext_get fun k => ?_)
    simp only [State.modPort_ports, Table.get_modify]
    split
    · split
      · exact apart _ _
      · rfl
    · rfl
  · rfl

theorem writeTest_bumpPlace : writeTest p q s.bumpPlace = (writeTest p q s).bumpPlace := by
  unfold writeTest
  split <;> rfl

theorem writeEnded_opQueue (f : List IrqOp → List IrqOp) (x : Port) (a : Word) :
    Port.writeEnded a { x with opQueue := f x.opQueue }
      = { Port.writeEnded a x with opQueue := f (Port.writeEnded a x).opQueue } := by
  unfold Port.writeEnded
  split <;> rfl

theorem writeTest_nextPlace : (writeTest p q s).nextPlace = s.nextPlace := by
  unfold writeTest
  split <;> rfl

theorem writeTest_askPort (w : Bool) (a : Word) (n : Nat) (v : Word) :
    writeTest p q (askPort i w a n v s) = askPort i w a n v (writeTest p q s) := by
  unfold askPort
  dsimp only
  rw [writeTest_bumpPlace, writeTest_modSource, writeTest_nextPlace,
    writeTest_modPort _ _ _ _ (fun x a => by exact writeEnded_opQueue (· ++ _) x a)]

theorem writeTest_judgeSource : writeTest p q (judgeSource i s) = judgeSource i (writeTest p q s) := by
  unfold judgeSource fetchOrDue
  dsimp only
  rw [writeTest_sources, writeTest_pins]
  split
  · split
    · rw [writeTest_modSource, writeTest_modSource]
    · rw [← writeTest_modSource, writeTest_sources]
      split
      · rw [writeTest_askPort, writeTest_modSource]
      · rw [writeTest_modSource]
  · rfl

theorem writeTest_judgeAfterFlush : writeTest p q (judgeAfterFlush i s) = judgeAfterFlush i (writeTest p q s) := by
  unfold judgeAfterFlush
  dsimp only
  rw [writeTest_sources, writeTest_pins]
  split
  · rw [writeTest_modSource, writeTest_judgeSource]
  · exact writeTest_judgeSource p q i s

/-- The result of an operation and the discard test of its port do not see each other. -/
theorem writeTest_operationEnded (op : IrqOp) (st : Status) (data : List Byte) :
    writeTest p q (operationEnded op st data s) = operationEnded op st data (writeTest p q s) := by
  unfold operationEnded ackWriteEnded vectorReadEnded
  dsimp only
  split
  · rw [writeTest_judgeAfterFlush, writeTest_modSource]
  · split
    · rw [writeTest_judgeSource]
      split
      · rw [writeTest_modSource]
      · rw [writeTest_report, writeTest_modSource]
    · rw [writeTest_judgeSource]
      split
      · rw [writeTest_modSource]
      · rw [writeTest_report, writeTest_modSource]

end

/-! ## A result at its source -/

section

variable {s : State} {op : IrqOp} {data : List Byte}

theorem judged (i : Fin 32) (t : State) :
    (Ripe t i → judgeSource i t = cycleStarted t i) ∧ (¬Ripe t i → judgeSource i t = t) :=
  ⟨judgeSource_ripe, judgeSource_unripe⟩

theorem operationEnded_flushed (flushed : op.flushed = true) (st : Status) : operationEnded op st data s =
    judgeAfterFlush op.source (withSource s op.source { s.sources.get op.source with inFlight := false }) := by
  unfold operationEnded
  rw [if_pos flushed]
  rfl

/-- The source once its acknowledge write has ended (06 R119). -/
def acked (x : Source) (st : Status) : Source := { x with inFlight := false, ackStatus := some st, state := .idle }

/-- The source once its vector read has ended (06 R114). -/
def fetched (x : Source) (st : Status) (v : Word) : Source :=
  { x with
    inFlight := false, vecStatus := some st, vecValue := v
    state := if x.enabled = false then .idle else if x.masked = true then .pending else .due }

/-- A source whose vector read has ended starts no cycle. -/
theorem fetched_unripe {t : State} {i : Fin 32} {x : Source} {st : Status} {v : Word}
    (row : t.sources.get i = fetched x st v) : ¬Ripe t i := by
  rintro ⟨idle, enabled, -, -⟩
  rw [row, fetched] at idle enabled
  dsimp only at idle enabled
  rw [if_neg (by simp [enabled])] at idle
  split at idle <;> cases idle

theorem afterFetch_eq (x : Source) :
    x.afterFetch = if x.enabled = false then .idle else if x.masked = true then .pending else .due := by
  unfold Source.afterFetch
  cases x.enabled <;> rfl

section

variable (live : op.flushed = false)
include live

theorem operationEnded_acked (write : op.isWrite = true) : operationEnded op .ok data s =
    judgeSource op.source (withSource s op.source (acked (s.sources.get op.source) .ok)) := by
  unfold operationEnded ackWriteEnded
  rw [if_neg (by simp [live]), if_pos write]
  rfl

theorem operationEnded_ackFailed (write : op.isWrite = true) {st : Status} (bad : st ≠ .ok) :
    operationEnded op st data s = judgeSource op.source
      { withSource s op.source (acked (s.sources.get op.source) st) with
        faults := faulted s .irqAckFailed (op.failureDetail st) } := by
  unfold operationEnded ackWriteEnded
  dsimp only
  rw [if_neg (by simp [live]), if_pos write, if_neg (by simpa using bad)]
  rfl

theorem operationEnded_fetched (read : op.isWrite = false) : operationEnded op .ok data s =
    withSource s op.source (fetched (s.sources.get op.source) .ok (wordBE data)) := by
  refine Eq.trans ?_ (judgeSource_unripe (i := op.source) (fetched_unripe (withSource_get _ _ _)))
  unfold operationEnded vectorReadEnded
  rw [if_neg (by simp [live]), if_neg (by simp [read])]
  simp only [afterFetch_eq]
  rfl

theorem operationEnded_fetchFailed (read : op.isWrite = false) {st : Status} (bad : st ≠ .ok) :
    operationEnded op st data s = { withSource s op.source (fetched (s.sources.get op.source) st 0) with
      faults := faulted s .irqFetchFailed (op.failureDetail st) } := by
  refine Eq.trans ?_ (judgeSource_unripe (i := op.source) (fetched_unripe (withSource_get _ _ _)))
  unfold operationEnded vectorReadEnded
  rw [if_neg (by simp [live]), if_neg (by simp [read])]
  simp only [afterFetch_eq, beq_eq_false_iff_ne.mpr bad, Bool.false_eq_true, if_false]
  rfl

end

end

theorem seen_opQueue (q : Txn) (x : Port) (l : Option Lock) : (seen q (ended x l)).opQueue = x.opQueue := by
  have kept : (ended x l).opQueue = x.opQueue := (noticed_chores x { x with txn := none, lock := l }).opQueue
  rw [← kept]
  unfold seen writeSeen
  split
  · split <;> rfl
  · rfl

/-- Settles O47: the operation returns to its queue, or its result reaches its source. -/
theorem interruptOperationEnds : Obligations.InterruptOperationEnds := by
  intro p q op data s low txn init write size length i x after set failed next value judged_ fails
  have final {c : Instr} (ends : EndsTxn p c) (no : ¬Repeated c q true op.retries) : exec c s = .next
      (operationEnded op (outcomeOf c).final (bytesOf q c) (closed p q none s)) := by
    rw [exec_ends low txn ends, endTxn_operation _ _ _ _ init, endOperation,
      if_neg (mt (repeats_iff ends _ _).mp no), writeTest_operationEnded, writeTest_closed (by rfl)]
    rfl
  have accept : exec (.targetAnswer p (.accept data)) s = .next
      (operationEnded op .ok (Answer.bytes q (.accept data)) (closed p q none s)) :=
    final (.inr ⟨_, rfl⟩) (by simp [Repeated])
  have failing {c : Instr} (bad : fails c) : failure c ≠ .ok ∧ exec c s = .next
      (operationEnded op (failure c) (bytesOf q c) (closed p q none s)) := by
    obtain ⟨ends, notOk, no⟩ := bad
    exact ⟨failure_ne_ok ends notOk, by rw [final ends no, final_of_failing ends notOk]⟩
  refine ⟨fun live read => ⟨?_, fun c bad => ?_⟩, fun live writes => ⟨?_, fun c bad => ?_⟩,
    fun flushed c command => ?_, fun c ends yes => ?_⟩
  · have bytes : Answer.bytes q (.accept data) = data := by
      simp only [Answer.bytes, write, read, Bool.false_eq_true, if_false]
      exact exactly_self ((length (write.trans read)).1.trans size.symm)
    rw [accept, bytes, operationEnded_fetched live read]
    rfl
  · obtain ⟨notOk, ends⟩ := failing bad
    rw [ends, operationEnded_fetchFailed live read notOk]
    rfl
  · obtain ⟨ripe, unripe⟩ := judged i (set { x with inFlight := false, ackStatus := some .ok, state := .idle })
    rw [operationEnded_acked live writes] at accept
    exact ⟨fun h => accept.trans (congrArg _ (ripe h)), fun h => accept.trans (congrArg _ (unripe h))⟩
  · obtain ⟨notOk, ends⟩ := failing bad
    rw [operationEnded_ackFailed live writes notOk] at ends
    obtain ⟨ripe, unripe⟩ := judged i { set { x with
      inFlight := false, ackStatus := some (failure c), state := .idle } with
      faults := failed .irqAckFailed (failure c) }
    exact ⟨fun h => ends.trans (congrArg _ (ripe h)), fun h => ends.trans (congrArg _ (unripe h))⟩
  · intro t
    have drops : exec c s = .next (judgeAfterFlush i t) := by
      rcases command with rfl | bad
      · rw [accept, operationEnded_flushed flushed]
        rfl
      · rw [(failing bad).2, operationEnded_flushed flushed]
        rfl
    exact ⟨fun h => drops.trans (congrArg _ (judgeAfterFlush_ripe h)),
      fun h => drops.trans (congrArg _ (judgeAfterFlush_unripe h))⟩
  · obtain ⟨pre, post, queue, inserted, before, behind⟩ := insertByKey_split IrqOp.place
      { op with retries := op.retries + 1, holdOff := some q.holdOff } (s.ports.get p).opQueue
    refine ⟨pre, post, queue, before, behind, ?_⟩
    rw [exec_ends low txn ends, endTxn_operation _ _ _ _ init, endOperation, if_pos ((repeats_iff ends _ _).mpr yes),
      writeTest_modPort _ _ _ _ (fun x a => by exact writeEnded_opQueue (insertByKey IrqOp.place _) x a),
      writeTest_closed (by rfl), modPort_eq]
    simp only [Table.get_set_self, Table.set_set, seen_opQueue, inserted]
    rfl

end Sys2Proof.Proofs.OperationEnds

/-! # The completion timers (03 R50 to R53) and the hold-offs (04 R65) -/

namespace Sys2Proof.Proofs.Timers

-- One theorem after another: the proofs of this part at once ask for more threads than the check allows.
set_option Elab.async false

open Sys2Proof.Machine Sys2Proof.Safety Sys2Proof.Proofs.RequestTurns Sys2Proof.Proofs.Admission
  Sys2Proof.Proofs.Starts

variable {s : State} {k : Fin 32}

/-! ## The completion timer (03 R50 to R53) -/

/-- The part with the timer of one entry at 0. -/
def outOfTime (k : Fin 32) (s : State) : State := s.modTag k fun x => { x with timeLeft := 0 }

theorem outOfTime_failure (k : Fin 32) (s : State) (st : Status) :
    ((outOfTime k s).tags.get k).failureDetail st = (s.tags.get k).failureDetail st := by
  unfold outOfTime
  rw [State.modTag_tags, Table.get_modify_self]
  rfl

theorem timerPaused_iff {a : Access} (access : (s.tags.get k).access = some a) :
    timerPaused (s.tags.get k) s = true ↔ (s.ports.get a.port).holds ≠ ⟨false, false, false⟩ := by
  simp only [timerPaused, access, isHeldSet_iff]

theorem expireTag_idle (idle : (s.tags.get k).state = .free ∨ (s.tags.get k).state = .ready
    ∨ (s.tags.get k).state = .discarding) : expireTag k s = s := by
  unfold expireTag
  dsimp only
  rcases idle with h | h | h <;> rw [h]

theorem expireTag_paused (queued : (s.tags.get k).state = .queued) (paused : timerPaused (s.tags.get k) s = true) :
    expireTag k s = s := by
  unfold expireTag
  dsimp only
  rw [queued]
  exact if_pos paused

theorem expireTag_queued (queued : (s.tags.get k).state = .queued) (runs : timerPaused (s.tags.get k) s = false) :
    expireTag k s = { s with
      lists := s.lists.map fun l => l.filter fun e => e != .tag k
      tags := s.tags.set k { s.tags.get k with
        state := .ready, status := .timeout, busPending := false, timeLeft := 0, holdOff := none }
      ready := s.ready ++ [k]
      faults := faulted s .accessFailed ((s.tags.get k).failureDetail .timeout) } := by
  have expires : expireTag k s = readyFromQueue k .timeout (outOfTime k s) := by
    unfold expireTag
    dsimp only
    rw [queued]
    exact if_neg (by simp [runs])
  rw [expires, readyFromQueue_eq, if_pos (by rfl), outOfTime_failure]
  simp only [leftQueue, outOfTime, modTag_eq, Table.get_set_self, Table.set_set]
  rfl

theorem expireTag_waiting (waiting : (s.tags.get k).state = .waiting) : expireTag k s = { s with
    pool := s.pool.map fun r => r.map fun z => { z with covering := z.covering.filter fun u => u != k }
    tags := s.tags.set k { s.tags.get k with
      state := .ready, status := .timeout, busPending := false, timeLeft := 0 }
    ready := s.ready ++ [k]
    faults := faulted s .accessFailed ((s.tags.get k).failureDetail .timeout) } := by
  have expires : expireTag k s = readyFromBarrier k .timeout (outOfTime k s) := by
    unfold expireTag
    dsimp only
    rw [waiting]
    rfl
  rw [expires, readyFromBarrier_eq, if_pos (by rfl), outOfTime_failure]
  simp only [leftBarrier, outOfTime, modTag_eq, Table.get_set_self, Table.set_set]
  rfl

theorem expireTag_active (active : (s.tags.get k).state = .active) : expireTag k s = { s with
    tags := s.tags.set k { s.tags.get k with
      state := .ready, status := .timeout, busPending := true, timeLeft := 0 }
    ready := s.ready ++ [k]
    faults := faulted s .accessFailed ((s.tags.get k).failureDetail .timeout) } := by
  have expires : expireTag k s = makeReady k .timeout true none (outOfTime k s) := by
    unfold expireTag
    dsimp only
    rw [active]
    rfl
  rw [expires, makeReady_pending_eq, if_pos (by rfl), outOfTime_failure]
  simp only [leftBehind, outOfTime, modTag_eq, Table.get_set_self, Table.set_set]
  rfl

/-- Settles O30: the expiry by the state of the entry, and the hold-off of each kind of item. -/
theorem requestTimersRunOut : Obligations.RequestTimersRunOut := by
  constructor
  · intro k s low x fault y
    have expires : exec (.completionTimerExpiry k) s = .next (expireTag k s) :=
      congrArg Host.Outcome.next (if_neg (by simp [low]))
    refine ⟨fun idle => ?_, fun a queued access => ⟨fun held => ?_, fun free => ?_⟩, fun waiting => ?_, fun active => ?_⟩
    · rw [expires, expireTag_idle idle]
    · rw [expires, expireTag_paused queued ((timerPaused_iff access).mpr held)]
    · have runs : timerPaused (s.tags.get k) s = false :=
        Bool.eq_false_iff.mpr fun paused => (timerPaused_iff access).mp paused free
      rw [expires, expireTag_queued queued runs]
      rfl
    · rw [expires, expireTag_waiting waiting]
      rfl
    · rw [expires, expireTag_active active]
      rfl
  · intro s low
    have expires (item : HoldItem) : exec (.holdOffExpiry item) s = .next (endHoldOff item s) :=
      congrArg Host.Outcome.next (if_neg (by simp [low]))
    refine ⟨fun t => expires _, fun k => expires _, fun j => ⟨_, expires _, fun p => ?_⟩, fun i => ?_⟩
    · rw [Table.get_map]
      rfl
    · refine (expires _).trans (congrArg Host.Outcome.next ?_)
      unfold endHoldOff
      simp only [beq_iff_eq]
      rfl

end Sys2Proof.Proofs.Timers

/-! # RESET FLUSH (07 R138): what it does to every block (02 R35, 03 R57, 04 R86, 05 R107, 06 R125) -/

namespace Sys2Proof.Proofs.Flush

-- One theorem after another: the proofs of this part at once ask for more threads than the check allows.
set_option Elab.async false

open Sys2Proof.Machine Sys2Proof.Safety Sys2Proof.Proofs.Requests Sys2Proof.Proofs.RequestTurns
  Sys2Proof.Proofs.TagTable Sys2Proof.Proofs.PostedPool Sys2Proof.Proofs.Chores Sys2Proof.Proofs.JobSlots
  Sys2Proof.Proofs.InterruptSources Sys2Proof.Proofs.WindowUse Sys2Proof.Proofs.Admission
  Sys2Proof.Proofs.SourceUse

variable {s : State}

/-! ## Request lists, posted pool and tags (02 R35, 03 R57) -/

/-- ABORTED reports no fault. -/
theorem flushTag_faults (i : Fin 32) (s : State) : (flushTag i s).faults = s.faults := by
  unfold flushTag readyFromBarrier
  split
  · rfl
  · rfl
  · rfl
  · rfl

theorem foldOver_flushTag_faults (l : List (Fin 32)) (s : State) : (foldOver l flushTag s).faults = s.faults := by
  induction l generalizing s with
  | nil => rfl
  | cons i l ih => exact (ih (flushTag i s)).trans (flushTag_faults i s)

theorem flushRequests_faults (s : State) : (flushRequests s).faults = s.faults := foldOver_flushTag_faults _ _

/-- A list sorted by a key. -/
theorem sortByKey_sorted {α : Type} (key : α → Nat) (l : List α) :
    (sortByKey key l).Pairwise fun a b => key a ≤ key b := by
  have insert_ (x : α) (l : List α) (sorted : l.Pairwise fun a b => key a ≤ key b) :
      (insertByKey key x l).Pairwise fun a b => key a ≤ key b := by
    obtain ⟨pre, post, rfl, inserted, before, behind⟩ := insertByKey_split key x l
    obtain ⟨first, second, across⟩ := List.pairwise_append.mp sorted
    have later : ∀ e ∈ post, key x ≤ key e := by
      cases post with
      | nil => simp
      | cons y ys =>
        have next : key x < key y := behind y (by simp)
        intro e mem
        rcases List.mem_cons.mp mem with rfl | mem
        · exact Nat.le_of_lt next
        · exact Nat.le_trans (Nat.le_of_lt next) ((List.pairwise_cons.mp second).1 e mem)
    rw [inserted]
    refine List.pairwise_append.mpr ⟨first, List.pairwise_cons.mpr ⟨later, second⟩, fun a ha b hb => ?_⟩
    rcases List.mem_cons.mp hb with rfl | hb
    · exact before a ha
    · exact across a ha b hb
  have folds (l acc : List α) (sorted : acc.Pairwise fun a b => key a ≤ key b) :
      (l.foldl (fun acc x => insertByKey key x acc) acc).Pairwise fun a b => key a ≤ key b := by
    induction l generalizing acc with
    | nil => exact sorted
    | cons x l ih => exact ih _ (insert_ x acc sorted)
  exact folds l [] .nil

theorem isOpen_iff (x : Tag) : x.isOpen = true ↔ x.state = .queued ∨ x.state = .active ∨ x.state = .waiting := by
  unfold Tag.isOpen
  cases x.state <;> simp

/-- A POST that is not in a list keeps its slot, marked, and no FENCE in WAITING covers it. -/
theorem flushRequests_slot {k : Fin 32} (unlisted : ∀ p, Entry.post k ∉ s.lists.get p) :
    (flushRequests s).pool.get k = (s.pool.get k).map fun x => { x with
      flushed := true, covering := x.covering.filter fun u => (s.tags.get u).state != .waiting } := by
  obtain ⟨-, -, -, pool⟩ := flushRequests_spec s
  have listed : isQueuedPost s k = false := Bool.eq_false_iff.mpr fun h => by
    obtain ⟨p, mem⟩ := (isQueuedPost_iff s k).mp h
    exact unlisted p mem
  have waiting (u : Fin 32) : (!((openTags s.tags).contains u && (s.tags.get u).state == .waiting))
      = ((s.tags.get u).state != .waiting) := by
    by_cases waits : (s.tags.get u).state = .waiting
    · have mem : u ∈ openTags s.tags := (mem_openTags _ _).mpr ((isOpen_iff _).mpr (.inr (.inr waits)))
      simp [waits, mem]
    · have no : ((s.tags.get u).state == .waiting) = false := beq_eq_false_iff_ne.mpr waits
      rw [bne, no, Bool.and_false]
  rw [pool, flushSlot, if_neg (by simp [listed]), Option.map_map]
  refine congrArg (Option.map · (s.pool.get k)) (funext fun x => ?_)
  simp only [Function.comp, uncoverAll, waiting]

/-! ## Ports (04 R86) -/

/-- A transaction that a FLUSH has reached: an operation is marked (06 R125). -/
def flushedTxn (q : Txn) : Txn :=
  match q.initiator with
  | .operation op => { q with initiator := .operation { op with flushed := true } }
  | _ => q

theorem flushedTxn_eq (q : Txn) : { q with initiator := q.initiator.flushed } = flushedTxn q := by
  obtain ⟨i, w, a, n, d, l, r, m, y, h⟩ := q
  cases i <;> rfl

/-- A port at a FLUSH, its queue and its notice aside. -/
def flushedPort (x : Port) : Port :=
  { lineDropped x with
    holds := ⟨false, x.holds.freeze, false⟩
    shareCount := 0
    offers := x.offers.map fun o => o.filter Offer.started
    txn := x.txn.map flushedTxn }

theorem flushOffers_eq (t : Table (Option Offer) 4) : flushOffers t = t.map fun o => o.filter Offer.started := by
  refine Table.ext_get fun j => ?_
  unfold flushOffers
  rw [Table.get_map, Table.get_map]
  cases t.get j with
  | none => rfl
  | some o => cases started : o.started <;> simp [Option.filter, started]

theorem flush_eq (x : Port) :
    Port.flush { x with offers := flushOffers x.offers } = { flushedPort x with opQueue := [] } := by
  unfold Port.flush flushedPort
  rw [discardLine_eq, flushOffers_eq]
  simp only [flushedTxn_eq]
  rfl

theorem noticed_opQueue (x y : Port) (l : List IrqOp) :
    noticed x { y with opQueue := l } = { noticed x y with opQueue := l } := by
  have state : Port.state { y with opQueue := l } = y.state := rfl
  unfold noticed
  rw [state]
  split
  · rfl
  · obtain ⟨_, _, _, _, _, _, _, _, _, _, _, _, _, n, _⟩ := y
    cases n <;> rfl

/-- The part once its requests, jobs and ports have been flushed. -/
def drained (s : State) : State := changeEveryPort Port.flush (flushJobs (flushRequests s))

theorem drained_ports (s : State) (p : Fin 4) : (drained s).ports.get p
    = { noticed (s.ports.get p) (flushedPort (s.ports.get p)) with opQueue := [] } := by
  unfold drained
  rw [changeEveryPort_get, flushJobs_ports, flush_eq, (flushRequests_touches s).ports (by simp), noticed_opQueue]
  rfl

theorem drained_touches (s : State) : Touches [.pool, .lists, .tags, .ready, .faults, .jobs, .ports] s (drained s) :=
  (flushRequests_touches s).within.trans ((flushJobs_touches _).within.trans (changeEveryPort_touches _ _).within)

/-! ## Jobs (05 R107) -/

/-- A transaction of a slot has started and not reached a final outcome (05 R107). -/
def Running (s : State) (j : Fin 4) : Prop :=
  (∃ p q o, (s.ports.get p).txn = some q ∧ q.initiator = .chunk j o)
    ∨ ∃ p o, (s.ports.get p).offers.get j = some o ∧ o.started = true

theorem slotRunning_iff (s : State) (j : Fin 4) : slotRunning s j = true ↔ Running s j := by
  constructor
  · intro runs
    obtain ⟨x, mem, here⟩ := List.any_eq_true.mp runs
    obtain ⟨p, rfl⟩ := (Table.mem_rows_iff _ _).mp mem
    rcases Bool.or_eq_true _ _ |>.mp here with txn | offer
    · split at txn
      · next q busy =>
        split at txn
        · next k o init => exact .inl ⟨p, q, o, busy, by rw [init, beq_iff_eq.mp txn]⟩
        · cases txn
      · cases txn
    · split at offer
      · next o offered => exact .inr ⟨p, o, offered, offer⟩
      · cases offer
  · intro runs
    by_contra none_
    have still := slotRunning_false (Bool.eq_false_iff.mpr none_)
    rcases runs with ⟨p, q, o, busy, init⟩ | ⟨p, o, offered, started⟩
    · have none_ := (still p).1
      simp [runningChunk, busy, init] at none_
    · rw [(still p).2 o offered] at started
      cases started

theorem flushJob_winds {x : JobSlot} (state : x.state = .running ∨ x.state = .pausing ∨ x.state = .stopping) :
    flushJob true x = { x with staged := none, state := .stopping, flushMark := true } := by
  unfold flushJob
  rcases state with h | h | h <;> simp only [h, if_true]

theorem flushJob_rests {x : JobSlot} {b : Bool}
    (rests : ¬((x.state = .running ∨ x.state = .pausing ∨ x.state = .stopping) ∧ b = true)) :
    flushJob b x = x.emptied := by
  cases b with
  | false => exact flushJob_still x
  | true =>
    unfold flushJob
    cases state : x.state <;> simp [state] at rests ⊢

/-! ## Sources (06 R125) -/

/-- A source at a FLUSH, before it is judged. -/
def quieted (s : State) (i : Fin 32) : Source :=
  { (s.sources.get i).flush with
    inFlight := (s.sources.get i).inFlight && (runningOperation i (s.ports.get (portOfSource i))).isSome }

/-- The part once every block has been flushed, the sources not yet judged. -/
def settled (s : State) : State :=
  (((drained s).setSources ⟨(Table.indices 32).map fun i => { ((drained s).sources.get i).flush with
    inFlight := ((drained s).sources.get i).inFlight && operationRunning (drained s) i },
    by simp [Table.indices]⟩)).setFreeDraws (s.freeDraws + 1)

theorem flushPart_eq (s : State) : flushPart s = foldOver (sourceOrder s.freeDraws) judgeAfterFlush (settled s) := by
  have draws : (drained s).freeDraws = s.freeDraws := (drained_touches s).freeDraws (by simp)
  unfold settled
  rw [← draws]
  rfl

/-- The FLUSH marks the operation in progress, and leaves no other. -/
theorem drained_running (s : State) (i : Fin 32) : (runningOperation i ((drained s).ports.get (portOfSource i))).isSome
    = (runningOperation i (s.ports.get (portOfSource i))).isSome := by
  have port : (drained s).ports.get (portOfSource i) = noticed
      { s.ports.get (portOfSource i) with offers := flushOffers (s.ports.get (portOfSource i)).offers }
      (Port.flush { s.ports.get (portOfSource i) with offers := flushOffers (s.ports.get (portOfSource i)).offers }) := by
    unfold drained
    rw [changeEveryPort_get, flushJobs_ports, (flushRequests_touches s).ports (by simp)]
  rw [port, (noticed_chores _ _).operation, runningOperation_flush, Option.isSome_map]
  rfl

theorem settled_sources (s : State) (i : Fin 32) : (settled s).sources.get i = quieted s i := by
  refine (Table.get_ofIndices _ _ i).trans ?_
  rw [operationRunning_eq, drained_running, (drained_touches s).sources (by simp)]
  rfl

/-- A source at rest with no edge latched. -/
def Quiet (s : State) (i : Fin 32) : Prop := (s.sources.get i).state = .idle ∧ (s.sources.get i).latch = false

/-- A source starts its cycle as it is judged. -/
def begins (s : State) (i : Fin 32) : Bool := (s.sources.get i).startsCycle (s.pins.lines.get i)

/-- The record of a source judged once a FLUSH has been taken. -/
def judgedTo (s : State) (i : Fin 32) : Source :=
  let x := { s.sources.get i with latch := false, behindFlush := true }
  if begins s i = true then if x.masked = true then { x with state := .pending } else wentOn x else s.sources.get i

/-- The vector read that a source judged once a FLUSH has been taken asks for, at a place. -/
def readAt (s : State) (i : Fin 32) (n : Nat) : Option IrqOp :=
  if begins s i = true ∧ (s.sources.get i).masked = false then
    (s.sources.get i).vectorRead.map fun v => ⟨i, false, v.localAddr, v.size, 0, 0, none, n, false⟩
  else none

theorem readAt_eq_some {i : Fin 32} {n : Nat} {op : IrqOp} (h : readAt s i n = some op) :
    op.source = i ∧ op.place = n ∧ begins s i = true ∧ (s.sources.get i).masked = false
      ∧ ∃ v, (s.sources.get i).vectorRead = some v
        ∧ op = ⟨i, false, v.localAddr, v.size, 0, 0, none, n, false⟩ := by
  unfold readAt at h
  split at h
  · next begins_ =>
    obtain ⟨v, vector, rfl⟩ := Option.map_eq_some_iff.mp h
    exact ⟨rfl, rfl, begins_.1, begins_.2, v, vector, rfl⟩
  · cases h

theorem stepped_none (s : State) (i : Fin 32) (x : Source) : stepped s i x none = withSource s i x := by
  have still : s.ports.modify (portOfSource i) (withOps · []) = s.ports := by
    rw [Table.modify, withOps_nil, Table.set_get_self]
  unfold stepped
  simp only [Option.toList_none, still]
  rfl

theorem judgeAfterFlush_stepped {i : Fin 32} (quiet : Quiet s i) :
    judgeAfterFlush i s = stepped s i (judgedTo s i) (readAt s i s.nextPlace) := by
  by_cases ripe : begins s i = true
  · have cycles : Ripe s i := (ripe_iff s i).mpr ripe
    have level : (s.sources.get i).trigger = .level := by
      rcases cycles.2.2.1 with ⟨level, -⟩ | ⟨-, latched⟩
      · exact level
      · rw [quiet.2] at latched
        cases latched
    rw [judgeAfterFlush_ripe cycles, cycleAfterFlush, if_pos level]
    unfold cycleStarted judgedTo readAt
    simp only [ripe, if_true]
    by_cases masked : (s.sources.get i).masked = true
    · simp only [masked, if_true, Bool.true_eq_false, and_false, if_false]
      rw [stepped_none]
      simp only [withSource, Table.get_set_self, Table.set_set]
    · have unmasked_ : (s.sources.get i).masked = false := Bool.eq_false_iff.mpr masked
      simp only [unmasked_, Bool.false_eq_true, if_false, and_self, if_true]
      unfold cycleGoesOn wentOn
      cases vector : (s.sources.get i).vectorRead with
      | none =>
        simp only [Option.map_none, Option.isSome_none, Bool.false_eq_true, if_false]
        rw [stepped_none]
        simp only [withSource, Table.get_set_self, Table.set_set]
      | some v =>
        simp only [Option.map_some, Option.isSome_some, if_true]
        simp only [asked, stepped, Table.get_set_self, Table.set_set]
        rfl
  · have rests : ¬Ripe s i := mt (ripe_iff s i).mp ripe
    rw [judgeAfterFlush_unripe rests, judgedTo, if_neg ripe, readAt, if_neg fun h => ripe h.1, stepped_none,
      withSource_self]

/-- Being judged acts on the source alone, and asks for a vector read at most. -/
theorem judging : OneByOne judgeAfterFlush Quiet judgedTo readAt where
  step _ _ quiet := judgeAfterFlush_stepped quiet
  congr source pins := by
    unfold judgedTo readAt begins Quiet
    rw [source, pins]
    exact ⟨rfl, rfl, id⟩
  own _ _ _ _ h := ⟨(readAt_eq_some h).1, (readAt_eq_some h).2.1⟩

/-- The vector reads that the sources ask for once a FLUSH has been taken. -/
def rereads (s : State) : List IrqOp :=
  gathered (readAt (settled s)) (sourceOrder s.freeDraws) s.nextPlace

theorem settled_nextPlace (s : State) : (settled s).nextPlace = s.nextPlace := by
  unfold settled
  rw [State.setFreeDraws_nextPlace, State.setSources_nextPlace, (drained_touches s).nextPlace (by simp)]

theorem settled_ports (s : State) : (settled s).ports = (drained s).ports := by
  unfold settled
  rw [State.setFreeDraws_ports, State.setSources_ports]

theorem settled_pins (s : State) : (settled s).pins = s.pins := by
  unfold settled
  rw [State.setFreeDraws_pins, State.setSources_pins, (drained_touches s).pins (by simp)]

theorem settled_quiet (s : State) (i : Fin 32) : Quiet (settled s) i := by
  unfold Quiet
  rw [settled_sources]
  exact ⟨rfl, rfl⟩

theorem flushPart_sources (s : State) (i : Fin 32) : (flushPart s).sources.get i = judgedTo (settled s) i := by
  obtain ⟨records, -, -⟩ := judging.fold (nodup_sourceOrder s.freeDraws) (settled s) fun k _ => settled_quiet s k
  rw [flushPart_eq, records, if_pos (mem_sourceOrder _ i)]

theorem flushPart_ports (s : State) (p : Fin 4) : (flushPart s).ports.get p
    = { noticed (s.ports.get p) (flushedPort (s.ports.get p)) with opQueue := (rereads s).filter (atPort p) } := by
  obtain ⟨-, ports, -⟩ := judging.fold (nodup_sourceOrder s.freeDraws) (settled s) fun k _ => settled_quiet s k
  rw [flushPart_eq, ports, settled_nextPlace, settled_ports, drained_ports]
  simp only [withOps, List.nil_append, rereads]

/-! ## The request lists, the pool, the tags and the slots after a FLUSH -/

theorem flushedTag_queued {x : Tag} (h : x.state = .queued) : flushedTag x =
    { x with state := .ready, status := .aborted, busPending := false, holdOff := none } := by
  unfold flushedTag
  rw [h]

theorem flushedTag_waiting {x : Tag} (h : x.state = .waiting) : flushedTag x =
    { x with state := .ready, status := .aborted, busPending := false } := by
  unfold flushedTag
  rw [h]

theorem flushedTag_active {x : Tag} (h : x.state = .active) : flushedTag x =
    { x with state := .ready, status := .aborted, busPending := true } := by
  unfold flushedTag
  rw [h]

theorem flushedTag_other {x : Tag} (h : x.state = .free ∨ x.state = .ready ∨ x.state = .discarding) :
    flushedTag x = x := by
  unfold flushedTag
  rcases h with h | h | h <;> rw [h]

theorem flushPart_of_requests (s : State) : (flushPart s).lists = (flushRequests s).lists
    ∧ (flushPart s).pool = (flushRequests s).pool ∧ (flushPart s).tags = (flushRequests s).tags
    ∧ (flushPart s).ready = (flushRequests s).ready ∧ (flushPart s).faults = s.faults := by
  have rest : Touches [.jobs, .ports, .sources, .nextPlace, .freeDraws] (flushRequests s) (flushPart s) :=
    (flushJobs_touches _).within.trans ((changeEveryPort_touches _ _).within.trans (flushSources_touches _).within)
  exact ⟨rest.lists (by simp), rest.pool (by simp), rest.tags (by simp), rest.ready (by simp),
    (rest.faults (by simp)).trans (flushRequests_faults s)⟩

theorem flushPart_jobs (s : State) (j : Fin 4) :
    (flushPart s).jobs.get j = flushJob (slotRunning s j) (s.jobs.get j) := by
  have rest : Touches [.ports, .sources, .nextPlace, .freeDraws] (flushJobs (flushRequests s)) (flushPart s) :=
    (changeEveryPort_touches _ _).within.trans (flushSources_touches _).within
  have requests := flushRequests_touches s
  have runs : slotRunning (flushRequests s) j = slotRunning s j := by
    unfold slotRunning
    rw [requests.ports (by simp)]
  rw [rest.jobs (by simp), flushJobs_jobs, runs, requests.jobs (by simp)]

/-! ## The sources after a FLUSH -/

/-- The operation of a source is in progress on its port. -/
def Operates (s : State) (i : Fin 32) : Prop :=
  ∃ q op, (s.ports.get (portOfSource i)).txn = some q ∧ q.initiator = .operation op ∧ op.source = i

theorem operates_iff (s : State) (i : Fin 32) :
    (runningOperation i (s.ports.get (portOfSource i))).isSome = true ↔ Operates s i := by
  unfold Operates
  rw [runningOperation_eq]
  cases (s.ports.get (portOfSource i)).txn with
  | none => simp
  | some q => cases init : q.initiator <;> simp [carriedOperation, init]

theorem quieted_inFlight (s : State) (i : Fin 32) :
    (quieted s i).inFlight = true ↔ (s.sources.get i).inFlight = true ∧ Operates s i := by
  rw [← operates_iff]
  exact Bool.and_eq_true _ _ ▸ Iff.rfl

/-- A source starts its cycle once a FLUSH has been taken. -/
def Begins (s : State) (i : Fin 32) : Prop :=
  (s.sources.get i).enabled = true ∧ (s.sources.get i).trigger = .level ∧ s.pins.lines.get i = true
    ∧ ¬((s.sources.get i).inFlight = true ∧ Operates s i)

theorem begins_iff (s : State) (i : Fin 32) : begins (settled s) i = true ↔ Begins s i := by
  unfold begins Begins
  rw [← ripe_iff, ← quieted_inFlight, Bool.not_eq_true]
  unfold Ripe Asks
  rw [settled_sources, settled_pins]
  have idle : (quieted s i).state = .idle := rfl
  have latch : (quieted s i).latch = false := rfl
  have enabled : (quieted s i).enabled = (s.sources.get i).enabled := rfl
  have trigger : (quieted s i).trigger = (s.sources.get i).trigger := rfl
  rw [idle, latch, enabled, trigger]
  simp only [true_and, Bool.false_eq_true, and_false, or_false, and_assoc]

section

variable {i : Fin 32}

theorem flushPart_source_rests (rests : ¬Begins s i) : (flushPart s).sources.get i = quieted s i := by
  rw [flushPart_sources, judgedTo, if_neg (mt (begins_iff s i).mp rests), settled_sources]

variable (starts : Begins s i)
include starts

theorem quieted_begins : quieted s i = { (s.sources.get i).flush with inFlight := false } := by
  have still : (quieted s i).inFlight = false :=
    Bool.eq_false_iff.mpr fun flies => starts.2.2.2 ((quieted_inFlight s i).mp flies)
  exact congrArg (fun b => { (s.sources.get i).flush with inFlight := b }) still

theorem flushPart_source_pending (masked : (s.sources.get i).masked = true) : (flushPart s).sources.get i =
    { quieted s i with latch := false, behindFlush := true, state := .pending } := by
  rw [flushPart_sources, judgedTo, if_pos ((begins_iff s i).mpr starts), settled_sources]
  exact if_pos masked

theorem flushPart_source_goes (unmasked_ : (s.sources.get i).masked = false) : (flushPart s).sources.get i =
    wentOn { quieted s i with latch := false, behindFlush := true } := by
  rw [flushPart_sources, judgedTo, if_pos ((begins_iff s i).mpr starts), settled_sources]
  exact if_neg (by simp [quieted, Source.flush, unmasked_])

end

theorem mem_rereads {op : IrqOp} (mem : op ∈ rereads s) : s.nextPlace ≤ op.place ∧ Begins s op.source
    ∧ (s.sources.get op.source).masked = false ∧ ∃ v, (s.sources.get op.source).vectorRead = some v
      ∧ op = ⟨op.source, false, v.localAddr, v.size, 0, 0, none, op.place, false⟩ := by
  obtain ⟨-, low, -, asked⟩ := mem_gathered (judging.own _) mem
  obtain ⟨-, -, starts, unmasked_, v, vector, it⟩ := readAt_eq_some asked
  rw [settled_sources] at unmasked_ vector
  exact ⟨low, (begins_iff s _).mp starts, unmasked_, v, vector, it⟩

theorem exists_reread {i : Fin 32} (starts : Begins s i) (unmasked_ : (s.sources.get i).masked = false)
    (reads : (s.sources.get i).vectorRead.isSome = true) : ∃ op ∈ rereads s, op.source = i := by
  refine exists_gathered (judging.own _) (mem_sourceOrder _ i) (fun n => ?_) _
  have free : ((settled s).sources.get i).masked = false := by
    rw [settled_sources]
    exact unmasked_
  have vector : ((settled s).sources.get i).vectorRead = (s.sources.get i).vectorRead := by
    rw [settled_sources]
    rfl
  rw [readAt, if_pos ⟨(begins_iff s i).mpr starts, free⟩, Option.isSome_map, vector, reads]

theorem flushPart_source_fetching {i : Fin 32} (starts : Begins s i) (unmasked_ : (s.sources.get i).masked = false)
    (reads : (s.sources.get i).vectorRead.isSome = true) : (flushPart s).sources.get i =
      { quieted s i with latch := false, behindFlush := true, state := .fetching, inFlight := true } :=
  (flushPart_source_goes starts unmasked_).trans (if_pos reads)

theorem exec_resetFlush {f : FrameHead} (expected : Expected f s) (room : Room s) (id : Half) :
    exec (.resetFlush f id [0]) s = .next { flushPart (took s) with
      direct := (flushPart (took s)).direct
        ++ [⟨[0x80, id.extractLsb' 8 8, id.extractLsb' 0 8, 0x25, 0, 0], .flushReply⟩] } :=
  exec_request_ok (k := .reset) (body := [0]) expected room (by decide) id rfl

/-- Settles O50: block by block, with the sources judged one after another. -/
theorem flushClearsTheTransactionState : Obligations.FlushClearsTheTransactionState := by
  intro f id s expected room
  have touches := flushPart_touches (took s)
  obtain ⟨lists, pool, tags, ready, faults⟩ := flushPart_of_requests (took s)
  obtain ⟨tagRows, readyList, listRows, poolRows⟩ := flushRequests_spec (took s)
  refine ⟨flushPart (took s), exec_resetFlush expected room id, touches.windows (by simp), touches.settings (by simp),
    faults, touches.link (by simp), touches.direct (by simp), touches.pins (by simp), touches.pending (by simp),
    fun p => ?_, fun k listed => ?_, fun k unlisted => ?_, fun k => ?_, ?_, fun p => ?_, fun j => ?_, fun i => ?_⟩
  · rw [lists, listRows]
  · have queued : isQueuedPost (took s) k = true := (isQueuedPost_iff _ k).mpr listed
    rw [pool, poolRows, flushSlot, if_pos queued]
    rfl
  · rw [pool]
    exact flushRequests_slot (s := took s) unlisted
  · rw [tags, tagRows]
    exact ⟨flushedTag_queued, flushedTag_waiting, flushedTag_active, flushedTag_other⟩
  · refine ⟨openTags s.tags, by rw [ready, readyList]; rfl, nodup_openTags _,
      fun k => (mem_openTags _ k).trans (isOpen_iff _), sortByKey_sorted _ _⟩
  · intro x
    have port := flushPart_ports (took s) p
    have queue : ((flushPart (took s)).ports.get p).opQueue = (rereads (took s)).filter (atPort p) := by rw [port]
    rw [queue]
    have own := judging.own (settled (took s))
    refine ⟨port.trans (by rfl), ?_, ?_, fun op mem => ?_⟩
    · exact (List.filter_sublist.map _).nodup (gathered_sources_nodup own (nodup_sourceOrder _) _)
    · exact (gathered_pairwise own _ _).sublist List.filter_sublist
    · obtain ⟨mem, here⟩ := List.mem_filter.mp mem
      obtain ⟨low, starts, unmasked_, v, vector, it⟩ := mem_rereads mem
      have fetching := flushPart_source_fetching starts unmasked_ (by rw [vector]; rfl)
      exact ⟨congrArg Fin.val (beq_iff_eq.mp here), low, by rw [fetching], v, vector, it⟩
  · intro x running winds
    rw [flushPart_jobs]
    have runs : slotRunning (took s) j = true ↔ running := slotRunning_iff _ j
    refine ⟨fun winding => ?_, fun resting => ?_⟩
    · rw [runs.mpr winding.2]
      exact flushJob_winds winding.1
    · exact flushJob_rests fun both => resting ⟨both.1, runs.mp both.2⟩
  · intro x p running y starts
    refine ⟨fun rests => ?_, fun begin_ masked => ?_, fun begin_ unmasked_ none_ => ?_, fun begin_ unmasked_ reads => ?_⟩
    · have row := flushPart_source_rests (s := took s) (i := i) rests
      refine ⟨row.trans ?_, ?_⟩
      · simp only [y, row]
        rfl
      · rw [row]
        exact quieted_inFlight (took s) i
    · refine (flushPart_source_pending (s := took s) begin_ masked).trans ?_
      rw [quieted_begins (s := took s) begin_]
      rfl
    · refine (flushPart_source_goes (s := took s) begin_ unmasked_).trans ((if_neg ?_).trans ?_)
      · have vector : (quieted (took s) i).vectorRead = none := none_
        simp [vector]
      · rw [quieted_begins (s := took s) begin_]
        rfl
    · have row := flushPart_source_fetching (s := took s) begin_ unmasked_ reads
      obtain ⟨op, mem, source⟩ := exists_reread (s := took s) begin_ unmasked_ reads
      refine ⟨row.trans (by rfl), op, ?_, source⟩
      have here : portOfSource op.source = p := congrArg portOfSource source
      have queue : ((flushPart (took s)).ports.get p).opQueue = (rereads (took s)).filter (atPort p) := by
        rw [flushPart_ports]
      rw [queue]
      exact List.mem_filter.mpr ⟨mem, beq_iff_eq.mpr here⟩

end Sys2Proof.Proofs.Flush

/-! # The idle step: the events that are due, and a quarter of a microsecond (log entries 1, 2, 4) -/

namespace Sys2Proof.Proofs.Time

-- One theorem after another: the proofs of this part at once ask for more threads than the check allows.
set_option Elab.async false

open Sys2Proof.Machine Sys2Proof.Safety Sys2Proof.Proofs.HostFrames Sys2Proof.Proofs.LinkInput
  Sys2Proof.Proofs.Outbound Sys2Proof.Proofs.Starts

variable {s : State} {e : Instr}

/-! ## The step with no command waiting -/

section

variable (idle : s.pending = [])
include idle

theorem step_idle : step s = idleStep s := by
  unfold step takeCommand
  rw [idle]

theorem step_none (nothing : dueEvents s = []) : step s = .next (tick s) := by
  rw [step_idle idle, idleStep, nothing]

theorem step_one (one : dueEvents s = [e]) : step s = exec e s := by
  rw [step_idle idle, idleStep, one]

theorem step_several (several : 1 < (dueEvents s).length) :
    ∃ e ∈ dueEvents s, step s = exec e { s with freeDraws := s.freeDraws + 1 } := by
  rw [step_idle idle]
  unfold idleStep
  rcases due : dueEvents s with _ | ⟨a, _ | ⟨b, l⟩⟩
  · rw [due] at several
    exact absurd several (by simp)
  · rw [due] at several
    exact absurd several (by simp)
  · refine ⟨_, ?_, rfl⟩
    have inside : Config.freeChoice s.freeDraws % (a :: b :: l).length < (a :: b :: l).length :=
      Nat.mod_lt _ (by simp)
    rw [List.getD_eq_getElem _ _ inside]
    exact List.getElem_mem inside

end

theorem dueEvents_low (low : s.pins.resetLow = true) : dueEvents s = [] := if_pos low

theorem tick_low (low : s.pins.resetLow = true) : tick s = s := if_pos low

/-! ## A quarter of a microsecond -/

theorem timerPaused_eq_false_iff (s : State) (x : Tag) : timerPaused x s = false ↔
    ∀ a, x.access = some a → (s.ports.get a.port).holds = ⟨false, false, false⟩ := by
  unfold timerPaused
  cases x.access with
  | none => simp
  | some a => simp [← Bool.not_eq_true, isHeldSet_iff]

theorem tagCounts_iff (s : State) (x : Tag) : tagCounts s x = true ↔ Counts s x := by
  unfold tagCounts Counts
  cases x.state <;> simp [timerPaused_eq_false_iff]

theorem tick_eq (high : s.pins.resetLow = false) : tick s = { s with
    tags := s.tags.map (tickTag s)
    pool := s.pool.map fun r => r.map fun x => { x with holdOff := countDown x.holdOff }
    ports := s.ports.map Port.tick
    link := Link.tick s.link } := if_neg (by simp [high])

theorem tickTag_counts {x : Tag} (counts : Counts s x) :
    tickTag s x = { x with timeLeft := x.timeLeft - 1, holdOff := countDown x.holdOff } := by
  unfold tickTag
  rw [if_pos ((tagCounts_iff s x).mpr counts)]

theorem tickTag_stands {x : Tag} (stands : ¬Counts s x) : tickTag s x = { x with holdOff := countDown x.holdOff } := by
  unfold tickTag
  rw [if_neg (mt (tagCounts_iff s x).mp stands)]

/-! ## The frame in the receive bytes (09 R157) -/

theorem hunt_head {bs : List Byte} {b : Byte} {rest : List Byte} (h : hunt bs = b :: rest) : b = syncByte := by
  have first := List.head?_dropWhile_not (fun b : Byte => b != syncByte) bs
  unfold hunt at h
  rw [h] at first
  simpa using first

/-- Bytes behind a LEN that hold a whole frame: its content, its CRC, and what follows. -/
theorem split_frame {rest : List Byte} {n : Nat} (whole : ¬rest.length < n + 2) :
    rest = rest.take n ++ (rest.drop n).take 2 ++ rest.drop (n + 2) ∧ (rest.take n).length = n
      ∧ ((rest.drop n).take 2).length = 2 := by
  refine ⟨?_, by simp; omega, by simp; omega⟩
  rw [← List.drop_drop, List.append_assoc, List.take_append_drop, List.take_append_drop]

theorem collect_good_iff (s : State) (content rest : List Byte) : collect (hunt s.link.rx) = .good content rest ↔
    content.length ≤ 255 ∧ hunt s.link.rx = wireFrame content ++ rest := by
  constructor
  · intro good
    rcases bytes : hunt s.link.rx with _ | ⟨b, _ | ⟨len, tail⟩⟩
    · rw [bytes] at good; cases good
    · rw [bytes] at good; cases good
    · have sync := hunt_head bytes
      rw [bytes] at good
      unfold collect at good
      dsimp only at good
      split at good
      · cases good
      · next whole =>
        obtain ⟨cut, length, two⟩ := split_frame whole
        split at good
        · next crc =>
          injection good with same rest_eq
          rw [same] at cut length crc
          rw [rest_eq, crc] at cut
          have small : content.length ≤ 255 := by have := len.isLt; omega
          have len_eq : len = lenByte content := by
            unfold lenByte
            rw [length, BitVec.ofNat_toNat, BitVec.setWidth_eq]
          refine ⟨small, ?_⟩
          rw [cut, sync, wireFrame, ← len_eq]
          rfl
        · cases good
  · rintro ⟨small, bytes⟩
    rw [bytes, collect_wireFrame small]

theorem collect_bad_iff (s : State) : collect (hunt s.link.rx) = .bad ↔
    ∃ (len : Byte) (content crc after : List Byte), hunt s.link.rx = 0xC3 :: len :: content ++ crc ++ after
      ∧ content.length = len.toNat ∧ crc.length = 2 ∧ crc ≠ be16 (crc16 (len :: content)) := by
  constructor
  · intro bad
    rcases bytes : hunt s.link.rx with _ | ⟨b, _ | ⟨len, tail⟩⟩
    · rw [bytes] at bad; cases bad
    · rw [bytes] at bad; cases bad
    · have sync := hunt_head bytes
      rw [bytes] at bad
      unfold collect at bad
      dsimp only at bad
      split at bad
      · cases bad
      · next whole =>
        obtain ⟨cut, length, two⟩ := split_frame whole
        split at bad
        · cases bad
        · next wrong =>
          refine ⟨len, _, _, tail.drop (len.toNat + 2), ?_, length, two, wrong⟩
          rw [sync]
          exact congrArg (fun l => syncByte :: len :: l) cut
  · rintro ⟨len, content, crc, after, bytes, whole, two, wrong⟩
    rw [bytes]
    exact collect_bad whole two wrong

/-- A frame that is read is a command with a frame of its own. -/
theorem decode_isFrame (content : List Byte) : (encodeHostFrame (decodeHostFrame content)).isSome = true := by
  unfold decodeHostFrame
  split
  · rfl
  · rfl
  · rfl
  · rfl
  · split
    · next k _ =>
      cases k with
      | reset =>
        unfold requestInstr
        dsimp only
        split <;> rfl
      | _ => rfl
    · rfl

/-- A command with a frame of its own is due when its frame stands in the receive bytes. -/
theorem due_frame_iff (frame : (encodeHostFrame e).isSome = true) : Due s e ↔
    ∃ content after : List Byte, content.length ≤ 255
      ∧ hunt s.link.rx = wireFrame content ++ after ∧ e = decodeHostFrame content := by
  cases e with
  | portStart p => cases frame
  | frameTransmitEnd => cases frame
  | beaconTimerExpiry => cases frame
  | replayTimerExpiry => cases frame
  | responseLimitExpiry p => cases frame
  | completionTimerExpiry k => cases frame
  | holdOffExpiry item => cases frame
  | frameCrcFailure hrx => cases frame
  | _ => exact Iff.rfl

theorem mem_dueReceive_frame (frame : (encodeHostFrame e).isSome = true) : e ∈ dueReceive s ↔ Due s e := by
  rw [due_frame_iff frame]
  unfold dueReceive
  rcases found : collect (hunt s.link.rx) with _ | ⟨content, rest⟩ | _
  · refine iff_of_false (by simp) ?_
    rintro ⟨content, after, small, bytes, -⟩
    rw [(collect_good_iff s content after).mpr ⟨small, bytes⟩] at found
    cases found
  · constructor
    · intro mem
      obtain ⟨small, bytes⟩ := (collect_good_iff s content rest).mp found
      exact ⟨content, rest, small, bytes, List.mem_singleton.mp mem⟩
    · rintro ⟨content', after, small, bytes, read⟩
      rw [(collect_good_iff s content' after).mpr ⟨small, bytes⟩] at found
      injection found with same
      exact List.mem_singleton.mpr (same ▸ read)
  · refine iff_of_false ?_ ?_
    · intro mem
      rw [List.mem_singleton.mp mem] at frame
      cases frame
    · rintro ⟨content, after, small, bytes, -⟩
      rw [(collect_good_iff s content after).mpr ⟨small, bytes⟩] at found
      cases found

theorem mem_dueReceive_failed (hrx : List Byte) :
    .frameCrcFailure hrx ∈ dueReceive s ↔ Due s (.frameCrcFailure hrx) := by
  have failed : Due s (.frameCrcFailure hrx) ↔ hrx = [] ∧ collect (hunt s.link.rx) = .bad :=
    and_congr_right fun _ => (collect_bad_iff s).symm
  rw [failed]
  unfold dueReceive
  rcases found : collect (hunt s.link.rx) with _ | ⟨content, rest⟩ | _
  · simp
  · refine iff_of_false ?_ (by simp)
    intro mem
    have frame := decode_isFrame content
    rw [← List.mem_singleton.mp mem] at frame
    cases frame
  · simp

/-- What the receiver finds is a frame of the host or a frame that fails its CRC. -/
theorem due_of_mem_dueReceive (mem : e ∈ dueReceive s) : Due s e := by
  by_cases frame : (encodeHostFrame e).isSome = true
  · exact (mem_dueReceive_frame frame).mp mem
  · have failed : ∃ hrx, e = .frameCrcFailure hrx := by
      unfold dueReceive at mem
      split at mem
      · rw [List.mem_singleton.mp mem] at frame
        exact absurd (decode_isFrame _) frame
      · exact ⟨[], List.mem_singleton.mp mem⟩
      · cases mem
    obtain ⟨hrx, rfl⟩ := failed
    exact (mem_dueReceive_failed hrx).mp mem

/-! ## The line and the replay timer (09 R163, R168, R169) -/

theorem isOut_iff (x : Option Nat) : isOut x = true ↔ x = some 0 := beq_iff_eq

theorem rotation_all (l c : OutClass) : c ∈ OutClass.rotation l := by
  cases l <;> cases c <;> decide

theorem nextClass_isSome_iff (s : State) : (nextClass s).isSome = true ↔ s.link.replay.length < 8
    ∧ (s.direct ≠ [] ∨ s.ready ≠ [] ∨ ¬NoNoticeDue s) := by
  constructor
  · intro some_
    by_contra no
    have none_ : nextClass s = none := nextClass_none (by
      by_cases full : 8 ≤ s.link.replay.length
      · exact .inl full
      · exact .inr (by simpa [Nat.not_le.mp full] using no))
    rw [none_] at some_
    cases some_
  · rintro ⟨few, waits⟩
    unfold nextClass
    rw [if_pos (by exact few), List.find?_isSome]
    rcases waits with direct | ready | notice
    · exact ⟨.direct, rotation_all _ _, by simpa [OutClass.offers] using direct⟩
    · exact ⟨.ready, rotation_all _ _, by simpa [OutClass.offers] using ready⟩
    · refine ⟨.notice, rotation_all _ _, ?_⟩
      rw [← dueNotice_none_iff] at notice
      exact Option.isSome_iff_ne_none.mpr notice

theorem somethingToSend_iff (s : State) : somethingToSend s = true ↔ WaitsForLine s := by
  have resend : (oldestResend s.link.replay).isSome = true ↔ ∃ e ∈ s.link.replay, e.resend = true :=
    List.find?_isSome
  unfold somethingToSend WaitsForLine
  simp only [Bool.and_eq_true, Bool.or_eq_true, bne_iff_ne, resend, nextClass_isSome_iff, or_assoc]

theorem mem_dueLine : e ∈ dueLine s ↔ (e = .frameTransmitEnd ∧ Due s .frameTransmitEnd)
    ∨ (e = .beaconTimerExpiry ∧ Due s .beaconTimerExpiry) := by
  have up_of_waits : WaitsForLine s → s.link.up = true := And.left
  unfold dueLine Due
  rcases tx : s.link.tx with _ | x
  · by_cases sends : somethingToSend s = true
    · have waits := (somethingToSend_iff s).mp sends
      simp [sends, waits, up_of_waits waits]
    · have rests := mt (somethingToSend_iff s).mpr sends
      by_cases beacon : s.link.up = false ∧ s.link.beacon = some 0
      · simp [sends, rests, beacon, isOut]
      · have not_due : (!s.link.up && isOut s.link.beacon) = false := by
          rw [Bool.eq_false_iff, Ne, Bool.and_eq_true, Bool.not_eq_true', isOut_iff]
          exact beacon
        simp only [sends, not_due, rests, Bool.false_eq_true, if_false, List.not_mem_nil, false_iff]
        simpa using fun _ down out => beacon ⟨down, out⟩
  · by_cases out : x.timeLeft = 0 <;> simp [out]

theorem mem_dueReplay : e ∈ dueReplay s ↔ e = .replayTimerExpiry ∧ Due s .replayTimerExpiry := by
  have due : isOut (s.link.replayTimer.map ReplayTimer.timeLeft) = true ↔ Due s .replayTimerExpiry := by
    rw [isOut_iff, Option.map_eq_some_iff]
    rfl
  unfold dueReplay
  rw [List.mem_ite_nil_right, due]
  simp [and_comm]

/-! ## The ports (04 R64, R70) -/

theorem idleChoice_isSome_iff (x : Port) (c : Option Entry) : (idleChoice x c).isSome = true ↔
    (∃ op ∈ x.opQueue, op.holdOff = none) ∨ c ≠ none ∨ (∃ j o, x.offers.get j = some o ∧ o.holdOff = none)
      ∨ x.pendingFill ≠ none := by
  have operation : x.oldestOperation = none ↔ ¬∃ op ∈ x.opQueue, op.holdOff = none := by
    rw [oldestOperation_none_iff]
    simp [Option.isSome_iff_ne_none]
  have chunk : x.waitingChunk.isSome = true ↔ ∃ j o, x.offers.get j = some o ∧ o.holdOff = none :=
    waitingChunk_isSome_iff
  rw [← chunk]
  rcases oldest : x.oldestOperation with _ | op
  · simp only [operation.mp oldest, false_or]
    rcases waits : x.waitingChunk with _ | ⟨j, o⟩
    · rcases c with _ | e
      · rw [idleChoice_fill oldest waits]
        simp [Option.isSome_iff_ne_none]
      · rw [idleChoice_host oldest (.inl waits)]
        simp
    · rcases c with _ | e
      · rw [idleChoice_chunk oldest waits (.inl rfl)]
        simp
      · by_cases share : x.shareCount < x.settings.jobShare.toNat
        · rw [idleChoice_host oldest (.inr share)]
          simp
        · rw [idleChoice_chunk oldest waits (.inr (Nat.le_of_not_lt share))]
          simp
  · rw [idleChoice_operation oldest]
    have some_ : ∃ op ∈ x.opQueue, op.holdOff = none := by
      by_contra none_
      rw [operation.mpr none_] at oldest
      cases oldest
    simp [some_]

theorem arbiterChoice_isSome_iff (s : State) (p : Fin 4) : (arbiterChoice p s).isSome = true ↔ MayStart s p := by
  unfold MayStart
  dsimp only
  rcases txn : (s.ports.get p).txn with _ | q
  · rcases lock : (s.ports.get p).lock with _ | l
    · by_cases held : (s.ports.get p).holds = ⟨false, false, false⟩
      · have choice := arbiterChoice_free (s := s) ⟨txn, lock, held⟩
        rw [choice, idleChoice_isSome_iff]
        simp [held]
      · rw [arbiterChoice_held lock held]
        simp [held]
    · rw [arbiterChoice_locked txn lock]
      cases holdOff : (s.tags.get l.tag).holdOff <;> simp [holdOff]
  · rw [arbiterChoice_busy (by rw [txn]; rfl)]
    simp

theorem mem_duePort {p : Fin 4} : e ∈ duePort s p ↔ (e = .portStart p ∧ Due s (.portStart p))
    ∨ (e = .responseLimitExpiry p ∧ Due s (.responseLimitExpiry p)) := by
  have start : (arbiterChoice p s).isSome = true ↔ Due s (.portStart p) := arbiterChoice_isSome_iff s p
  have limit : isOut ((s.ports.get p).txn.map Txn.timeLeft) = true ↔ Due s (.responseLimitExpiry p) := by
    rw [isOut_iff, Option.map_eq_some_iff]
    rfl
  unfold duePort
  rw [List.mem_append, List.mem_ite_nil_right, List.mem_ite_nil_right, start, limit, List.mem_singleton,
    List.mem_singleton, and_comm, @and_comm (Due s (.responseLimitExpiry p))]

/-! ## The hold-offs and the completion timers (03 R50, 04 R65) -/

theorem mem_dueTag {k : Fin 32} : e ∈ dueTag s k ↔ (e = .completionTimerExpiry k ∧ Due s (.completionTimerExpiry k))
    ∨ (e = .holdOffExpiry (.request k) ∧ Due s (.holdOffExpiry (.request k))) := by
  have timer : (tagCounts s (s.tags.get k) && (s.tags.get k).timeLeft == 0) = true ↔ Due s (.completionTimerExpiry k) := by
    rw [Bool.and_eq_true, tagCounts_iff, beq_iff_eq]
    rfl
  have holdOff : isOut (s.tags.get k).holdOff = true ↔ Due s (.holdOffExpiry (.request k)) := isOut_iff _
  unfold dueTag
  rw [List.mem_append, List.mem_ite_nil_right, List.mem_ite_nil_right, timer, holdOff, List.mem_singleton,
    List.mem_singleton, and_comm, @and_comm (Due s (.holdOffExpiry (.request k)))]

theorem mem_dueSlot {k : Fin 32} : e ∈ dueSlot s k ↔
    e = .holdOffExpiry (.posted k) ∧ Due s (.holdOffExpiry (.posted k)) := by
  have holdOff : isOut ((s.pool.get k).bind Posted.holdOff) = true ↔ Due s (.holdOffExpiry (.posted k)) := by
    rw [isOut_iff, Option.bind_eq_some_iff]
    rfl
  unfold dueSlot
  rw [List.mem_ite_nil_right, holdOff, List.mem_singleton, and_comm]

theorem mem_dueChunk {j : Fin 4} : e ∈ dueChunk s j ↔
    e = .holdOffExpiry (.chunk j) ∧ Due s (.holdOffExpiry (.chunk j)) := by
  have holdOff : ((Table.indices 4).any fun p => isOut (((s.ports.get p).offers.get j).bind Offer.holdOff)) = true
      ↔ Due s (.holdOffExpiry (.chunk j)) := by
    simp only [List.any_eq_true, Table.mem_indices, true_and, isOut_iff, Option.bind_eq_some_iff]
    rfl
  unfold dueChunk
  rw [List.mem_ite_nil_right, holdOff, List.mem_singleton, and_comm]

theorem mem_dueOperation {i : Fin 32} : e ∈ dueOperation s i ↔
    e = .holdOffExpiry (.operation i) ∧ Due s (.holdOffExpiry (.operation i)) := by
  have holdOff : ((s.ports.get (portOfSource i)).opQueue.any fun op => op.source == i && isOut op.holdOff) = true
      ↔ Due s (.holdOffExpiry (.operation i)) := by
    simp only [List.any_eq_true, Bool.and_eq_true, beq_iff_eq, isOut_iff]
    rfl
  unfold dueOperation
  rw [List.mem_ite_nil_right, holdOff, List.mem_singleton, and_comm]

/-! ## All of them -/

theorem mem_dueEvents (high : s.pins.resetLow = false) : e ∈ dueEvents s ↔ e ∈ dueReceive s ∨ e ∈ dueLine s
    ∨ e ∈ dueReplay s ∨ (∃ p, e ∈ duePort s p) ∨ (∃ k, e ∈ dueTag s k) ∨ (∃ k, e ∈ dueSlot s k)
    ∨ (∃ j, e ∈ dueChunk s j) ∨ ∃ i, e ∈ dueOperation s i := by
  unfold dueEvents
  rw [if_neg (by simp [high])]
  simp only [List.mem_append, List.mem_flatMap, Table.mem_indices, true_and, or_assoc]

theorem due_of_mem (high : s.pins.resetLow = false) (mem : e ∈ dueEvents s) : Due s e := by
  rcases (mem_dueEvents high).mp mem with h | h | h | ⟨p, h⟩ | ⟨k, h⟩ | ⟨k, h⟩ | ⟨j, h⟩ | ⟨i, h⟩
  · exact due_of_mem_dueReceive h
  · rcases mem_dueLine.mp h with ⟨rfl, due⟩ | ⟨rfl, due⟩ <;> exact due
  · obtain ⟨rfl, due⟩ := mem_dueReplay.mp h
    exact due
  · rcases mem_duePort.mp h with ⟨rfl, due⟩ | ⟨rfl, due⟩ <;> exact due
  · rcases mem_dueTag.mp h with ⟨rfl, due⟩ | ⟨rfl, due⟩ <;> exact due
  · obtain ⟨rfl, due⟩ := mem_dueSlot.mp h
    exact due
  · obtain ⟨rfl, due⟩ := mem_dueChunk.mp h
    exact due
  · obtain ⟨rfl, due⟩ := mem_dueOperation.mp h
    exact due

theorem mem_of_due (high : s.pins.resetLow = false) (due : Due s e) : e ∈ dueEvents s := by
  rw [mem_dueEvents high]
  by_cases frame : (encodeHostFrame e).isSome = true
  · exact .inl ((mem_dueReceive_frame frame).mpr due)
  · cases e with
    | frameCrcFailure hrx => exact .inl ((mem_dueReceive_failed hrx).mpr due)
    | frameTransmitEnd => exact .inr (.inl (mem_dueLine.mpr (.inl ⟨rfl, due⟩)))
    | beaconTimerExpiry => exact .inr (.inl (mem_dueLine.mpr (.inr ⟨rfl, due⟩)))
    | replayTimerExpiry => exact .inr (.inr (.inl (mem_dueReplay.mpr ⟨rfl, due⟩)))
    | portStart p => exact .inr (.inr (.inr (.inl ⟨p, mem_duePort.mpr (.inl ⟨rfl, due⟩)⟩)))
    | responseLimitExpiry p => exact .inr (.inr (.inr (.inl ⟨p, mem_duePort.mpr (.inr ⟨rfl, due⟩)⟩)))
    | completionTimerExpiry k => exact .inr (.inr (.inr (.inr (.inl ⟨k, mem_dueTag.mpr (.inl ⟨rfl, due⟩)⟩))))
    | holdOffExpiry item =>
      right; right; right; right
      cases item with
      | request k => exact .inl ⟨k, mem_dueTag.mpr (.inr ⟨rfl, due⟩)⟩
      | posted k => exact .inr (.inl ⟨k, mem_dueSlot.mpr ⟨rfl, due⟩⟩)
      | chunk j => exact .inr (.inr (.inl ⟨j, mem_dueChunk.mpr ⟨rfl, due⟩⟩))
      | operation i => exact .inr (.inr (.inr ⟨i, mem_dueOperation.mpr ⟨rfl, due⟩⟩))
    | _ =>
      obtain ⟨content, after, -, -, read⟩ := due
      rw [read] at frame
      exact absurd (decode_isFrame content) frame

/-- Settles O2: the idle step by the number of due events, the timers, and the events that are due. -/
theorem emptyQueueLetsTheBlockAct : Obligations.EmptyQueueLetsTheBlockAct := by
  refine ⟨fun s idle => ⟨fun low => ?_, step_none idle, fun e => step_one idle, step_several idle⟩,
    fun s high => ?_, fun s high e => ⟨due_of_mem high, mem_of_due high⟩⟩
  · rw [step_none idle (dueEvents_low low), tick_low low]
  · intro t less
    have rows (k : Fin 32) : t.tags.get k = tickTag s (s.tags.get k) := by
      simp only [t, tick_eq high, Table.get_map]
    refine ⟨?_, fun k => ⟨fun counts => (rows k).trans (tickTag_counts counts),
      fun stands => (rows k).trans (tickTag_stands stands)⟩⟩
    simp only [t, tick_eq high]
    rfl

end Sys2Proof.Proofs.Time
